-- ==== Sys2Proof/Word.lean ====
section
/-! DEFINITION. Word.lean: the words the manual reads as bits. -/
namespace Sys2Proof

/-- One byte of a beat (00_scope.md, "Conventions": a beat is 64 bytes). -/
abbrev Byte := BitVec 8

/-- A 16-bit sequence number, of a commit (R24) or of a directive trigger (R179); it wraps. -/
abbrev Seq := BitVec 16

/-- A 40-bit byte address on the swath memory link (00_scope.md, "Conventions"). -/
abbrev Addr := BitVec 40

end Sys2Proof
end

