-- ==== Sys2Proof/Syntax.lean ====
section
/-! DEFINITION. Syntax.lean: the commands of the block, one constructor per row of spec/opcode_table.json. -/
namespace Sys2Proof

/-- The five ink channels in the order 0 to 4 (00_scope.md, "Conventions": MK, DG, C, M, Y). -/
inductive Chan where
  | matteBlack | darkGrey | cyan | magenta | yellow
  deriving DecidableEq, Repr

/-- The two rolls (00_scope.md, "Conventions"). -/
inductive Roll where
  | a | b
  deriving DecidableEq, Repr

/-- The requester classes of the link (section 1.1). -/
inductive ReqClass where
  | raster | fetch | general
  deriving DecidableEq, Repr

/-- The direction of a request (section 1.1). -/
inductive Direction where
  | read | write
  deriving DecidableEq, Repr

/-- One data beat of a write request: 64 bytes and one byte enable per byte (section 1.1). -/
structure WriteBeat where
  data : List Byte
  enable : List Bool
  deriving DecidableEq, Repr

/-- The index of a job slot, 0 to 63 (02_job_slots.md). -/
abbrev SlotIx := Fin 64

/-- How a line command reaches the part (log 3): `filtered` is the change of the filtered state itself, `pin` the change of the
pin's level alone, which the sampling ticks filter (R91, R130, R154). -/
inductive LineInput where
  | filtered | pin
  deriving DecidableEq, Repr

/-- The commands. A request of several beats is a `plainWrite` with its data beats, or a `planeFetchRead` with the data that
memory returned for each of its beats, from its own address on and in its class (R1, log 5); every other write or read is a
request of one beat. A read of an overlay or of service data carries the data that memory returned, which R7 discards.
`active` is the state that a line takes where its row names one direction only (log 3). A command of an immediate directive
carries the trigger beat as written to 0x0C0 (R179); its body is the mailbox's copy. -/
inductive Instr where
  -- the part
  | powerOnReset (straps : BitVec 4)
  | stationInitialCapState (active : Bool)
  | linkReset
  | linkLost
  -- requests without a meaning
  | malformedRequest (dir : Direction) (addr : Addr) (beats : Nat) (cls : ReqClass) (data : List WriteBeat)
    (mem : List Byte := [])
  | plainWrite (addr : Addr) (ws : List WriteBeat)
  -- slots
  | headerWrite (slot : SlotIx) (beat : Fin 3) (w : WriteBeat)
  | openWord (slot : SlotIx) (w : WriteBeat)
  | commitWord (slot : SlotIx) (w : WriteBeat)
  | partialCommit (slot : SlotIx) (w : WriteBeat)
  | planeWrite (addr : Addr) (w : WriteBeat)
  -- reads
  | goWordRead (cls : ReqClass) (slot : SlotIx) (mem : List Byte)
  | goWordHoldExpiry
  | planeFetchRead (cls : ReqClass) (addr : Addr) (mems : List (List Byte))
  | spitFetchRead (beat : Fin 20) (mem : List Byte)
  -- the mailbox
  | mailboxBodyWrite (beat : Fin 3) (w : WriteBeat)
  | directiveUnknownKind (w : WriteBeat)
  | pause (w : WriteBeat)
  | resume (w : WriteBeat)
  | cancelSheet (w : WriteBeat)
  | cancelAll (w : WriteBeat)
  | cartridgeInstalled (w : WriteBeat)
  | calibratePump (w : WriteBeat)
  | rollLoaded (w : WriteBeat)
  | rollUnload (w : WriteBeat)
  | mediaReset (w : WriteBeat)
  | serviceNow (w : WriteBeat)
  | serviceReset (w : WriteBeat)
  | headReplaced (w : WriteBeat)
  | releaseSlot (w : WriteBeat)
  | setMasks (w : WriteBeat)
  | countersClear (w : WriteBeat)
  -- ink
  | starved
  | strokeComplete (ch : Chan)
  | lowFloatAssert (ch : Chan) (how : LineInput := .filtered)
  | lowFloatDeassert (ch : Chan) (how : LineInput := .filtered)
  | fullFloatAssert (ch : Chan) (how : LineInput := .filtered)
  | fullFloatDeassert (ch : Chan) (how : LineInput := .filtered)
  | presenceActive (ch : Chan) (how : LineInput := .filtered)
  | presenceInactive (ch : Chan) (how : LineInput := .filtered)
  -- the station
  | callTimeout
  | carriageArrives (how : LineInput := .filtered)
  | stationLost (how : LineInput := .filtered)
  | cappedLineActive (active : Bool := true) (how : LineInput := .filtered)
  | openLineActive (active : Bool := true) (how : LineInput := .filtered)
  | capFault
  | wiperHomeActive (active : Bool := true) (how : LineInput := .filtered)
  | wiperFault
  | suctionEnd
  | decapExpiry (ch : Chan)
  | idleTimerExpiry
  -- media
  | feedEncoderPulse
  | feedStall
  | cutterHomeActive (active : Bool := true) (how : LineInput := .filtered)
  | cutterFault
  | rollPresentActive (r : Roll) (how : LineInput := .filtered)
  | rollPresentInactive (r : Roll) (how : LineInput := .filtered)
  | rollEndLineActive (r : Roll) (active : Bool := true) (how : LineInput := .filtered)
  | feedPathClearActive (active : Bool := true) (how : LineInput := .filtered)
  | platenMediaActive (how : LineInput := .filtered)
  | platenMediaInactive (how : LineInput := .filtered)
  -- the beats that remove what they return
  | eventBeatRead (cls : ReqClass) (mem : List Byte)
  | retirementBeatRead (cls : ReqClass) (mem : List Byte)
  deriving DecidableEq, Repr

end Sys2Proof
end

