-- ==== Sys2Proof/Decode.lean ====
section
/-! DEFINITION. Decode.lean: words to commands. The block has no instruction words: spec/opcode_table.json gives no row
any bits (98_reader.md: n_rows_with_fixed and n_rows_with_fields are 0), so no word spells a command (log 21). -/
namespace Sys2Proof

/-- The command that the `nbits`-bit word `w` spells by the bits of the table: none, for no row gives bits. -/
def decodeTableWord (_nbits _w : Nat) : Option Instr := none

end Sys2Proof
end

