-- ==== Sys2Proof/Config.lean ====
section
/-! DEFINITION. Config.lean: what the manual leaves open. Each constant has no body, so nothing can be proved of its value. -/
namespace Sys2Proof.Config

/-- FREE VALUE (log 11). What the 48-bit wipe volume counter holds after an addition whose exact sum does
not fit it (R148 gives the width and no overflow), as a function of that sum. -/
opaque wipePastWidth : Nat → BitVec 48

/-- FREE VALUE (log 11). What a refill run's stroke count holds after an increment past 65,535 (section 5.2
gives the range and no rule past it), as a function of the exact count. -/
opaque strokesPastWidth : Nat → BitVec 16

end Sys2Proof.Config
end

