-- ==== Sys2Proof/Machine/Bytes.lean ====
section
/-! DEFINITION. Machine/Bytes.lean: bytes, little-endian fields and byte enables (00_scope.md, "Conventions"; R19, R21, R179). -/
namespace Sys2Proof

/-- The enable of byte `k` of a write beat. -/
def WriteBeat.en (w : WriteBeat) (k : Nat) : Bool := w.enable.getD k false

/-- Byte `k` of a write beat as a number. -/
def WriteBeat.byte (w : WriteBeat) (k : Nat) : Nat := (w.data.getD k 0).toNat

/-- Word 0 of an exchange beat has at least one byte enabled (R21). -/
def WriteBeat.hasOpen (w : WriteBeat) : Bool := (List.range 8).any w.en

/-- Word 1 of an exchange beat has both of its two lowest bytes enabled (R21). -/
def WriteBeat.hasCommit (w : WriteBeat) : Bool := w.en 8 && w.en 9

/-- Word 1 of an exchange beat has at least one byte enabled (R21). -/
def WriteBeat.touchesWord1 (w : WriteBeat) : Bool := (List.range 8).any fun k => w.en (8 + k)

/-- The sequence number of a commit word: the 16-bit value in bytes 8 and 9 (R21, 11.2). -/
def WriteBeat.commitSeq (w : WriteBeat) : Seq := BitVec.ofNat 16 (w.byte 8 + 256 * w.byte 9)

/-- Every byte of the trigger word that holds the kind or the directive sequence is enabled (R179; bytes 0, 2 and 3, 11.2). -/
def WriteBeat.isTrigger (w : WriteBeat) : Bool := w.en 0 && w.en 2 && w.en 3

/-- The directive sequence of a trigger word: bytes 2 and 3 (11.2). -/
def WriteBeat.triggerSeq (w : WriteBeat) : Seq := BitVec.ofNat 16 (w.byte 2 + 256 * w.byte 3)

namespace Machine

/-- Byte `k` of a record, as a number; a record is read only inside its own length. -/
def byteAt (b : List Byte) (k : Nat) : Nat := (b.getD k 0).toNat

/-- The little-endian number in the `n` bytes from byte `k` (00_scope.md, "Multi-byte fields"). -/
def leAt (b : List Byte) (k : Nat) : Nat → Nat
  | 0 => 0
  | n + 1 => byteAt b k + 256 * leAt b (k + 1) n

/-- The signed value of a field of `n` bytes, in two's complement (R195). -/
def signedAt (b : List Byte) (k n : Nat) : Int :=
  let v := leAt b k n
  if 2 * v < 256 ^ n then (v : Int) else (v : Int) - (256 ^ n : Nat)

/-- Bit number `k` of a number is included in it (00_scope.md of sets: "the value 2 to the power k"; chapter 11). -/
def hasBit (v k : Nat) : Bool := v / 2 ^ k % 2 == 1

/-- A record after a write beat over its bytes `off` to `off + 63`: each enabled byte is replaced, each other byte is
kept (R19, R178). `pos` is the position of the head of the list. -/
def mergeFrom (pos off : Nat) (w : WriteBeat) : List Byte → List Byte
  | [] => []
  | b :: bs => (if off ≤ pos && decide (pos < off + 64) && w.en (pos - off) then w.data.getD (pos - off) 0 else b) :: mergeFrom (pos + 1) off w bs

/-- A record after a write beat at byte offset `off` (R19, R178). -/
def mergeBeat (b : List Byte) (off : Nat) (w : WriteBeat) : List Byte := mergeFrom 0 off w b

/-- As `mergeBeat`, but only the bytes that `may` allows are replaced (R20, slot OPEN). -/
def mergeBeatWhere (may : Nat → Bool) (b : List Byte) (off : Nat) (w : WriteBeat) : List Byte :=
  mergeBeat b off { w with enable := (List.range 64).map fun k => w.en k && may (off + k) }

/-- The `n` little-endian bytes of a number, which is shown as the largest value of the field when it is above it (R198). -/
def leBytes (n v : Nat) : List Byte :=
  let v := min v (256 ^ n - 1)
  (List.range n).map fun k => BitVec.ofNat 8 (v / 256 ^ k)

/-- A beat with `f` written over its bytes from `off` on. -/
def putAt (off : Nat) (f : List Byte) (beat : List Byte) : List Byte := beat.take off ++ f ++ beat.drop (off + f.length)

/-- A beat whose every byte is 0 (R195: a byte that no table names is returned as 0). -/
def zeroBeat : List Byte := List.replicate 64 0

/-- An overlay beat from its fields, each a byte offset, a length in bytes and a value (R195, R198). -/
def buildBeat (fields : List (Nat × Nat × Nat)) : List Byte :=
  fields.foldl (fun b f => putAt f.1 (leBytes f.2.1 f.2.2) b) zeroBeat

/-- The value of a flag field in an overlay (R195). -/
def flagVal (b : Bool) : Nat := if b then 1 else 0

end Machine
end Sys2Proof
end

