-- ==== Sys2Proof/Machine/Types.lean ====
section
/-! DEFINITION. Machine/Types.lean: the pieces of state, each as its chapter describes it. Plain data only. -/
namespace Sys2Proof

/-- The channels in channel order. -/
def Chan.all : List Chan := [.matteBlack, .darkGrey, .cyan, .magenta, .yellow]

/-- The number of a channel (00_scope.md, "Channels"). -/
def Chan.num : Chan → Nat
  | .matteBlack => 0
  | .darkGrey => 1
  | .cyan => 2
  | .magenta => 3
  | .yellow => 4

/-- The channel of a number, if there is one. -/
def Chan.ofNum? : Nat → Option Chan
  | 0 => some .matteBlack
  | 1 => some .darkGrey
  | 2 => some .cyan
  | 3 => some .magenta
  | 4 => some .yellow
  | _ => none

/-- The channel of a byte offset in the service area: offset ÷ 256, rounded down (R5, R139). -/
def Chan.ofServiceOffset (o : Nat) : Chan := (Chan.ofNum? (o / 256)).getD .yellow

/-- The number of a roll, as a directive and an event give it (R157, 10.1). -/
def Roll.num : Roll → Nat
  | .a => 0
  | .b => 1

/-- The other roll. -/
def Roll.other : Roll → Roll
  | .a => .b
  | .b => .a

/-- The roll of a number, if there is one. -/
def Roll.ofNum? : Nat → Option Roll
  | 0 => some .a
  | 1 => some .b
  | _ => none

end Sys2Proof

namespace Sys2Proof.Machine

/-! ### Five channels -/

/-- One value for each of the five channels (00_scope.md, "Channels"). -/
structure PerChan (α : Type) where
  matteBlack : α
  darkGrey : α
  cyan : α
  magenta : α
  yellow : α
  deriving DecidableEq, Repr

/-- The value of one channel. -/
def PerChan.get {α : Type} (p : PerChan α) : Chan → α
  | .matteBlack => p.matteBlack
  | .darkGrey => p.darkGrey
  | .cyan => p.cyan
  | .magenta => p.magenta
  | .yellow => p.yellow

/-- The value of one channel replaced. -/
def PerChan.set {α : Type} (p : PerChan α) (c : Chan) (v : α) : PerChan α :=
  match c with
  | .matteBlack => { p with matteBlack := v }
  | .darkGrey => { p with darkGrey := v }
  | .cyan => { p with cyan := v }
  | .magenta => { p with magenta := v }
  | .yellow => { p with yellow := v }

/-- The five values of a function of the channel. -/
def PerChan.of {α : Type} (f : Chan → α) : PerChan α :=
  ⟨f .matteBlack, f .darkGrey, f .cyan, f .magenta, f .yellow⟩

/-- A set of channels. -/
abbrev ChanSet := PerChan Bool

/-- The empty set of channels. -/
def ChanSet.empty : ChanSet := PerChan.of fun _ => false

/-- The set of one channel. -/
def ChanSet.single (c : Chan) : ChanSet := PerChan.of fun d => decide (d = c)

/-- Whether a set holds no channel. -/
def ChanSet.isEmpty (s : ChanSet) : Bool := !(Chan.all.any s.get)

/-- The union of two sets. -/
def ChanSet.union (s t : ChanSet) : ChanSet := PerChan.of fun c => s.get c || t.get c

/-- Two sets share a channel. -/
def ChanSet.meets (s t : ChanSet) : Bool := Chan.all.any fun c => s.get c && t.get c

/-- The channels of `s` that `t` does not hold. -/
def ChanSet.minus (s t : ChanSet) : ChanSet := PerChan.of fun c => s.get c && !t.get c

/-- The lowest channel of a set as an event subject, or 0xFF for an empty set (R133, R135). -/
def ChanSet.subject (s : ChanSet) : Nat := ((Chan.all.find? s.get).map Chan.num).getD 0xFF

/-- A set as a number: channel `c` is the value 2 to the power `c` (10.1, chapter 11). -/
def ChanSet.mask (s : ChanSet) : Nat := (Chan.all.map fun c => if s.get c then 2 ^ c.num else 0).sum

/-- The set of channels of a mask byte. -/
def ChanSet.ofMask (v : Nat) : ChanSet := PerChan.of fun c => v / 2 ^ c.num % 2 == 1

/-! ### Sensor lines (R91, R130, R154) -/

/-- The filtered state of a line. -/
inductive LineState where
  | inactive | active | unknown
  deriving DecidableEq, Repr

/-- The code of a line state (11.5). -/
def LineState.code : LineState → Nat
  | .inactive => 0
  | .active => 1
  | .unknown => 2

/-- A sampled line: its filtered state, the sample history (the number of samples in a row that agree on a value different
from it, and that value), and the level of the pin where it is known (log 4). -/
structure Line where
  filt : LineState
  run : Nat
  last : Bool
  pin : Option Bool
  deriving DecidableEq, Repr

/-- The state that a sampled level stands for. -/
def LineState.ofLevel (b : Bool) : LineState := if b then .active else .inactive

/-- The sensor lines of the part (11.7). -/
inductive LineId where
  | lowFloat (c : Chan) | fullFloat (c : Chan) | presence (c : Chan)
  | capped | openLine | wiperHome | carriage
  | rollPresent (r : Roll) | rollEnd (r : Roll)
  | feedPath | platen | cutterHome
  deriving DecidableEq, Repr

/-! ### Job slots (chapter 2) -/

/-- The slot states, in the order of section 2.1. -/
inductive SlotState where
  | free | opened | posted | held | admitted | firing | advancing | retired
  deriving DecidableEq, Repr

/-- The code of a slot state: 0 FREE to 7 RETIRED (11.4). -/
def SlotState.code : SlotState → Nat
  | .free => 0
  | .opened => 1
  | .posted => 2
  | .held => 3
  | .admitted => 4
  | .firing => 5
  | .advancing => 6
  | .retired => 7

/-- The five slot kinds. -/
inductive SlotKind where
  | swath | profile | checkReport | service | mark
  deriving DecidableEq, Repr

/-- The kind code of a slot kind (11.2). -/
def SlotKind.code : SlotKind → Nat
  | .swath => 1
  | .profile => 2
  | .checkReport => 3
  | .service => 4
  | .mark => 5

/-- The slot kind of a kind code; 0 and every code above 5 is none of the five (R41, 11.2). -/
def SlotKind.ofCode? : Nat → Option SlotKind
  | 1 => some .swath
  | 2 => some .profile
  | 3 => some .checkReport
  | 4 => some .service
  | 5 => some .mark
  | _ => none

/-- The outcomes of section 2.1. -/
inductive SlotOutcome where
  | printed | skipped | rejected | cancelled | done | refused
  deriving DecidableEq, Repr

/-- The code of an outcome; 0 is none (11.4). -/
def SlotOutcome.code : SlotOutcome → Nat
  | .printed => 1
  | .skipped => 2
  | .rejected => 3
  | .cancelled => 4
  | .done => 5
  | .refused => 6

/-- The reasons of R197. -/
inductive Reason where
  | cancelled | starved | rollEnd | mediaOut | linkReset | feedFault
  | pause | sheet | media | sync | service | ink
  | kind | noColumns | noPlane | planeRange | swathsFull | windowsFull | overlap
  | sequence | header | sheetOpen | noSheet | sheetNumber | sheetTableFull | sequenceInUse | lateWrite | needCap | field
  | queueFull
  deriving DecidableEq, Repr

/-- The reason codes of R197. -/
def Reason.code : Reason → Nat
  | .cancelled => 1
  | .starved => 2
  | .rollEnd => 3
  | .mediaOut => 4
  | .linkReset => 5
  | .feedFault => 6
  | .pause => 0x10
  | .sheet => 0x11
  | .media => 0x12
  | .sync => 0x13
  | .service => 0x14
  | .ink => 0x15
  | .kind => 0x20
  | .noColumns => 0x21
  | .noPlane => 0x22
  | .planeRange => 0x23
  | .swathsFull => 0x24
  | .windowsFull => 0x25
  | .overlap => 0x26
  | .sequence => 0x30
  | .header => 0x31
  | .sheetOpen => 0x32
  | .noSheet => 0x33
  | .sheetNumber => 0x34
  | .sheetTableFull => 0x35
  | .sequenceInUse => 0x36
  | .lateWrite => 0x37
  | .needCap => 0x38
  | .field => 0x39
  | .queueFull => 0x3A

/-- Drops counted by size (R46). -/
structure Drops where
  small : Nat
  medium : Nat
  large : Nat
  deriving DecidableEq, Repr

/-- No drops. -/
def Drops.none : Drops := ⟨0, 0, 0⟩

/-- The sum of two counts. -/
def Drops.add (a b : Drops) : Drops := ⟨a.small + b.small, a.medium + b.medium, a.large + b.large⟩

/-- The per-swath counts and event flags of the Tally Unit (R47 to R55). -/
structure Tally where
  written : PerChan Drops
  fired : PerChan Drops
  volume : PerChan Nat
  unplaced : Nat
  overBudget : Nat
  lateWritePosted : Bool
  fetchOrderPosted : Bool
  budgetPosted : Bool
  deriving DecidableEq, Repr

/-- A cleared tally (R23, R56). -/
def Tally.zero : Tally :=
  { written := PerChan.of fun _ => Drops.none, fired := PerChan.of fun _ => Drops.none, volume := PerChan.of fun _ => 0,
    unplaced := 0, overBudget := 0, lateWritePosted := false, fetchOrderPosted := false, budgetPosted := false }

/-- The geometry captured at open: the columns and the five plane descriptors (section 2.1). -/
structure Geometry where
  columns : Nat
  planes : PerChan (Option Nat)
  deriving DecidableEq, Repr

/-- One slot record: the items of section 2.1, the tally of chapter 3 and what the Flow Controller holds for the swath
(section 4.1). The hold reason and detail of a HELD swath stand in `reason` and `detail` (R40). `sheet` names the sheet
record the swath was added to at commit (log 10). -/
structure Slot where
  st : SlotState
  shadow : List Byte
  kind : Option SlotKind
  geometry : Option Geometry
  seq : Option Seq
  outcome : Option SlotOutcome
  reason : Option Reason
  detail : Nat
  lateHeaders : Nat
  faults : Nat
  capVolume : PerChan Nat
  capUnplaced : Nat
  capOverBudget : Nat
  tally : Tally
  sheet : Option Nat
  need : PerChan Nat
  armed : Bool
  cancel : Option Reason
  deriving DecidableEq, Repr

/-- A slot after power-on reset and after a link reset (R41, R42, R82). -/
def Slot.reset : Slot :=
  { st := .free, shadow := List.replicate 192 0, kind := none, geometry := none, seq := none, outcome := none,
    reason := none, detail := 0, lateHeaders := 0, faults := 0, capVolume := PerChan.of fun _ => 0, capUnplaced := 0,
    capOverBudget := 0, tally := Tally.zero, sheet := none, need := PerChan.of fun _ => 0, armed := false, cancel := none }

/-- An entry of the retirement list (R36). -/
structure RetireEntry where
  seq : Option Seq
  slot : SlotIx
  outcome : SlotOutcome
  reason : Option Reason
  deriving DecidableEq, Repr

/-- The open sheet: its number and its record (section 2.1). -/
structure OpenSheet where
  number : Nat
  sid : Nat
  deriving DecidableEq, Repr

/-- The part-wide state of the Slot Parser (section 2.1). -/
structure Parser where
  expected : Seq
  lastAccepted : Option Seq
  openSheet : Option OpenSheet
  posted : List SlotIx
  retired : List RetireEntry
  retireOverflow : Nat
  deriving DecidableEq, Repr

/-- The Slot Parser's part-wide state after either reset (R41, R42). -/
def Parser.reset : Parser :=
  { expected := 0, lastAccepted := none, openSheet := none, posted := [], retired := [], retireOverflow := 0 }

/-- A window record (R43); `wid` is the window's identity (R44, log 10). -/
structure Window where
  wid : Nat
  base : Nat
  len : Nat
  slot : SlotIx
  chan : Chan
  mark : Nat
  deriving DecidableEq, Repr

/-- The six part-wide counters in counter-number order (R57). -/
structure Counters where
  strayFetches : Nat
  lateWrites : Nat
  unplaced : Nat
  overBudget : Nat
  holdExpiries : Nat
  fetchOrder : Nat
  deriving DecidableEq, Repr

/-! ### The mediator (chapter 1) -/

/-- The link state (R13). -/
inductive LinkState where
  | up | lost
  deriving DecidableEq, Repr

/-- What a FETCH read beat reads. A plane beat keeps the window it was classed into at arrival, none when it was plain,
and the data that memory returned (R3, R44). `raw` is a malformed read with the data that memory returned for it (R1). -/
inductive FetchKind where
  | goWord (slot : SlotIx)
  | plane (addr : Nat) (wid : Option Nat) (mem : List Byte)
  | spit (beat : Fin 20)
  | event
  | retirement
  | raw (addr : Nat) (mem : List Byte)
  deriving DecidableEq, Repr

/-- A FETCH read beat; `cont` says that it belongs to the request of the beat before it. -/
structure FetchBeat where
  kind : FetchKind
  cont : Bool
  deriving DecidableEq, Repr

/-- What the part forwards to memory, one record for a request: a write with its beats, a read with its number of beats, a malformed
request as it came (R1, R2, R3). -/
inductive Forward where
  | write (addr : Nat) (ws : List WriteBeat)
  | read (addr : Nat) (beats : Nat) (cls : ReqClass)
  | malformed (dir : Direction) (addr : Nat) (beats : Nat) (cls : ReqClass) (data : List WriteBeat)
  deriving DecidableEq, Repr

/-- A FETCH read request: what is forwarded for it, and what its beats read, in order (R1, R3). -/
structure FetchReq where
  forwarded : Forward
  beats : List FetchKind
  deriving DecidableEq, Repr

/-- An answered read beat: the class it answers, the byte address and the 64 bytes returned (R7); for a malformed read, the whole of
its data in one record (R1). -/
structure Answer where
  cls : ReqClass
  addr : Nat
  data : List Byte
  deriving DecidableEq, Repr

/-- The Path Mediator's link items (R4, R9, R10, R13). `gathered` are the answered beats of the FETCH read whose response is not yet
complete (R3); `waiting` the FETCH reads behind the held read (R3); `stalled` those the link has not accepted (R3, log 9). -/
structure Link where
  straps : BitVec 4
  state : LinkState
  silence : Nat
  lostMs : Nat
  held : Option SlotIx
  holdMs : Nat
  gathered : List Answer
  waiting : List FetchBeat
  stalled : List FetchReq
  deriving DecidableEq, Repr

/-- The outputs of the last command (log 6). -/
structure Outputs where
  answers : List Answer
  forwarded : List Forward
  deriving DecidableEq, Repr

/-! ### Flow (chapter 4) -/

/-- The Flow Controller's part-wide items (section 4.1). -/
structure Flow where
  pause : Bool
  starveMs : Nat
  starvedPosted : Bool
  deriving DecidableEq, Repr

/-! ### Ink (chapter 5) -/

/-- The cartridge states of section 5.6. -/
inductive CartState where
  | absent | present | active | empty
  deriving DecidableEq, Repr

/-- The code of a cartridge state (R101, R103). -/
def CartState.code : CartState → Nat
  | .absent => 0
  | .present => 1
  | .active => 2
  | .empty => 3

/-- Why a cartridge became EMPTY (R102). -/
inductive EmptyReason where
  | estimate | dry
  deriving DecidableEq, Repr

/-- The code of an empty reason (R102). -/
def EmptyReason.code : EmptyReason → Nat
  | .estimate => 1
  | .dry => 2

/-- The phases of a refill run (section 5.2). -/
inductive Phase where
  | credited | overrun | uncredited | measuring
  deriving DecidableEq, Repr

/-- The code of a phase (11.5). -/
def Phase.code : Phase → Nat
  | .credited => 0
  | .overrun => 1
  | .uncredited => 2
  | .measuring => 3

/-- The states of pump calibration (section 5.2). -/
inductive CalState where
  | idle | armed | measuring | done | bad
  deriving DecidableEq, Repr

/-- The code of a calibration state (R104). -/
def CalState.code : CalState → Nat
  | .idle => 0
  | .armed => 1
  | .measuring => 2
  | .done => 3
  | .bad => 4

/-- One channel record (section 5.2). Volumes in pL, the declared volume in µL. -/
structure InkChan where
  level : Nat
  reserved : Nat
  servicePart : Nat
  synced : Bool
  low : Bool
  lowFloat : Line
  fullFloat : Line
  presence : Line
  cart : CartState
  emptyReason : Option EmptyReason
  declared : Nat
  estimate : Nat
  lot : BitVec 32
  running : Bool
  phase : Phase
  strokes : Nat
  overrun : Nat
  limit : Nat
  stroke : Option Nat
  endAfter : Bool
  cal : CalState
  measured : Option Nat
  measCount : Nat
  counting : Bool
  deriving DecidableEq, Repr

/-! ### Health (chapter 6) -/

/-- The nozzle states (R112). -/
inductive NozzleState where
  | good | weak | missing | retired
  deriving DecidableEq, Repr

/-- One nozzle record (R112). -/
structure Nozzle where
  st : NozzleState
  fails : Nat
  passes : Nat
  survived : Nat
  candidate : Bool
  pending : Bool
  deriving DecidableEq, Repr

/-- A nozzle that is GOOD with every count and flag cleared (R112). -/
def Nozzle.good : Nozzle := { st := .good, fails := 0, passes := 0, survived := 0, candidate := false, pending := false }

/-- The cleaning stages (R124). -/
inductive CleanStage where
  | clear | lightAsked | lightDone | primeAsked | primeDone | degraded
  deriving DecidableEq, Repr

/-- The code of a cleaning stage: 0 CLEAR to 5 DEGRADED (11.5). -/
def CleanStage.code : CleanStage → Nat
  | .clear => 0
  | .lightAsked => 1
  | .lightDone => 2
  | .primeAsked => 3
  | .primeDone => 4
  | .degraded => 5

/-- What the Health Table holds for a channel: the nozzle records of nozzles 0 to 1023 in order, the cleaning stage and
the report items (R112, R124, R128). The summary of R113 is computed from the records. -/
structure HealthChan where
  nozzles : List Nozzle
  stage : CleanStage
  reports : BitVec 32
  lastReport : Option Seq
  deriving DecidableEq, Repr

/-! ### Service (chapter 7) -/

/-- The station states (section 7.1). -/
inductive Station where
  | capped | uncapped | calling | uncapping | capping | wiping | spitting | suction | fault
  deriving DecidableEq, Repr

/-- The code of a station state: CAPPED 0 to FAULT 8 (11.5). -/
def Station.code : Station → Nat
  | .capped => 0
  | .uncapped => 1
  | .calling => 2
  | .uncapping => 3
  | .capping => 4
  | .wiping => 5
  | .spitting => 6
  | .suction => 7
  | .fault => 8

/-- The cap position (section 7.1). -/
inductive CapPos where
  | closed | opened
  deriving DecidableEq, Repr

/-- The levels of a service request (section 7.2). -/
inductive Level where
  | spit | wipe | light | prime | cap | uncap
  deriving DecidableEq, Repr

/-- The level codes (section 7.2). -/
def Level.code : Level → Nat
  | .spit => 1
  | .wipe => 2
  | .light => 3
  | .prime => 4
  | .cap => 5
  | .uncap => 6

/-- The level of a level code, if it is one of 1 to 6. -/
def Level.ofCode? : Nat → Option Level
  | 1 => some .spit
  | 2 => some .wipe
  | 3 => some .light
  | 4 => some .prime
  | 5 => some .cap
  | 6 => some .uncap
  | _ => none

/-- The states of a request record (R132). -/
inductive ReqState where
  | queued | waitingInk | running
  deriving DecidableEq, Repr

/-- The code of a request state (11.5). -/
def ReqState.code : ReqState → Nat
  | .queued => 0
  | .waitingInk => 1
  | .running => 2

/-- A request record (R132). -/
structure ServiceReq where
  level : Level
  chans : ChanSet
  flow : Bool
  started : Bool
  state : ReqState
  deriving DecidableEq, Repr

/-- The steps of a request (section 7.2). -/
inductive Step where
  | cap | uncap | wipe | spit | suction
  deriving DecidableEq, Repr

/-- What is to happen when the step in flight ends otherwise than in its request's course: the request returns to the
queue (R144, R152, R153), a cap step follows (R152), a flow request leaves instead of returning (R153), the wipe does not
clear its counter (R144), the step is the cap step outside the queue (R152). -/
structure StepEnd where
  returns : Bool
  capAfter : Bool
  dropFlow : Bool
  lostWipe : Bool
  outside : Bool
  deriving DecidableEq, Repr

/-- A step that ends in its request's course. -/
def StepEnd.normal : StepEnd := { returns := false, capAfter := false, dropFlow := false, lostWipe := false, outside := false }

/-- The working items of a spit step (R137, R139); `reserved` says that the ink of the running request's spit is reserved, `refused`
that its reservation before the spit step of a PRIME has been refused and waits for an ink report. -/
structure SpitWork where
  reserved : Bool
  refused : Bool
  set : ChanSet
  own : PerChan Nat
  passes : Nat
  mark : Nat
  counted : PerChan Nat
  deriving DecidableEq, Repr

/-- No spit work. -/
def SpitWork.none : SpitWork :=
  { reserved := false, refused := false, set := ChanSet.empty, own := PerChan.of fun _ => 0, passes := 0, mark := 0, counted := PerChan.of fun _ => 0 }

/-- A channel's decap timer and stale flag (R146, R147). The timer runs while the cap is OPEN and it has not expired. -/
structure Decap where
  ms : Nat
  expired : Bool
  stale : Bool
  deriving DecidableEq, Repr

/-- What the Service Sequencer holds (chapter 7). -/
structure Service where
  station : Station
  cap : CapPos
  resting : CapPos
  queue : List ServiceReq
  steps : List Step
  asking : Bool
  callMs : Nat
  callRunning : Bool
  motorMs : Nat
  toSuck : List Chan
  spit : SpitWork
  stepEnd : StepEnd
  decap : PerChan Decap
  spitOwed : ChanSet
  wipeVolume : Nat
  idleMs : Nat
  capWantedPosted : Bool
  cappedLine : Line
  openLine : Line
  wiperLine : Line
  carriageLine : Line
  deriving DecidableEq, Repr

/-! ### Media (chapter 8) -/

/-- The roll states, in the order of section 8.2. -/
inductive RollState where
  | absent | present | loaded | threading | active | ended | out | rewinding
  deriving DecidableEq, Repr

/-- The code of a roll state, in the order of section 8.2 (R157). -/
def RollState.code : RollState → Nat
  | .absent => 0
  | .present => 1
  | .loaded => 2
  | .threading => 3
  | .active => 4
  | .ended => 5
  | .out => 6
  | .rewinding => 7

/-- THREADING, ACTIVE, ENDED and REWINDING are the engaged states (section 8.2). -/
def RollState.engaged : RollState → Bool
  | .threading => true
  | .active => true
  | .ended => true
  | .rewinding => true
  | _ => false

/-- A roll's record but for its media profile, which stands with the profiles (R156). -/
structure RollRec where
  st : RollState
  remaining : Option Nat
  lowPosted : Bool
  presentLine : Line
  endLine : Line
  deriving DecidableEq, Repr

/-- The roll choice of a sheet (R160). -/
inductive RollChoice where
  | a | b | either
  deriving DecidableEq, Repr

/-- The code of a roll choice (11.2). -/
def RollChoice.code : RollChoice → Nat
  | .a => 0
  | .b => 1
  | .either => 2

/-- The states of a sheet record, in order (R160). -/
inductive SheetState where
  | pending | starting | leading | printing | trailing | cutting | done | spoiled
  deriving DecidableEq, Repr

/-- The code of a sheet state: 0 to 7 in order (R160). -/
def SheetState.code : SheetState → Nat
  | .pending => 0
  | .starting => 1
  | .leading => 2
  | .printing => 3
  | .trailing => 4
  | .cutting => 5
  | .done => 6
  | .spoiled => 7

/-- LEADING, PRINTING, TRAILING or CUTTING (R134, R183). -/
def SheetState.onPath : SheetState → Bool
  | .leading => true
  | .printing => true
  | .trailing => true
  | .cutting => true
  | _ => false

/-- The steps of a sheet start (section 8.4). -/
inductive StartStep where
  | quiet | prime | roll | ink | lead
  deriving DecidableEq, Repr

/-- The code of a start step; 0 is none (11.5). -/
def StartStep.code : StartStep → Nat
  | .quiet => 1
  | .prime => 2
  | .roll => 3
  | .ink => 4
  | .lead => 5

/-- A sheet record (R160). `spoil` is the spoiling flag with its reason. `wanted` says that MEDIA_WANTED was posted for the
present wait (R162). `sid` is the record's identity (log 10). -/
structure Sheet where
  sid : Nat
  number : Nat
  firstSeq : Seq
  choice : RollChoice
  leading : Nat
  expected : Option Nat
  inkEst : PerChan (Option Nat)
  trailing : Option Nat
  endCommitted : Bool
  swaths : Nat
  retired : Nat
  roll : Option Roll
  fed : Nat
  st : SheetState
  start : Option StartStep
  spoil : Option Reason
  inkShort : Bool
  wanted : Bool
  deriving DecidableEq, Repr

/-- The kinds of media operation (R155). -/
inductive OpKind where
  | advance | leading | trailing | clearing | rewind | thread | cut
  deriving DecidableEq, Repr

/-- The code of an operation kind (R166, 11.5). -/
def OpKind.code : OpKind → Nat
  | .advance => 1
  | .leading => 2
  | .trailing => 3
  | .clearing => 4
  | .rewind => 5
  | .thread => 6
  | .cut => 7

/-- A feed has a target in ticks (R165). -/
def OpKind.isFeed : OpKind → Bool
  | .advance => true
  | .leading => true
  | .trailing => true
  | _ => false

/-- The media operation in flight (R155). `dist` is a feed's distance in µm; `prev` is the roll engaged before a switch, for
ROLL_SWITCHED, and `next` the roll a switch's rewind makes room for (R162). -/
structure MediaOp where
  kind : OpKind
  roll : Roll
  sheet : Option Nat
  slot : Option SlotIx
  dist : Nat
  target : Nat
  progress : Nat
  ms : Nat
  limit : Nat
  prev : Option Roll
  next : Option Roll
  deriving DecidableEq, Repr

/-- A feed, cut or thread of a sheet that is due and waits for R155. -/
structure DueOp where
  kind : OpKind
  sid : Nat
  slot : Option SlotIx
  dist : Nat
  roll : Roll
  prev : Option Roll
  deriving DecidableEq, Repr

/-- What the Media Controller holds (chapter 8). -/
structure Media where
  rollA : RollRec
  rollB : RollRec
  table : List Sheet
  nextSid : Nat
  op : Option MediaOp
  due : Option DueOp
  fault : Bool
  feedPath : Line
  platen : Line
  cutterHome : Line
  deriving DecidableEq, Repr

/-! ### Profiles and the mailbox (chapter 9) -/

/-- A channel profile (section 5.1), fields 1 to 14. -/
structure ChanProfile where
  small : Nat
  medium : Nat
  large : Nat
  capacity : Nat
  fullMark : Nat
  lowMark : Nat
  refillStart : Nat
  nominal : Nat
  decapLimit : Nat
  spitPasses : Nat
  primeVolume : Nat
  suctionTime : Nat
  compensation : Bool
  cleanThreshold : Nat
  deriving DecidableEq, Repr

/-- A media profile (R156, R157). -/
structure MediaProfile where
  width : Nat
  kind : Nat
  correction : Int
  tailLength : Nat
  rollLow : Nat
  deriving DecidableEq, Repr

/-- The starvation actions (section 9.3). -/
inductive StarveAction where
  | wait | spoil
  deriving DecidableEq, Repr

/-- The release modes (R38). -/
inductive ReleaseMode where
  | auto | manual
  deriving DecidableEq, Repr

/-- The spit policies (R147). -/
inductive SpitPolicy where
  | any | needed
  deriving DecidableEq, Repr

/-- The flow profile (section 9.3), fields 1 to 7. -/
structure FlowProfile where
  starveLimit : Nat
  starveAction : StarveAction
  release : ReleaseMode
  idleCap : Nat
  wipeInterval : Nat
  midSheetWipe : Bool
  spitPolicy : SpitPolicy
  deriving DecidableEq, Repr

/-- A staged media profile; `declared` says that ROLL_LOADED staged it (R183, R184). -/
structure StagedMedia where
  profile : MediaProfile
  declared : Bool
  deriving DecidableEq, Repr

/-- The eight sections in force, their staged copies and the PROFILE records of R185. -/
structure Profiles where
  chan : PerChan ChanProfile
  mediaA : MediaProfile
  mediaB : MediaProfile
  flow : FlowProfile
  stagedChan : PerChan (Option ChanProfile)
  stagedA : Option StagedMedia
  stagedB : Option StagedMedia
  stagedFlow : Option FlowProfile
  lastExecuted : Option Seq
  lastRefused : Option (Seq × Nat)
  deriving DecidableEq, Repr

/-- The result codes (R180). -/
inductive ResultCode where
  | done | busy | invalid | state
  deriving DecidableEq, Repr

/-- The code of a result; 0 is none (11.4). -/
def ResultCode.code : ResultCode → Nat
  | .done => 1
  | .busy => 2
  | .invalid => 3
  | .state => 4

/-- The mailbox: body copy, last taken sequence and result beat (R178 to R180). -/
structure Mailbox where
  body : List Byte
  lastTaken : Option Seq
  seq : Seq
  kind : Nat
  result : Option ResultCode
  detail : Nat
  count : BitVec 16
  deriving DecidableEq, Repr

/-! ### Events (chapter 10) -/

/-- The event kinds of section 10.1. -/
inductive EventKind where
  | swathRejected | lateWrite | slotProtocol | budgetExceeded | fetchOrder | starved | markReached | retireOverflow | counterWrap
  | low | synced | resync | cartridgePresent | cartridgeRemoved | cartridgeEmpty | pumpCalDone | pumpCalBad | sheetInkShort
  | serviceCall | callTimeout | serviceDone | checkWanted | stationLost | nozzleMissing | nozzleRetired | headDegraded
  | capWanted | capFault | wiperFault | serviceQueueFull
  | sheetDone | sheetSpoiled | rollLow | rollEnd | rollOut | rollSwitched | mediaWanted | feedStall | cutterFault
  | powerUp | linkReset | linkLost | linkRestored | eventOverflow | profileApplied
  deriving DecidableEq, Repr

/-- The codes of the event kinds (section 10.1). -/
def EventKind.code : EventKind → Nat
  | .swathRejected => 0x01
  | .lateWrite => 0x02
  | .slotProtocol => 0x03
  | .budgetExceeded => 0x04
  | .fetchOrder => 0x05
  | .starved => 0x06
  | .markReached => 0x07
  | .retireOverflow => 0x08
  | .counterWrap => 0x09
  | .low => 0x20
  | .synced => 0x21
  | .resync => 0x22
  | .cartridgePresent => 0x23
  | .cartridgeRemoved => 0x24
  | .cartridgeEmpty => 0x25
  | .pumpCalDone => 0x26
  | .pumpCalBad => 0x27
  | .sheetInkShort => 0x28
  | .serviceCall => 0x40
  | .callTimeout => 0x41
  | .serviceDone => 0x42
  | .checkWanted => 0x43
  | .stationLost => 0x44
  | .nozzleMissing => 0x45
  | .nozzleRetired => 0x46
  | .headDegraded => 0x47
  | .capWanted => 0x48
  | .capFault => 0x49
  | .wiperFault => 0x4A
  | .serviceQueueFull => 0x4B
  | .sheetDone => 0x60
  | .sheetSpoiled => 0x61
  | .rollLow => 0x62
  | .rollEnd => 0x63
  | .rollOut => 0x64
  | .rollSwitched => 0x65
  | .mediaWanted => 0x66
  | .feedStall => 0x67
  | .cutterFault => 0x68
  | .powerUp => 0x80
  | .linkReset => 0x81
  | .linkLost => 0x82
  | .linkRestored => 0x83
  | .eventOverflow => 0x84
  | .profileApplied => 0x85

/-- The category of a kind: its code divided by 32, rounded down (R187). -/
def EventKind.category (k : EventKind) : Nat := k.code / 32

/-- An event record (R187). -/
structure Event where
  kind : EventKind
  subject : Nat
  d1 : Nat
  d2 : Nat
  time : BitVec 32
  deriving DecidableEq, Repr

/-- The Event Queue (R188 to R191); mask flag of category `k` is bit `k`. -/
structure EventQueue where
  recs : List Event
  overflow : Nat
  firstLoss : BitVec 32
  masks : BitVec 5
  suspend : Bool
  deriving DecidableEq, Repr

/-- The Time Base: its 32-bit reading in ms (R187) and the ms since the last 10 ms sampling tick (R91). -/
structure TimeBase where
  ms : BitVec 32
  phase : Nat
  deriving DecidableEq, Repr

/-! ### Reactions -/

/-- What a command can bring about in other blocks within its own event (log 7). Each names the test that the spec says is
made at the event: the reports of R89, R30, R59, R68, R76, R96, R134, R136, R155, R161, R174, R183. An ink report names its channels
and says whether the change was taken while the admitted count was below 2, so that it evaluates the front (R59). -/
inductive Reaction where
  | directives
  | evalFront
  | inkReport (chans : ChanSet) (front : Bool)
  | quiet
  | refill
  | idle
  | serviceStep
  | walk
  | boundary
  | sheets
  | sheetStart
  | mediaOps
  | starve
  | uncap
  | heldRead
  | drain
  | linkCheck
  deriving DecidableEq, Repr

end Sys2Proof.Machine
end

