-- ==== Sys2Proof/Machine/PowerOn.lean ====
section
/-! DEFINITION. Machine/PowerOn.lean: the power-on values of each block, from the rule of its chapter that gives them. -/
namespace Sys2Proof.Machine

/-- A sensor line after power-on reset: its filtered state is unknown (R91, R130, R154). -/
def Line.reset : Line := { filt := .unknown, run := 0, last := false, pin := none }

/-- The power-on channel profile (table of section 5.1). -/
def ChanProfile.powerOn : ChanProfile :=
  { small := 4, medium := 7, large := 12, capacity := 24000, fullMark := 22000, lowMark := 6000, refillStart := 12000,
    nominal := 50, decapLimit := 20, spitPasses := 24, primeVolume := 1200, suctionTime := 8, compensation := true,
    cleanThreshold := 8 }

/-- The power-on media profile (R156). -/
def MediaProfile.powerOn : MediaProfile := { width := 1118, kind := 0, correction := 0, tailLength := 1000, rollLow := 10 }

/-- The power-on flow profile (table of section 9.3). -/
def FlowProfile.powerOn : FlowProfile :=
  { starveLimit := 60, starveAction := .wait, release := .auto, idleCap := 120, wipeInterval := 60, midSheetWipe := false,
    spitPolicy := .any }

/-- The profiles after power-on: every section at its power-on values, nothing staged (R186). -/
def Profiles.powerOn : Profiles :=
  { chan := PerChan.of fun _ => ChanProfile.powerOn, mediaA := MediaProfile.powerOn, mediaB := MediaProfile.powerOn,
    flow := FlowProfile.powerOn, stagedChan := PerChan.of fun _ => none, stagedA := none, stagedB := none,
    stagedFlow := none, lastExecuted := none, lastRefused := none }

/-- A channel record after power-on (R110). -/
def InkChan.powerOn : InkChan :=
  { level := 0, reserved := 0, servicePart := 0, synced := false, low := true, lowFloat := Line.reset,
    fullFloat := Line.reset, presence := Line.reset, cart := .absent, emptyReason := none, declared := 0, estimate := 0,
    lot := 0, running := false, phase := .credited, strokes := 0, overrun := 0, limit := 0, stroke := none,
    endAfter := false, cal := .idle, measured := none, measCount := 0, counting := false }

/-- A channel of the Health Table after power-on: 1024 GOOD nozzles (R112, R124, R128). -/
def HealthChan.powerOn : HealthChan :=
  { nozzles := List.replicate 1024 Nozzle.good, stage := .clear, reports := 0, lastReport := none }

/-- A decap timer stopped at 0 with its stale flag clear (R131). -/
def Decap.zero : Decap := { ms := 0, expired := false, stale := false }

/-- The Service Sequencer after power-on (R131). -/
def Service.powerOn : Service :=
  { station := .capped, cap := .closed, resting := .closed, queue := [], steps := [], asking := false, callMs := 0,
    callRunning := false, motorMs := 0, toSuck := [], spit := SpitWork.none, stepEnd := StepEnd.normal,
    decap := PerChan.of fun _ => Decap.zero, spitOwed := ChanSet.empty, wipeVolume := 0, idleMs := 0,
    capWantedPosted := false, cappedLine := Line.reset, openLine := Line.reset, wiperLine := Line.reset,
    carriageLine := Line.reset }

/-- A roll after power-on (R156). -/
def RollRec.powerOn : RollRec :=
  { st := .absent, remaining := none, lowPosted := false, presentLine := Line.reset, endLine := Line.reset }

/-- The Media Controller after power-on (R154, R155, R156, R160). -/
def Media.powerOn : Media :=
  { rollA := RollRec.powerOn, rollB := RollRec.powerOn, table := [], nextSid := 0, op := none, due := none,
    fault := false, feedPath := Line.reset, platen := Line.reset, cutterHome := Line.reset }

/-- The mailbox after power-on (R178, R180). -/
def Mailbox.powerOn : Mailbox :=
  { body := List.replicate 192 0, lastTaken := none, seq := 0, kind := 0, result := none, detail := 0, count := 0 }

/-- The Event Queue after power-on: POWER_UP with the strap value, FLOW masked (R191, R194). -/
def EventQueue.powerOn (straps : BitVec 4) : EventQueue :=
  { recs := [{ kind := .powerUp, subject := 0xFF, d1 := straps.toNat, d2 := 0, time := 0 }], overflow := 0,
    firstLoss := 0, masks := 1, suspend := false }

/-- The mediator after power-on (R4, R18). -/
def Link.powerOn (straps : BitVec 4) : Link :=
  { straps := straps, state := .up, silence := 0, lostMs := 0, held := none, holdMs := 0, gathered := [], waiting := [],
    stalled := [] }

/-- The part-wide counters at 0 (R57). -/
def Counters.zero : Counters :=
  { strayFetches := 0, lateWrites := 0, unplaced := 0, overBudget := 0, holdExpiries := 0, fetchOrder := 0 }

/-- The Flow Controller after power-on (R82). -/
def Flow.powerOn : Flow := { pause := false, starveMs := 0, starvedPosted := false }

end Sys2Proof.Machine
end

