-- ==== Sys2Proof/Machine/State.lean ====
section
/-! DEFINITION. Machine/State.lean: the state of the block, the reasons a step can stop, and the state after reset. -/
namespace Sys2Proof.Machine

/-- The reasons for which the machine stops: there are none. The spec gives every command an effect, and its fault states
(R145, R175) and refusals of directives (R180) are states and values of the part. -/
inductive Fault where
  deriving DecidableEq, Repr

/-- The reasons for which a command has no meaning. -/
inductive Refusal where
  /-- A command that is not modelled yet; no arm of exec answers it. Safe. -/
  | notModelled (mnemonic : String)
  deriving DecidableEq, Repr

/-- The whole state of the part. `pending` is the queue of commands, first in first out; `agenda` the reactions still to be
taken within the command in hand (log 7); `out` the outputs of the last command (log 6). Everything else is a piece of state
of the manual; INVENTORY.md lists them with their rules. -/
structure State where
  pending : List Instr
  agenda : List Reaction
  out : Outputs
  time : TimeBase
  link : Link
  counters : Counters
  slots : Vector Slot 64
  parser : Parser
  windows : List Window
  nextWid : Nat
  flow : Flow
  ink : PerChan InkChan
  health : PerChan HealthChan
  svc : Service
  media : Media
  prof : Profiles
  mail : Mailbox
  events : EventQueue
  deriving DecidableEq, Repr

/-- The part at the end of a power-on reset that sampled the straps as `straps` (R18, R41, R43, R57, R82, R110, R112, R131,
R154 to R156, R160, R178, R180, R186, R194). -/
def State.powerOn (straps : BitVec 4) : State :=
  { pending := [], agenda := [], out := { answers := [], forwarded := [] }, time := { ms := 0, phase := 0 },
    link := Link.powerOn straps, counters := Counters.zero, slots := Vector.replicate 64 Slot.reset,
    parser := Parser.reset, windows := [], nextWid := 0, flow := Flow.powerOn,
    ink := PerChan.of fun _ => InkChan.powerOn, health := PerChan.of fun _ => HealthChan.powerOn,
    svc := Service.powerOn, media := Media.powerOn, prof := Profiles.powerOn, mail := Mailbox.powerOn,
    events := EventQueue.powerOn straps }

/-- The machine right after reset. The strap pins are an input: DESIGN CHOICE, all four low (log 8). -/
def State.reset : State := State.powerOn 0

end Sys2Proof.Machine
end

