-- ==== Sys2Proof/Machine/Ops.lean ====
section
/-! DEFINITION. Machine/Ops.lean: the named operations that every block uses: access to the records, posting an event,
scheduling a reaction, adding to a counter, and one sample of a sensor line. -/
namespace Sys2Proof.Machine

/-! ### Units and limits -/

/-- Picolitres in a microlitre (00_scope.md, "Volumes"). -/
def pLPerUL : Nat := 1000000

/-- Picolitres in a millilitre (00_scope.md, "Volumes"). -/
def pLPerML : Nat := 1000000000

/-- The floor: 500 µL (section 5.1). -/
def floorVolume : Nat := 500000000

/-- The need cap (R60), and the largest service reservation of a channel (R86). -/
def needCap : Nat := 2000000000

/-- The limit of a hold, in ms (R9). -/
def holdLimit : Nat := 50

/-- The silence count's limit, in ms (R13). -/
def silenceLimit : Nat := 5000

/-- The time of a pump stroke, in ms (R97). -/
def strokeTime : Nat := 250

/-- The call timer's limit, in ms (R136). -/
def callLimit : Nat := 10000

/-- The time limit of a cap or uncap step, in ms (R142). -/
def capLimit : Nat := 2000

/-- The time limit of a wipe, and of a cut, in ms (R141, R155). -/
def strokeLimit3s : Nat := 3000

/-- The largest 32-bit value. -/
def max32 : Nat := 4294967295

/-! ### Access -/

/-- The record of a slot. -/
def State.slot (s : State) (i : SlotIx) : Slot := s.slots.get i

/-- A slot's record replaced by a function of it. -/
def State.modSlot (s : State) (i : SlotIx) (f : Slot → Slot) : State := { s with slots := s.slots.set i (f (s.slots.get i)) }

/-- The slot indexes in order. -/
def SlotIx.all : List SlotIx := (List.range 64).filterMap fun n => if h : n < 64 then some ⟨n, h⟩ else none

/-- The record of an ink channel. -/
def State.inkOf (s : State) (c : Chan) : InkChan := s.ink.get c

/-- A channel record replaced by a function of it. -/
def State.modInk (s : State) (c : Chan) (f : InkChan → InkChan) : State := { s with ink := s.ink.set c (f (s.ink.get c)) }

/-- The profile in force of a channel. -/
def State.chanProf (s : State) (c : Chan) : ChanProfile := s.prof.chan.get c

/-- The media profile in force of a roll. -/
def State.mediaProf (s : State) : Roll → MediaProfile
  | .a => s.prof.mediaA
  | .b => s.prof.mediaB

/-- A roll's record. -/
def State.roll (s : State) : Roll → RollRec
  | .a => s.media.rollA
  | .b => s.media.rollB

/-- A roll's record replaced by a function of it. -/
def State.modRoll (s : State) (r : Roll) (f : RollRec → RollRec) : State :=
  match r with
  | .a => { s with media := { s.media with rollA := f s.media.rollA } }
  | .b => { s with media := { s.media with rollB := f s.media.rollB } }

/-- What the Service Sequencer holds, replaced by a function of it. -/
def State.modSvc (s : State) (f : Service → Service) : State := { s with svc := f s.svc }

/-- What the Media Controller holds, replaced by a function of it. -/
def State.modMedia (s : State) (f : Media → Media) : State := { s with media := f s.media }

/-- What the Health Table holds for a channel, replaced by a function of it. -/
def State.modHealth (s : State) (c : Chan) (f : HealthChan → HealthChan) : State :=
  { s with health := s.health.set c (f (s.health.get c)) }

/-- The sheet record of an identity, if it is in the table. -/
def State.sheet? (s : State) (sid : Nat) : Option Sheet := s.media.table.find? fun t => t.sid == sid

/-- A sheet record replaced by a function of it. -/
def State.modSheet (s : State) (sid : Nat) (f : Sheet → Sheet) : State :=
  s.modMedia fun m => { m with table := m.table.map fun t => if t.sid = sid then f t else t }

/-- The sheet record of a slot's swath, if it is in the table. -/
def State.sheetOfSlot (s : State) (i : SlotIx) : Option Sheet := (s.slot i).sheet.bind s.sheet?

/-! ### Events (R187, R188) -/

/-- A record posted to the queue: placed at the tail while fewer than 32 stand, else lost and counted; the first loss keeps
its time (R188). -/
def EventQueue.enter (q : EventQueue) (e : Event) : EventQueue :=
  if q.recs.length < 32 then { q with recs := q.recs ++ [e] }
  else { q with overflow := min (q.overflow + 1) max32, firstLoss := if q.overflow = 0 then e.time else q.firstLoss }

/-- The record of a post at a moment; a value larger than its field is entered as the field's largest (R187). -/
def Event.make (t : BitVec 32) (k : EventKind) (subject d1 d2 : Nat) : Event :=
  { kind := k, subject := min subject 0xFFFF, d1 := min d1 max32, d2 := min d2 (2 ^ 48 - 1), time := t }

/-- An event posted (R187, R188). -/
def State.post (s : State) (k : EventKind) (subject d1 d2 : Nat) : State :=
  { s with events := s.events.enter (Event.make s.time.ms k subject d1 d2) }

/-! ### The admitted count -/

/-- The number of slots of which `p` holds. -/
def State.countSlots (s : State) (p : Slot → Bool) : Nat := s.slots.toList.countP p

/-- ADMITTED or FIRING. -/
def Slot.inHand (k : Slot) : Bool := k.st == .admitted || k.st == .firing

/-- The admitted count: swaths in ADMITTED or FIRING (section 4.1). -/
def State.admittedCount (s : State) : Nat := s.countSlots Slot.inHand

/-- An event taken now evaluates the front: the admitted count is below 2 (R59). -/
def State.evaluates (s : State) : Bool := decide (s.admittedCount < 2)

/-! ### Reactions (log 7) -/

/-- A reaction of which every event causes one of its own: an evaluation of the front (R59), an ink report (R89). -/
def Reaction.everyTime : Reaction → Bool
  | .evalFront => true
  | .inkReport _ _ => true
  | _ => false

/-- The reaction is an ink report. -/
def Reaction.reportsInk : Reaction → Bool
  | .inkReport _ _ => true
  | _ => false

/-- An ink report that names the channels of another as well, and evaluates the front where either does (R89). -/
def Reaction.joinReport (cs : ChanSet) (f : Bool) : Reaction → Reaction
  | .inkReport ds g => .inkReport (ds.union cs) (g || f)
  | r => r

/-- The reaction is an evaluation of the front. -/
def Reaction.evaluatesFront : Reaction → Bool
  | .evalFront => true
  | _ => false

/-- A reaction put into an agenda: an ink report before the evaluations of the front that stand there, for the Service Sequencer takes it first (R89);
any other at the tail, a test that is already there not twice. -/
def addReaction (a : List Reaction) (r : Reaction) : List Reaction :=
  if r.reportsInk then a.takeWhile (fun x => !x.evaluatesFront) ++ r :: a.dropWhile fun x => !x.evaluatesFront
  else if r.everyTime || !(a.contains r) then a ++ [r] else a

/-- A reaction is scheduled by an event taken now: an evaluation of the front only while the admitted count is below 2 (R59). -/
def State.schedules (s : State) : Reaction → Bool
  | .evalFront => s.evaluates
  | _ => true

/-- Reactions scheduled, in order. -/
def State.wake (s : State) (rs : List Reaction) : State := { s with agenda := (rs.filter s.schedules).foldl addReaction s.agenda }

/-- A reaction scheduled before every other. -/
def State.wakeFirst (s : State) (r : Reaction) : State := { s with agenda := r :: s.agenda }

/-- The tests that the blocks make at any event that can make them true, in the model's fixed order (log 7): the quiet point
(R183), refill starts (R96), the idle timer's conditions (R149), the running request's next step (R136, R138), the ends of
sheets (R160, R174), sheet starts (R161), media operations (R155), the starvation action (R76), the held read (R68), the link
(R14). `found` are the tests that an event of its own list causes; they stand with the station's. -/
def testsWith (found : List Reaction) : List Reaction :=
  [.quiet, .refill, .idle, .serviceStep] ++ found ++ [.sheets, .sheetStart, .mediaOps, .starve, .heldRead, .linkCheck]

/-- The tests made at any event. -/
def allTests : List Reaction := testsWith []

/-- Every test scheduled. -/
def State.stir (s : State) : State := s.wake allTests

/-- Every test scheduled at an event at which the Service Sequencer looks for a request to start (R134). -/
def State.stirWalk (s : State) : State := s.wake (testsWith [.walk])

/-- Every test scheduled at an event that may bring a swath boundary about (R67, R134). -/
def State.stirBoundary (s : State) : State := s.wake (testsWith [.boundary])

/-! ### One event (R59, R89) -/

/-- A reaction put behind the others that one event schedules: an ink report is joined to the one that stands, and the front is evaluated once. -/
def joinReaction (a : List Reaction) : Reaction → List Reaction
  | .inkReport cs f =>
    if a.any Reaction.reportsInk then a.map fun r => r.joinReport cs f else a ++ [.inkReport cs f]
  | r => if a.contains r then a else a ++ [r]

/-- Changes that one event makes together, as a link reset, a spoil or a cancel of several swaths does: a single ink report names every
channel that changed (R89), and one evaluation follows the fall of the admitted count and the retirement of the fronts (R59, R81). -/
def State.together (s : State) (f : State → State) : State :=
  let t := f { s with agenda := [] }
  { t with agenda := (t.agenda.foldl joinReaction []).foldl addReaction s.agenda }

/-! ### Counters (R57) -/

/-- Which part-wide counter. -/
inductive CounterId where
  | strayFetches | lateWrites | unplaced | overBudget | holdExpiries | fetchOrder
  deriving DecidableEq, Repr

/-- The counter's number (R57). -/
def CounterId.num : CounterId → Nat
  | .strayFetches => 0
  | .lateWrites => 1
  | .unplaced => 2
  | .overBudget => 3
  | .holdExpiries => 4
  | .fetchOrder => 5

/-- A counter's value. -/
def Counters.get (k : Counters) : CounterId → Nat
  | .strayFetches => k.strayFetches
  | .lateWrites => k.lateWrites
  | .unplaced => k.unplaced
  | .overBudget => k.overBudget
  | .holdExpiries => k.holdExpiries
  | .fetchOrder => k.fetchOrder

/-- A counter's value replaced. -/
def Counters.set (k : Counters) (i : CounterId) (v : Nat) : Counters :=
  match i with
  | .strayFetches => { k with strayFetches := v }
  | .lateWrites => { k with lateWrites := v }
  | .unplaced => { k with unplaced := v }
  | .overBudget => { k with overBudget := v }
  | .holdExpiries => { k with holdExpiries := v }
  | .fetchOrder => { k with fetchOrder := v }

/-- An addition to a part-wide counter: past 4,294,967,295 it leaves the remainder and posts COUNTER_WRAP (R57). -/
def State.count (s : State) (i : CounterId) (n : Nat) : State :=
  let v := s.counters.get i + n
  if v ≤ max32 then { s with counters := s.counters.set i v }
  else
    let w := v % (max32 + 1)
    { s with counters := s.counters.set i w }.post .counterWrap i.num w 0

/-! ### Sensor lines (R91, R130, R154) -/

/-- The line with its filtered state changed by a command that names the change; its pin is then at that level (log 3). -/
def Line.take (b : Bool) : Line := { filt := LineState.ofLevel b, run := 0, last := b, pin := some b }

/-- One sample of a line: the filtered state changes at the third sample in a row that differs from it, a disagreeing sample
starts the count again, a pin whose level is not known is not sampled (R91, R130, R154, log 4). -/
def Line.sample (l : Line) : Line :=
  match l.pin with
  | none => l
  | some b =>
    if LineState.ofLevel b = l.filt then { l with run := 0 }
    else if l.run = 0 || l.last != b then { l with run := 1, last := b }
    else if l.run ≥ 2 then { l with filt := LineState.ofLevel b, run := 0 }
    else { l with run := l.run + 1 }

/-- The line is active; an unknown state is taken as inactive (R154). -/
def Line.isActive (l : Line) : Bool := decide (l.filt = .active)

/-- The line after a power-on reset: its filtered state is unknown, its pin keeps its level (log 4). -/
def Line.repower (l : Line) : Line := { Line.reset with pin := l.pin }

/-- A sensor line of the part. -/
def State.line (s : State) : LineId → Line
  | .lowFloat c => (s.ink.get c).lowFloat
  | .fullFloat c => (s.ink.get c).fullFloat
  | .presence c => (s.ink.get c).presence
  | .capped => s.svc.cappedLine
  | .openLine => s.svc.openLine
  | .wiperHome => s.svc.wiperLine
  | .carriage => s.svc.carriageLine
  | .rollPresent r => (s.roll r).presentLine
  | .rollEnd r => (s.roll r).endLine
  | .feedPath => s.media.feedPath
  | .platen => s.media.platen
  | .cutterHome => s.media.cutterHome

/-- A sensor line replaced. -/
def State.setLine (s : State) (i : LineId) (l : Line) : State :=
  match i with
  | .lowFloat c => s.modInk c fun k => { k with lowFloat := l }
  | .fullFloat c => s.modInk c fun k => { k with fullFloat := l }
  | .presence c => s.modInk c fun k => { k with presence := l }
  | .capped => s.modSvc fun v => { v with cappedLine := l }
  | .openLine => s.modSvc fun v => { v with openLine := l }
  | .wiperHome => s.modSvc fun v => { v with wiperLine := l }
  | .carriage => s.modSvc fun v => { v with carriageLine := l }
  | .rollPresent r => s.modRoll r fun k => { k with presentLine := l }
  | .rollEnd r => s.modRoll r fun k => { k with endLine := l }
  | .feedPath => s.modMedia fun m => { m with feedPath := l }
  | .platen => s.modMedia fun m => { m with platen := l }
  | .cutterHome => s.modMedia fun m => { m with cutterHome := l }

/-- Every sensor line, in the order in which one sampling tick takes them (log 1). -/
def LineId.all : List LineId :=
  (Chan.all.flatMap fun c => [.lowFloat c, .fullFloat c, .presence c]) ++
    [.capped, .openLine, .wiperHome, .carriage, .rollPresent .a, .rollPresent .b, .rollEnd .a, .rollEnd .b, .feedPath, .platen, .cutterHome]

end Sys2Proof.Machine
end

