-- ==== Sys2Proof/Machine/Operands.lean ====
section
/-! DEFINITION. Machine/Operands.lean: the fields of every record that the print controller writes, at the byte placements of
chapter 11: slot headers, directive bodies, profile sections. -/
namespace Sys2Proof.Machine

/-! ### The SWATH header (11.2, R196) -/

/-- The kind code: byte 0 of a slot's record. -/
def kindCode (h : List Byte) : Nat := byteAt h 0

/-- SHEET_START. -/
def sheetStartFlag (h : List Byte) : Bool := hasBit (byteAt h 1) 0

/-- SHEET_END. -/
def sheetEndFlag (h : List Byte) : Bool := hasBit (byteAt h 1) 1

/-- The columns. -/
def columnsField (h : List Byte) : Nat := leAt h 2 2

/-- The sheet number. -/
def sheetNumberField (h : List Byte) : Nat := leAt h 4 2

/-- The bit of the presence mask is set. -/
def present (h : List Byte) (k : Nat) : Bool := hasBit (leAt h 6 2) k

/-- The advance after the swath, µm. -/
def advanceField (h : List Byte) : Nat := leAt h 8 4

/-- The roll choice is present: its bit and SHEET_START are set (R196). -/
def rollChoicePresent (h : List Byte) : Bool := present h 0 && sheetStartFlag h

/-- The roll choice code. -/
def rollChoiceField (h : List Byte) : Nat := byteAt h 12

/-- The roll choice of a sheet; absent is EITHER (R196). -/
def rollChoiceOf (h : List Byte) : RollChoice :=
  if rollChoicePresent h then
    match rollChoiceField h with
    | 0 => .a
    | 1 => .b
    | _ => .either
  else .either

/-- The leading margin, mm; absent is 0 (R160, R196). -/
def leadingOf (h : List Byte) : Nat := if present h 1 && sheetStartFlag h then leAt h 16 2 else 0

/-- The expected sheet length, mm (R196). -/
def expectedOf (h : List Byte) : Option Nat := if present h 2 && sheetStartFlag h then some (leAt h 20 4) else none

/-- The trailing margin, mm (R196). -/
def trailingOf (h : List Byte) : Option Nat := if present h 3 && sheetEndFlag h then some (leAt h 18 2) else none

/-- The ink estimate of a channel, pL (R196). -/
def inkEstimateOf (h : List Byte) (c : Chan) : Option Nat :=
  if present h (4 + c.num) && sheetStartFlag h then some (leAt h (64 + 8 * c.num) 6) else none

/-- The base of a channel's plane; a plane is present when its present byte is not 0 (R195, R196). -/
def planeOf (h : List Byte) (c : Chan) : Option Nat :=
  if byteAt h (24 + 8 * c.num + 5) = 0 then none else some (leAt h (24 + 8 * c.num) 5)

/-- The geometry of a header (R23). -/
def geometryOf (h : List Byte) : Geometry := { columns := columnsField h, planes := PerChan.of (planeOf h) }

/-- The length of a plane window in bytes: columns × 256 (R43). -/
def Geometry.windowLen (g : Geometry) : Nat := g.columns * 256

/-- The bytes of a SWATH header that stay closed to change while the slot is OPEN: the kind code, the columns and the plane
descriptors (R20, 11.2). A descriptor is the 8 bytes from 24 + 8c of which 0 to 4 are the base and 5 is the present byte. -/
def geometryByte (k : Nat) : Bool :=
  k == 0 || k == 2 || k == 3 || (decide (24 ≤ k) && decide (k < 64) && decide ((k - 24) % 8 < 6))

/-! ### Ring directive bodies (11.2) -/

/-- PROFILE: the section mask. -/
def sectionMask (h : List Byte) : Nat := leAt h 2 2

/-- PROFILE: the byte at which the fields of section `k` begin. -/
def sectionAt (k : Nat) : Nat := 16 + 20 * k

/-- CHECK_REPORT: covered set, truncated set, entry count. -/
def coveredMask (h : List Byte) : Nat := byteAt h 1

/-- CHECK_REPORT: the truncated set. -/
def truncatedMask (h : List Byte) : Nat := byteAt h 2

/-- CHECK_REPORT: the entry count. -/
def entryCount (h : List Byte) : Nat := byteAt h 3

/-- CHECK_REPORT: entry `i` as channel and nozzle; the nozzle is in its lowest 11 bits, the channel in its top 3 bits. -/
def reportEntry (h : List Byte) (i : Nat) : Nat × Nat :=
  let v := leAt h (16 + 2 * i) 2
  (v / 8192, v % 2048)

/-- SERVICE: the level code. -/
def serviceLevel (h : List Byte) : Nat := byteAt h 1

/-- SERVICE: the channel set as a mask. -/
def serviceChans (h : List Byte) : Nat := byteAt h 2

/-- MARK: the tag. -/
def markTag (h : List Byte) : Nat := leAt h 4 4

/-! ### Profile sections (11.2) -/

/-- A channel section's fields at byte `o`. -/
def chanSection (h : List Byte) (o : Nat) : ChanProfile :=
  { small := byteAt h o, medium := byteAt h (o + 1), large := byteAt h (o + 2), compensation := byteAt h (o + 3) != 0,
    capacity := leAt h (o + 4) 2, fullMark := leAt h (o + 6) 2, lowMark := leAt h (o + 8) 2, refillStart := leAt h (o + 10) 2,
    nominal := byteAt h (o + 12), decapLimit := leAt h (o + 13) 2, spitPasses := byteAt h (o + 15),
    primeVolume := leAt h (o + 16) 2, suctionTime := byteAt h (o + 18), cleanThreshold := byteAt h (o + 19) }

/-- A media section's fields at byte `o`. -/
def mediaSection (h : List Byte) (o : Nat) : MediaProfile :=
  { width := leAt h o 2, kind := byteAt h (o + 2), correction := signedAt h (o + 4) 2, tailLength := leAt h (o + 6) 2,
    rollLow := byteAt h (o + 8) }

/-- A flow section's fields at byte `o`. -/
def flowSection (h : List Byte) (o : Nat) : FlowProfile :=
  { starveLimit := leAt h o 2, starveAction := if byteAt h (o + 2) = 0 then .wait else .spoil,
    release := if byteAt h (o + 3) = 0 then .auto else .manual, idleCap := leAt h (o + 4) 2, wipeInterval := leAt h (o + 6) 2,
    midSheetWipe := byteAt h (o + 8) != 0, spitPolicy := if byteAt h (o + 9) = 0 then .any else .needed }

/-- A value lies in a range, both ends included. -/
def inRange (lo hi v : Nat) : Bool := decide (lo ≤ v) && decide (v ≤ hi)

/-- The field number of the first check that fails, if one fails. -/
def firstFailing (checks : List (Bool × Nat)) : Option Nat := (checks.find? fun c => !c.1).map Prod.snd

/-- The checks of a channel section: each field against its range in field-number order, then the relations in the order of
R84; a failing relation is charged to the field R84 names. -/
def chanSectionError (h : List Byte) (o : Nat) : Option Nat :=
  let p := chanSection h o
  firstFailing
    [(inRange 1 255 p.small, 1), (inRange 1 255 p.medium, 2), (inRange 1 255 p.large, 3), (inRange 10000 40000 p.capacity, 4),
     (inRange 1 40000 p.fullMark, 5), (inRange 6000 40000 p.lowMark, 6), (inRange 6000 40000 p.refillStart, 7),
     (inRange 10 200 p.nominal, 8), (inRange 5 600 p.decapLimit, 9), (inRange 1 255 p.spitPasses, 10),
     (inRange 0 2000 p.primeVolume, 11), (inRange 2 20 p.suctionTime, 12), (inRange 0 1 (byteAt h (o + 3)), 13),
     (inRange 1 64 p.cleanThreshold, 14),
     (decide (p.small ≤ p.medium), 2), (decide (p.medium ≤ p.large), 3), (decide (p.fullMark ≤ p.capacity), 5),
     (decide (p.lowMark < p.fullMark), 6), (decide (p.lowMark ≤ p.refillStart) && decide (p.refillStart < p.fullMark), 7)]

/-- The checks of a media section: each field against the range of R156, in field-number order (R157, R181). -/
def mediaSectionError (h : List Byte) (o : Nat) : Option Nat :=
  let p := mediaSection h o
  firstFailing
    [(inRange 280 1118 p.width, 1), (inRange 0 255 p.kind, 2), (decide (-2000 ≤ p.correction) && decide (p.correction ≤ 2000), 3),
     (inRange 100 3000 p.tailLength, 4), (inRange 1 50 p.rollLow, 5)]

/-- The checks of the flow section in field-number order (table of section 9.3, R181). -/
def flowSectionError (h : List Byte) (o : Nat) : Option Nat :=
  let p := flowSection h o
  firstFailing
    [(inRange 5 600 p.starveLimit, 1), (inRange 0 1 (byteAt h (o + 2)), 2), (inRange 0 1 (byteAt h (o + 3)), 3),
     (inRange 30 600 p.idleCap, 4), (inRange 5 500 p.wipeInterval, 5), (inRange 0 1 (byteAt h (o + 8)), 6),
     (inRange 0 1 (byteAt h (o + 9)), 7)]

/-- The field number of the first failing check of section `k` of a PROFILE (R181). -/
def sectionError (h : List Byte) (k : Nat) : Option Nat :=
  if k < 5 then chanSectionError h (sectionAt k) else if k < 7 then mediaSectionError h (sectionAt k) else flowSectionError h (sectionAt k)

/-- The field code of the first failing field of the first failing section that the mask names (R181). -/
def profileErrorFrom (h : List Byte) : List Nat → Option Nat
  | [] => none
  | k :: ks =>
    if hasBit (sectionMask h) k then
      match sectionError h k with
      | some f => some (256 * k + f)
      | none => profileErrorFrom h ks
    else profileErrorFrom h ks

/-- The field code with which a PROFILE is refused, if it is (R181). -/
def profileError (h : List Byte) : Option Nat :=
  if sectionMask h = 0 || decide (255 < sectionMask h) then some 0 else profileErrorFrom h (List.range 8)

/-! ### Immediate directive bodies (11.3) -/

/-- Byte 0: the channel, roll, level code, flush flag, channel set, slot index or mask set of the directive. -/
def bodyFirst (b : List Byte) : Nat := byteAt b 0

/-- Byte 1: the channel set of SERVICE_NOW, the suspend flag of SET_MASKS, the remaining-length present byte of ROLL_LOADED. -/
def bodySecond (b : List Byte) : Nat := byteAt b 1

/-- Bytes 4 to 7: the declared volume of CARTRIDGE_INSTALLED, the remaining length of ROLL_LOADED. -/
def bodyWord4 (b : List Byte) : Nat := leAt b 4 4

/-- Bytes 8 to 11: the lot tag of CARTRIDGE_INSTALLED. -/
def bodyLot (b : List Byte) : Nat := leAt b 8 4

/-- Bytes 16 to 24: the media profile of ROLL_LOADED. -/
def bodyMediaAt : Nat := 16

/-- A channel set byte is valid: not empty and no channel above 4 (R33, R126, R150). -/
def validChans (v : Nat) : Bool := v != 0 && decide (v < 32)

end Sys2Proof.Machine
end

