-- ==== Sys2Proof/Machine/Flags.lean ====
section
/-! DEFINITION. Machine/Flags.lean: what is computed from the state and has no home of its own: the front,
the next swath, the swath boundary, the quiet point, the activity of the part, the health summaries, the attention line. -/
namespace Sys2Proof.Machine

/-! ### Swaths -/

/-- Some slot of which `p` holds. -/
def State.anySlot (s : State) (p : Slot → Bool) : Bool := s.slots.toList.any p

/-- The lowest slot of which `p` holds. -/
def State.findSlot (s : State) (p : Slot → Bool) : Option SlotIx := SlotIx.all.find? fun i => p (s.slot i)

/-- POSTED or HELD. -/
def Slot.waits (k : Slot) : Bool := k.st == .posted || k.st == .held

/-- ADMITTED, FIRING or ADVANCING (R30). -/
def Slot.past (k : Slot) : Bool := k.st == .admitted || k.st == .firing || k.st == .advancing

/-- Armed or FIRING (R66, R69). -/
def Slot.armedOrFiring (k : Slot) : Bool := (k.st == .admitted && k.armed) || k.st == .firing

/-- The slot of the armed or FIRING swath (R193). -/
def State.armedOrFiringSlot (s : State) : Option SlotIx := s.findSlot Slot.armedOrFiring

/-- The first entry on the posted list whose slot is POSTED or HELD, which is always a SWATH (R59): while a directive that is about to execute stands
there, there is no front, so its go word says WAIT (R65). -/
def State.front? (s : State) : Option SlotIx :=
  (s.parser.posted.find? fun i => (s.slot i).waits).filter fun i => (s.slot i).kind == some .swath

/-- The next swath: none while a swath is armed or FIRING; else the oldest ADMITTED, else the front (R66). -/
def State.nextSwath? (s : State) : Option SlotIx :=
  if s.anySlot Slot.armedOrFiring then none
  else match s.parser.posted.find? (fun i => (s.slot i).st == .admitted) with
    | some i => some i
    | none => s.front?

/-- A count holds at least one drop. -/
def Drops.any (d : Drops) : Bool := d.small != 0 || d.medium != 0 || d.large != 0

/-- The channel set of a swath (R60). -/
def Slot.chanSet (k : Slot) : ChanSet := PerChan.of fun c => (k.tally.written.get c).any

/-- A request covers a channel of the front: it names it and is a SPIT, or a LIGHT that may start while a sheet is PRINTING (R63). -/
def State.frontCovers (s : State) (c : Chan) (r : ServiceReq) : Bool :=
  r.chans.get c && (r.level == .spit || (r.level == .light && s.prof.flow.midSheetWipe))

/-- A request is tied to the front: it covers a stale channel of the front's channel set (R59, R63). -/
def State.tiedToFront (s : State) (r : ServiceReq) : Bool :=
  match s.front? with
  | some i => Chan.all.any fun c => (s.slot i).chanSet.get c && (s.svc.decap.get c).stale && s.frontCovers c r
  | none => false

/-- A sheet is the front's, or an earlier one: a change of its state is an event of R59. Sheet identities rise in the order of creation. -/
def State.frontSees (s : State) (sid : Nat) : Bool :=
  match s.front? with
  | some i => match (s.slot i).sheet with | some f => decide (sid ≤ f) | none => false
  | none => false

/-- A media motion is in progress: an operation is in flight (R155). -/
def State.motion (s : State) : Bool := s.media.op.isSome

/-- A swath boundary stands: no swath is armed or FIRING and no media motion is in progress (R67, R134). -/
def State.boundary (s : State) : Bool := !s.anySlot Slot.armedOrFiring && !s.motion

/-! ### Sheets and service -/

/-- Some sheet is in a state of which `p` holds. -/
def State.anySheet (s : State) (p : SheetState → Bool) : Bool := s.media.table.any fun t => p t.st

/-- A sheet is in LEADING, PRINTING, TRAILING or CUTTING. -/
def State.sheetOnPath (s : State) : Bool := s.anySheet SheetState.onPath

/-- The RUNNING service request. -/
def State.running? (s : State) : Option ServiceReq := s.svc.queue.find? fun r => r.state == .running

/-- Some request of a level is in one of the states QUEUED and RUNNING (R161). -/
def State.primeStands (s : State) : Bool :=
  s.svc.queue.any fun r => r.level == .prime && (r.state == .queued || r.state == .running)

/-- A PRIME request is RUNNING (R164). -/
def State.primeRuns (s : State) : Bool := s.svc.queue.any fun r => r.level == .prime && r.state == .running

/-- The quiet point stands (R183). -/
def State.quietPoint (s : State) : Bool := !s.sheetOnPath && !s.anySlot Slot.inHand && s.running?.isNone

/-- The PRINTING sheet, if there is one. -/
def State.printing? (s : State) : Option Sheet := s.media.table.find? fun t => t.st == .printing

/-- The current sheet: the oldest record that is neither DONE nor SPOILED and whose spoiling flag is clear (R80). -/
def State.currentSheet? (s : State) : Option Sheet :=
  s.media.table.find? fun t => !(t.st == .done || t.st == .spoiled) && t.spoil.isNone

/-! ### The activity of the part (R13, R194) -/

/-- A swath is HELD, ADMITTED, FIRING or ADVANCING. -/
def State.swathActive (s : State) : Bool := s.anySlot fun k => k.st == .held || k.past

/-- A refill run is running on some channel. -/
def State.refillActive (s : State) : Bool := Chan.all.any fun c => (s.ink.get c).running

/-- The activity as a number: 1 swath, 2 sheet, 4 service request, 8 refill (R194). -/
def State.activity (s : State) : Nat :=
  (if s.swathActive then 1 else 0) + (if s.sheetOnPath then 2 else 0) + (if s.running?.isSome then 4 else 0) +
    (if s.refillActive then 8 else 0)

/-- The part is active (R13). -/
def State.active (s : State) : Bool := decide (s.activity ≠ 0)

/-! ### Starvation (R75) -/

/-- The starvation timer counts up: a sheet is PRINTING, no swath of it is ADMITTED, FIRING or ADVANCING, no media motion of it
is in progress, and the pause flag is clear. -/
def State.starveCounts (s : State) : Bool :=
  match s.printing? with
  | none => false
  | some t =>
    !s.anySlot (fun k => k.past && k.sheet == some t.sid) && !(match s.media.op with | some o => o.sheet == some t.sid | none => false) &&
      !s.flow.pause

/-! ### The idle timer (R149) -/

/-- The idle timer counts: the station is UNCAPPED, no swath is ADMITTED or FIRING, no request is RUNNING. -/
def State.idleCounts (s : State) : Bool := s.svc.station == .uncapped && !s.anySlot Slot.inHand && s.running?.isNone

/-! ### Health summaries (R113) -/

/-- A nozzle is dead when it is MISSING or RETIRED (R122). -/
def Nozzle.dead (n : Nozzle) : Bool := n.st == .missing || n.st == .retired

/-- The number of nozzles in a state. -/
def HealthChan.countState (h : HealthChan) (st : NozzleState) : Nat := h.nozzles.countP fun n => n.st == st

/-- The dead count. -/
def HealthChan.deadCount (h : HealthChan) : Nat := h.nozzles.countP Nozzle.dead

/-- The number of nozzles with survivor pending set. -/
def HealthChan.pendingCount (h : HealthChan) : Nat := h.nozzles.countP fun n => n.pending

/-- The nozzle numbers, from `k`, of the dead nozzles whose partner is dead too; the list is read pair by pair, for the partner
of a nozzle differs from it in the lowest bit (00_scope.md, "Nozzles"; R113). -/
def uncoveredFrom (k : Nat) : List Nozzle → List Nat
  | a :: b :: rest => (if a.dead && b.dead then [k, k + 1] else []) ++ uncoveredFrom (k + 2) rest
  | _ => []

/-- The uncovered count. -/
def HealthChan.uncoveredCount (h : HealthChan) : Nat := (uncoveredFrom 0 h.nozzles).length

/-- The lowest uncovered nozzle, or 0xFFFF when there is none. -/
def HealthChan.lowestUncovered (h : HealthChan) : Nat := (uncoveredFrom 0 h.nozzles).headD 0xFFFF

/-- The RETIRED count of a channel (R113). -/
def State.retiredNozzles (s : State) (c : Chan) : Nat := (s.health.get c).countState .retired

/-! ### The attention line (R191) -/

/-- The attention line is asserted: a record of a category whose mask flag is clear stands, and suspend is clear. -/
def EventQueue.attention (q : EventQueue) : Bool := (q.recs.any fun e => !q.masks.getLsbD e.kind.category) && !q.suspend

end Sys2Proof.Machine
end

