-- ==== Sys2Proof/Machine/Ink.lean ====
section
/-! DEFINITION. Machine/Ink.lean: the Ink Controller (chapter 5): reservation, release, debit, floats, refill runs, cartridges,
pump calibration. -/
namespace Sys2Proof.Machine

/-- The report of a change of the level, reserved total or sync state of channels (R89), which evaluates the front where the admitted
count is below 2 when the change is taken (R59); the refill start conditions and every other test that such a change can make true are
then made. The quiet point is tested before the report, which may start a request (R183, log 38). -/
def State.inkChanged (s : State) (cs : ChanSet) : State := (s.wake [.quiet, .inkReport cs s.evaluates]).stir

/-- The low flag evaluated; LOW is posted when the evaluation sets the clear flag of a SYNCED channel (R90). -/
def State.evalLow (s : State) (c : Chan) : State :=
  let k := s.inkOf c
  let low := decide (k.level ≤ (s.chanProf c).lowMark * pLPerUL)
  let s' := s.modInk c fun k => { k with low := low }
  if low && !k.low && k.synced then s'.post .low c.num 0 k.level else s'

/-! ### Reservation, release and debit (R86 to R88) -/

/-- A channel passes the tests of a reservation of volume `v`; a volume of 0 is not tested (R86). -/
def reservePasses (k : InkChan) (service : Bool) (v : Nat) : Bool :=
  v == 0 ||
    (k.synced && decide (k.reserved + v + floorVolume ≤ k.level) && (!service || (k.servicePart == 0 && decide (v ≤ needCap))))

/-- The lowest channel that fails a reservation request (R86). -/
def State.reserveFailure (s : State) (service : Bool) (vols : PerChan Nat) : Option Chan :=
  Chan.all.find? fun c => !reservePasses (s.inkOf c) service (vols.get c)

/-- A granted reservation: each channel's reserved total rises by its volume, and for a service request its service part (R86). -/
def State.addReservation (s : State) (service : Bool) (vols : PerChan Nat) : State :=
  { s with ink := PerChan.of fun c =>
      let k := s.ink.get c
      { k with reserved := k.reserved + vols.get c, servicePart := if service then k.servicePart + vols.get c else k.servicePart } }

/-- The channels of which a volume is above 0. -/
def volumeChans (vols : PerChan Nat) : ChanSet := PerChan.of fun c => decide (vols.get c ≠ 0)

/-- A reservation request taken: granted whole, or refused whole with the lowest failing channel (R86). The report of R89 is
made for a grant. -/
def State.reserve (s : State) (service : Bool) (vols : PerChan Nat) : Option Chan × State :=
  match s.reserveFailure service vols with
  | some c => (some c, s)
  | none => (none, (s.addReservation service vols).inkChanged (volumeChans vols))

/-- A release of a swath's need: the reserved total falls, the level is unchanged (R87). -/
def State.releaseNeed (s : State) (vols : PerChan Nat) : State :=
  if (volumeChans vols).isEmpty then s
  else
    { s with ink := PerChan.of fun c => { s.ink.get c with reserved := (s.ink.get c).reserved - vols.get c } }.inkChanged
      (volumeChans vols)

/-- A release of every service reservation held: it lowers the service part by the same amount (R87). -/
def State.releaseService (s : State) : State :=
  let vols := PerChan.of fun c => (s.ink.get c).servicePart
  if (volumeChans vols).isEmpty then s
  else
    { s with ink := PerChan.of fun c =>
        { s.ink.get c with reserved := (s.ink.get c).reserved - (s.ink.get c).servicePart, servicePart := 0 } }.inkChanged
      (volumeChans vols)

/-- A channel record after a debit: the reserved total falls by the reservation ended, for a service debit the service part
too, then the level falls by the volume used, or by the reservation if the volume is the larger (R88). -/
def debitChan (k : InkChan) (service : Bool) (used ended : Nat) : InkChan :=
  { k with reserved := k.reserved - ended, servicePart := if service then k.servicePart - ended else k.servicePart,
           level := k.level - min used ended }

/-- A debit of one channel, with the low flag evaluated after it (R88). -/
def State.debitOne (s : State) (service : Bool) (c : Chan) (used ended : Nat) : State :=
  (s.modInk c fun k => debitChan k service used ended).evalLow c

/-- A debit of several channels in one event, in channel order, and so the LOW records that it posts (log 20), with one report naming them all
(R88, R89). -/
def State.debit (s : State) (service : Bool) (cs : ChanSet) (used ended : PerChan Nat) : State :=
  let s' := Chan.all.foldl (fun s c => if cs.get c then s.debitOne service c (used.get c) (ended.get c) else s) s
  if cs.isEmpty then s' else s'.inkChanged cs

/-! ### Refill runs (R96 to R99) -/

/-- The stroke volume: the measured stroke when calibration is DONE, else the nominal volume (R97). -/
def strokeVolume (p : ChanProfile) (k : InkChan) : Nat :=
  if k.cal = .done then k.measured.getD (p.nominal * pLPerUL) else p.nominal * pLPerUL

/-- The stroke limit for a stroke volume: the capacity divided by it, rounded down, plus 10 (R98, R106). -/
def strokeLimit (p : ChanProfile) (v : Nat) : Nat := p.capacity * pLPerUL / v + 10

/-- Suction runs on a channel (R143). -/
def State.suctionOn (s : State) (c : Chan) : Bool := s.svc.station == .suction && s.svc.toSuck.head? == some c

/-- The start conditions of a refill run (R96). -/
def State.refillDue (s : State) (c : Chan) : Bool :=
  let k := s.inkOf c
  !k.running && (decide (k.level ≤ (s.chanProf c).refillStart * pLPerUL) || !k.synced) && k.cart == .active &&
    !s.suctionOn c && s.link.state == .up && !k.fullFloat.isActive

/-- A channel record in which a refill run starts: counts at 0, the first stroke begins; the phase is MEASURING when calibration
is ARMED and the low float is asserted, else CREDITED or UNCREDITED by the sync state (R96, R105). -/
def startRun (p : ChanProfile) (k : InkChan) : InkChan :=
  let measure := k.cal == .armed && k.lowFloat.isActive
  { k with running := true, phase := if measure then .measuring else if k.synced then .credited else .uncredited,
           strokes := 0, overrun := 0, limit := strokeLimit p (strokeVolume p k), stroke := some 0, endAfter := false,
           cal := if measure then .measuring else k.cal, measCount := if measure then 0 else k.measCount, counting := false }

/-- The refill start conditions tested on a channel (R96). -/
def State.refillTest (s : State) (c : Chan) : State :=
  if s.refillDue c then (s.modInk c (startRun (s.chanProf c))).stir else s

/-- A channel record in which the run ends: IDLE with its counts kept, the stroke stopped; calibration that is MEASURING returns
to ARMED with its count discarded (R99, R108). Its phase, which R99 does not name, stays that of the run that ended (log 42). -/
def endRun (k : InkChan) : InkChan :=
  { k with running := false, stroke := none, endAfter := false, counting := false,
           cal := if k.cal = .measuring then .armed else k.cal, measCount := if k.cal = .measuring then 0 else k.measCount }

/-- A refill run ended by an event other than the full float (R99); the start conditions are tested again after it. -/
def State.stopRun (s : State) (c : Chan) : State := if (s.inkOf c).running then (s.modInk c endRun).stir else s

/-- The cartridge becomes EMPTY, CARTRIDGE_EMPTY is posted and the run ends (R102, R97, R98, R99). -/
def State.cartridgeEmpty (s : State) (c : Chan) (r : EmptyReason) : State :=
  ((s.modInk c fun k => { k with cart := .empty, emptyReason := some r }).post .cartridgeEmpty c.num r.code (s.inkOf c).level).stopRun c

/-- A count of strokes raised by 1; past 65,535 it is a free value (log 11). -/
def strokeSucc (n : Nat) : Nat := if n < 65535 then n + 1 else (Config.strokesPastWidth (n + 1)).toNat

/-- A completed stroke is credited to the level: in phase CREDITED, and in phase MEASURING for a SYNCED channel (R97). -/
def InkChan.credits (k : InkChan) : Bool := k.phase == .credited || (k.phase == .measuring && k.synced)

/-- A channel record with a stroke completed: counts, estimate and level (R97, R98, R106). -/
def completeStroke (p : ChanProfile) (k : InkChan) : InkChan :=
  let v := strokeVolume p k
  { k with strokes := strokeSucc k.strokes, estimate := k.estimate - v,
           level := if k.credits then min (k.level + v) (p.capacity * pLPerUL) else k.level,
           overrun := if k.phase = .overrun then k.overrun + 1 else k.overrun,
           measCount := if k.phase = .measuring && k.counting then strokeSucc k.measCount else k.measCount }

/-- The estimate stops the crediting: in phase CREDITED, and in phase MEASURING while the count has not begun, the level of the
channel has reached the full mark (R98, R106). After a low float that asserts again the count has not begun, so the test applies again (log 32). -/
def InkChan.reachesFull (p : ChanProfile) (k : InkChan) : Bool :=
  (k.phase == .credited || (k.phase == .measuring && !k.counting && k.synced)) && decide (p.fullMark * pLPerUL ≤ k.level)

/-- The run has met its dry limit (R98). -/
def InkChan.runsDry (k : InkChan) : Bool :=
  match k.phase with
  | .credited => false
  | .overrun => decide (10 ≤ k.overrun)
  | .uncredited => decide (k.limit ≤ k.strokes)
  | .measuring => k.counting && decide (k.limit ≤ k.measCount)

/-- The run passes to OVERRUN with its count at 0; a MEASURING calibration returns to ARMED (R98, R106, R108). -/
def toOverrun (k : InkChan) : InkChan :=
  { k with phase := .overrun, overrun := 0, cal := if k.cal = .measuring then .armed else k.cal,
           measCount := if k.cal = .measuring then 0 else k.measCount, counting := false }

/-- What follows a completed stroke: the tests of R97 in order, the stop and limit tests of R98, and the end of a run that was
to end after its stroke (R99); else the next stroke begins at once. -/
def State.afterStroke (s : State) (c : Chan) : State :=
  let k := s.inkOf c
  if k.estimate = 0 then s.cartridgeEmpty c .estimate
  else if k.runsDry then s.cartridgeEmpty c .dry
  else
    let s := if k.reachesFull (s.chanProf c) then s.modInk c toOverrun else s
    if k.endAfter then s.stopRun c else s.modInk c fun k => { k with stroke := some 0 }

/-- A pump stroke ends (R97, R98): nothing happens where none is in progress. -/
def State.strokeEnds (s : State) (c : Chan) : State :=
  let k := s.inkOf c
  if k.running && k.stroke.isSome then
    let s := s.modInk c (completeStroke (s.chanProf c))
    let s := if k.credits then (s.evalLow c).inkChanged (ChanSet.single c) else s
    (s.afterStroke c).stir
  else s

/-! ### Floats and resync (R91 to R95) -/

/-- The level set to a mark by a float, with RESYNC for a SYNCED channel where `tell` says so: detail 1 the old level in µL, rounded down,
detail 2 the new level in pL (R92, R93, R94). -/
def State.resyncTo (s : State) (c : Chan) (mark : Nat) (tell : Bool) : State :=
  let k := s.inkOf c
  let s' := s.modInk c fun k => { k with level := mark }
  if tell && k.synced then s'.post .resync c.num (k.level / pLPerUL) mark else s'

/-- The filtered low float has changed from `old` (R91, R92, R93). Its first state changes nothing. -/
def State.lowFloatChanged (s : State) (c : Chan) (old : LineState) : State :=
  let mark := (s.chanProf c).lowMark * pLPerUL
  let k := s.inkOf c
  if old = .unknown then s
  else if k.lowFloat.isActive then
    let s := s.resyncTo c mark true
    let s := if k.running && k.phase == .measuring then s.modInk c fun k => { k with measCount := 0, counting := false } else s
    (s.evalLow c).inkChanged (ChanSet.single c)
  else
    let s := s.resyncTo c mark false
    let s :=
      if k.running && k.phase == .measuring then
        s.modInk c fun k =>
          { k with measCount := 0, counting := true, limit := strokeLimit (s.chanProf c) ((s.chanProf c).nominal * pLPerUL) }
      else s
    (s.evalLow c).inkChanged (ChanSet.single c)

/-- The measurement of R107 when the full float asserts during a MEASURING run after the count has begun: the count, raised by 1 for
a stroke in progress, and the measured stroke. -/
def measureStroke (p : ChanProfile) (k : InkChan) : Nat × Nat :=
  let n := if k.stroke.isSome then k.measCount + 1 else k.measCount
  (n, (p.fullMark - p.lowMark) * pLPerUL / n)

/-- The measured stroke lies between 75 % and 125 % of the nominal volume, both included (R107). -/
def measureGood (p : ChanProfile) (m : Nat) : Bool :=
  decide (75 * (p.nominal * pLPerUL) ≤ 100 * m) && decide (100 * m ≤ 125 * (p.nominal * pLPerUL))

/-- Calibration taken at the full float (R107). -/
def State.takeMeasurement (s : State) (c : Chan) : State :=
  let k := s.inkOf c
  if k.running && k.phase == .measuring && k.counting then
    let (n, m) := measureStroke (s.chanProf c) k
    if measureGood (s.chanProf c) m then
      (s.modInk c fun k => { k with cal := .done, measured := some m, measCount := n }).post .pumpCalDone c.num n m
    else (s.modInk c fun k => { k with cal := .bad, measured := none, measCount := n }).post .pumpCalBad c.num n m
  else s

/-- The full float asserts: the level is set to the full mark, the channel becomes SYNCED or RESYNC is posted, calibration is taken,
the run ends, the low flag is evaluated and the change reported (R94, R99, R107, R187). -/
def State.fullFloatAsserts (s : State) (c : Chan) : State :=
  let mark := (s.chanProf c).fullMark * pLPerUL
  let s :=
    if (s.inkOf c).synced then s.resyncTo c mark true
    else (s.modInk c fun k => { k with level := mark, synced := true }).post .synced c.num 0 mark
  (((s.takeMeasurement c).stopRun c).evalLow c).inkChanged (ChanSet.single c)

/-- The filtered full float has changed from `old`; a first state of asserted is an assertion, a first state of deasserted changes
nothing (R91, R94, R95). -/
def State.fullFloatChanged (s : State) (c : Chan) (_old : LineState) : State :=
  if (s.inkOf c).fullFloat.isActive then s.fullFloatAsserts c else s.stir

/-! ### Cartridges (R100 to R103) -/

/-- The filtered presence line has changed (R101); the reason of the last EMPTY stays until the next one (log 31). -/
def State.presenceChanged (s : State) (c : Chan) : State :=
  let k := s.inkOf c
  if k.presence.isActive then
    if k.cart = .absent then ((s.modInk c fun k => { k with cart := .present }).post .cartridgePresent c.num 0 0).stir else s
  else if k.cart = .absent then s
  else
    (((s.modInk c fun k => { k with cart := .absent }).stopRun c).post .cartridgeRemoved c.num k.cart.code k.estimate).stir

/-! ### A channel profile applies (R85) -/

/-- A channel record under a new nominal stroke volume that differs: calibration returns to IDLE with its measured stroke cleared, and
its measuring count, of which R85 and R108 do not speak, at 0 (log 36); a MEASURING run goes on as a run of its sync state with its stroke
count kept (R85, R108). -/
def nominalChanged (k : InkChan) : InkChan :=
  let again := k.running && k.phase == .measuring
  let phase : Phase := if again then (if k.synced then .credited else .uncredited) else k.phase
  { k with cal := .idle, measured := none, measCount := 0, counting := false, phase := phase }

/-- The stroke limit of a refill run under a profile: from the nominal volume once a MEASURING run counts, else from the stroke volume
(R98, R106). -/
def runLimit (p : ChanProfile) (k : InkChan) : Nat :=
  strokeLimit p (if k.phase = .measuring ∧ k.counting then p.nominal * pLPerUL else strokeVolume p k)

/-- A channel record under a new capacity or stroke volume: the limit of a run in progress is that of the new values (R85, table of
section 5.1, field 4). -/
def limitAgain (p : ChanProfile) (k : InkChan) : InkChan := if k.running then { k with limit := runLimit p k } else k

/-- A channel record taken under a new profile: the level held to the capacity, an OVERRUN below the new full mark returned to
CREDITED, the limit of a run in progress worked out afresh (R85). -/
def applyChan (old new : ChanProfile) (k : InkChan) : InkChan :=
  let k := { k with level := min k.level (new.capacity * pLPerUL) }
  let k := if k.running && k.phase == .overrun && decide (k.level < new.fullMark * pLPerUL) then { k with phase := .credited, overrun := 0 } else k
  limitAgain new (if old.nominal = new.nominal then k else nominalChanged k)

/-- The Ink Controller takes one channel section that applies; the section in force is already the new one (R85, R183). -/
def State.inkProfileApplied (s : State) (c : Chan) (old : ChanProfile) : State := (s.modInk c (applyChan old (s.chanProf c))).evalLow c

/-- The Ink Controller takes the channel sections that apply, of the channels of a set, in channel order, and so the LOW records (log 20); the level
changes are one report (R85, R89). -/
def State.inkProfilesApplied (s : State) (cs : ChanSet) (old : PerChan ChanProfile) : State :=
  let t := Chan.all.foldl (fun s c => if cs.get c then s.inkProfileApplied c (old.get c) else s) s
  let moved : ChanSet := PerChan.of fun c => decide ((t.inkOf c).level ≠ (s.inkOf c).level)
  if moved.isEmpty then t else t.inkChanged moved

/-! ### The link (R14, R111) -/

/-- The link enters LOST: each run ends after its current stroke (R99, R111). -/
def State.inkLost (s : State) : State :=
  { s with ink := PerChan.of fun c => { s.ink.get c with endAfter := (s.ink.get c).running } }

end Sys2Proof.Machine
end

