-- ==== Sys2Proof/Machine/Service.lean ====
section
/-! DEFINITION. Machine/Service.lean: the Service Sequencer (chapter 7) with what it tells the Health Table of a LIGHT or PRIME
(R118, R119, R125): requests and their queue, starting, calling, the steps, decap timers, the wipe counter, link loss. -/
namespace Sys2Proof.Machine

/-! ### What the Health Table is told (R118, R119, R125) -/

/-- Every nozzle of the channels of a set replaced by a function of it. -/
def State.mapNozzles (s : State) (cs : ChanSet) (f : Nozzle → Nozzle) : State :=
  { s with health := PerChan.of fun c =>
      let h := s.health.get c
      if cs.get c then { h with nozzles := h.nozzles.map f } else h }

/-- A PRIME begins: each MISSING nozzle becomes a candidate (R118). -/
def State.primeBegins (s : State) (cs : ChanSet) : State :=
  s.mapNozzles cs fun n => if n.st = .missing then { n with candidate := true } else n

/-- A PRIME completes: each candidate becomes survivor pending (R119). -/
def Nozzle.primeCompleted (n : Nozzle) : Nozzle := if n.candidate then { n with candidate := false, pending := true } else n

/-- The cleaning stages of a set of channels replaced by a function of them. -/
def State.mapStages (s : State) (cs : ChanSet) (f : CleanStage → CleanStage) : State :=
  { s with health := PerChan.of fun c =>
      let h := s.health.get c
      if cs.get c then { h with stage := f h.stage } else h }

/-- A LIGHT or PRIME request has completed: survivors of a PRIME become pending, the stages move, CHECK_WANTED is posted (R119, R125). -/
def State.cleaningCompleted (s : State) (level : Level) (cs : ChanSet) : State :=
  match level with
  | .light => (s.mapStages cs fun _ => .lightDone).post .checkWanted cs.subject 1 cs.mask
  | .prime => ((s.mapNozzles cs Nozzle.primeCompleted).mapStages cs fun _ => .primeDone).post .checkWanted cs.subject 2 cs.mask
  | _ => s

/-- A stage that waits for a request that left without completing returns to CLEAR (R125). -/
def CleanStage.forgotten : CleanStage → CleanStage
  | .lightAsked => .clear
  | .primeAsked => .clear
  | g => g

/-- A LIGHT or PRIME request has left the queue without completing: asked stages return to CLEAR, and the candidates of a PRIME are
cleared (R119, R125). -/
def State.cleaningLeft (s : State) (level : Level) (cs : ChanSet) : State :=
  match level with
  | .light => s.mapStages cs CleanStage.forgotten
  | .prime => (s.mapNozzles cs fun n => { n with candidate := false }).mapStages cs CleanStage.forgotten
  | _ => s

/-! ### Requests and the queue (R132, R133) -/

/-- How an offered request was taken (R133, R150). -/
inductive OfferResult where
  | entered | merged | absorbed | refused
  deriving DecidableEq, Repr

/-- A spit that serves the front alone is absorbed by a LIGHT when the flow profile allows mid-sheet wipe, and by no PRIME; every other
LIGHT, SPIT or WIPE is absorbed by a PRIME, every other SPIT or WIPE by a LIGHT (R133 steps 2 and 5). -/
def absorbs (midWipe : Bool) (big : Level) (small : Level) (flow : Bool) : Bool :=
  match big, small with
  | .prime, .light => true
  | .prime, .spit => !flow
  | .prime, .wipe => true
  | .light, .spit => !flow || midWipe
  | .light, .wipe => true
  | _, _ => false

/-- What is left of a request's channels after the QUEUED requests that absorb it, and whether it was wholly absorbed (R133 step 2). -/
def absorbNew (midWipe : Bool) (level : Level) (flow : Bool) : List ServiceReq → ChanSet → ChanSet × Bool
  | [], cs => (cs, false)
  | r :: rs, cs =>
    if r.state = .queued && absorbs midWipe r.level level flow then
      if level = .wipe then (cs, true)
      else if (cs.minus r.chans).isEmpty then (cs, true)
      else absorbNew midWipe level flow rs (cs.minus r.chans)
    else absorbNew midWipe level flow rs cs

/-- The position of the newest QUEUED request of a level whose started-before flag is clear (R133 step 3). -/
def mergeTarget (q : List ServiceReq) (level : Level) : Option Nat :=
  (List.range q.length).reverse.find? fun i =>
    match q[i]? with
    | some r => r.level == level && r.state == .queued && !r.started
    | none => false

/-- A queue after a new PRIME or LIGHT at position `at` has absorbed the QUEUED and WAITING_INK requests it covers (R133 step 5). -/
def absorbOld (midWipe : Bool) (pos : Nat) (big : Level) (cs : ChanSet) : Nat → List ServiceReq → List ServiceReq
  | _, [] => []
  | i, r :: rs =>
    let rest := absorbOld midWipe pos big cs (i + 1) rs
    if i ≠ pos && r.state ≠ .running && absorbs midWipe big r.level r.flow then
      if r.level = .wipe || (r.chans.minus cs).isEmpty then rest else { r with chans := r.chans.minus cs } :: rest
    else r :: rest

/-- The level that a new CAP or UNCAP takes out of the queue (R133 step 1). -/
def opposed : Level → Option Level
  | .cap => some .uncap
  | .uncap => some .cap
  | _ => none

/-- A request offered to the queue (R133): opposed CAP and UNCAP, absorption, merging, entry, absorption by the new request. A refused
request posts SERVICE_QUEUE_FULL; an accepted one makes every test that an acceptance causes (R59, R134), and a CAP that may have taken
an UNCAP out the test of R67. -/
def State.offer (s : State) (level : Level) (chans : ChanSet) (flow : Bool) : OfferResult × State :=
  let mid := s.prof.flow.midSheetWipe
  let q0 := match opposed level with
    | some o => s.svc.queue.filter fun r => !(r.level == o && r.state == .queued)
    | none => s.svc.queue
  let (left, whole) := absorbNew mid level flow q0 chans
  let done (res : OfferResult) (q : List ServiceReq) : OfferResult × State :=
    (res, (s.modSvc fun v => { v with queue := q }).stirWalk.wake (if level = .cap then [.uncap, .evalFront] else [.evalFront]))
  if whole then done .absorbed q0
  else
    match mergeTarget q0 level with
    | some i =>
      let q := q0.modify i fun r => { r with chans := r.chans.union left, flow := r.flow && flow }
      let all := match q[i]? with | some r => r.chans | none => left
      done .merged (absorbOld mid i level all 0 q)
    | none =>
      if q0.length < 8 then
        let q := q0 ++ [{ level := level, chans := left, flow := flow, started := false, state := .queued }]
        done (if left = chans then .entered else .merged) (absorbOld mid q0.length level left 0 q)
      else (.refused, (s.modSvc fun v => { v with queue := q0 }).post .serviceQueueFull left.subject level.code left.mask)

/-- An offered request whose result nobody needs. -/
def State.offerQuietly (s : State) (level : Level) (chans : ChanSet) (flow : Bool) : State := (s.offer level chans flow).2

/-! ### Station state and cap position -/

/-- The station state of a cap position (R138). -/
def CapPos.station : CapPos → Station
  | .closed => .capped
  | .opened => .uncapped

/-- The progress of a spit tied to the front is told to the Flow Controller (R59). -/
def State.spitProgress (s : State) (r : ServiceReq) : State := if s.tiedToFront r then s.wake [.evalFront] else s

/-- The station state changed; the Flow Controller is told of every change (R59, R138), and the UNCAP test of R67 is made. -/
def State.setStation (s : State) (st : Station) : State :=
  if s.svc.station = st then s
  else (s.modSvc fun v => { v with station := st }).stir.wake [.uncap, .evalFront]

/-- A decap timer set to 0: running when the cap is OPEN (R146). -/
def Decap.restart (d : Decap) : Decap := { d with ms := 0, expired := false }

/-- Every decap timer set to 0 (R142, R145, R146). -/
def State.restartDecaps (s : State) : State := s.modSvc fun v => { v with decap := PerChan.of fun c => (v.decap.get c).restart }

/-- The cap is CLOSED and every decap timer stops at 0 (R142, R146). -/
def State.capCloses (s : State) : State := (s.modSvc fun v => { v with cap := .closed }).restartDecaps

/-- The cap is OPEN by an uncap step, or as found at power-on, and every decap timer starts at 0 (R131, R142, R146). -/
def State.capOpens (s : State) : State := (s.modSvc fun v => { v with cap := .opened }).restartDecaps

/-! ### Decap expiry and the wipe counter (R146 to R148) -/

/-- A stale channel is covered by a queued, waiting or running SPIT, LIGHT or PRIME that names it (R147). -/
def State.cleaningNames (s : State) (c : Chan) : Bool :=
  s.svc.queue.any fun r => r.chans.get c && (r.level == .spit || r.level == .light || r.level == .prime)

/-- The stale channels that no SPIT, LIGHT or PRIME request covers (R147). -/
def State.uncoveredStale (s : State) : ChanSet := PerChan.of fun c => (s.svc.decap.get c).stale && !s.cleaningNames c

/-- A SPIT offered for stale channels; those of a refused request are kept to be offered again (R147). -/
def State.offerStaleSpit (s : State) (cs : ChanSet) : State :=
  if cs.isEmpty then s
  else
    match s.offer .spit cs false with
    | (.refused, s') => s'.modSvc fun v => { v with spitOwed := v.spitOwed.union cs }
    | (_, s') => s'.modSvc fun v => { v with spitOwed := v.spitOwed.minus cs }

/-- The channels whose refused SPIT is still owed: stale and not covered (R147, log 25). -/
def State.owedStale (s : State) : ChanSet := PerChan.of fun c => s.uncoveredStale.get c && s.svc.spitOwed.get c

/-- A channel's decap timer runs (R146). -/
def State.decapRuns (s : State) (c : Chan) : Bool := s.svc.cap == .opened && !(s.svc.decap.get c).expired

/-- A channel's decap limit in ms (section 5.1, field 9). -/
def State.decapLimitMs (s : State) (c : Chan) : Nat := (s.chanProf c).decapLimit * 1000

/-- A running decap timer reaches its limit: it stops there, at the limit in force also where that was staged below it (log 37), the channel is
stale, and under policy ANY a SPIT is offered, and after it again one for the other channels whose SPIT was refused before (R146, R147, log 25). -/
def State.decapExpires (s : State) (c : Chan) : State :=
  if s.decapRuns c then
    let stale := (s.svc.decap.get c).stale
    let owed := s.owedStale.minus (ChanSet.single c)
    let s := s.modSvc fun v => { v with decap := v.decap.set c { ms := s.decapLimitMs c, expired := true, stale := true } }
    let s := if s.prof.flow.spitPolicy = .any then (s.offerStaleSpit (ChanSet.single c)).offerStaleSpit owed else s
    if stale then s.stir else s.stir.wake [.evalFront]
  else s

/-- The decap timers of channels that a new limit already stands below expire at once (R146), in channel order (log 20). -/
def State.decapLimitsMet (s : State) : State :=
  Chan.all.foldl (fun s c => if decide (s.decapLimitMs c ≤ (s.svc.decap.get c).ms) then s.decapExpires c else s) s

/-- At a sheet's becoming DONE or SPOILED under policy NEEDED: one SPIT for every stale channel that no request covers (R147). -/
def State.sheetBoundarySpit (s : State) : State := if s.prof.flow.spitPolicy = .needed then s.offerStaleSpit s.uncoveredStale else s

/-- An interval in pL: the wipe interval of the flow profile in force (R148). -/
def State.wipeIntervalVolume (s : State) : Nat := s.prof.flow.wipeInterval * pLPerML

/-- The wipe volume counter stands at or above the interval: a WIPE is offered, and an accepted one clears the counter (R148). -/
def State.wipeTest (s : State) : State :=
  if s.wipeIntervalVolume ≤ s.svc.wipeVolume then
    match s.offer .wipe ChanSet.empty false with
    | (.refused, s') => s'
    | (_, s') => s'.modSvc fun v => { v with wipeVolume := 0 }
  else s

/-- The sum in the 48-bit wipe volume counter; a sum that does not fit is a free value (R148, log 11). -/
def wipeSum (old add : Nat) : Nat := if old + add < 2 ^ 48 then old + add else (Config.wipePastWidth (old + add)).toNat

/-- An addition to the wipe volume counter (R148). -/
def State.wipeAdd (s : State) (v : Nat) : State := (s.modSvc fun k => { k with wipeVolume := wipeSum k.wipeVolume v }).wipeTest

/-! ### Reserving ink for a step (R137) -/

/-- The spit reservation of a channel: spit passes × (1024 − RETIRED count) × large drop volume (R137). -/
def State.spitVolume (s : State) (c : Chan) : Nat :=
  (s.chanProf c).spitPasses * (1024 - s.retiredNozzles c) * (s.chanProf c).large

/-- The spit reservation of a channel set. -/
def State.spitVolumes (s : State) (cs : ChanSet) : PerChan Nat := PerChan.of fun c => if cs.get c then s.spitVolume c else 0

/-- The prime reservation of a channel set (R137). -/
def State.primeVolumes (s : State) (cs : ChanSet) : PerChan Nat :=
  PerChan.of fun c => if cs.get c then (s.chanProf c).primeVolume * pLPerUL else 0

/-- The spit step's own passes, taken at the moment of reservation (R139). -/
def State.setOwnPasses (s : State) : State :=
  s.modSvc fun v => { v with spit := { SpitWork.none with reserved := true, own := PerChan.of fun c => (s.chanProf c).spitPasses } }

/-- The ink that a request reserves before it starts: its spit for SPIT and LIGHT, its prime volumes for PRIME (R137). -/
def State.reserveToStart (s : State) (r : ServiceReq) : Option State :=
  match r.level with
  | .spit =>
    match s.reserve true (s.spitVolumes r.chans) with
    | (none, s') => some s'.setOwnPasses
    | (some _, _) => none
  | .light =>
    match s.reserve true (s.spitVolumes r.chans) with
    | (none, s') => some s'.setOwnPasses
    | (some _, _) => none
  | .prime =>
    match s.reserve true (s.primeVolumes r.chans) with
    | (none, s') => some (s'.modSvc fun v => { v with spit := SpitWork.none })
    | (some _, _) => none
  | _ => some (s.modSvc fun v => { v with spit := SpitWork.none })

/-! ### Starting and calling (R134 to R136) -/

/-- No request starts at all: one is RUNNING, the station is in FAULT, the link is LOST, a step that R152 or R153 lets run or the cap step of
R152 is in flight, or the capped line has no filtered state yet (R131, R134). -/
def State.mayStartAny (s : State) : Bool :=
  s.running?.isNone && (s.svc.station == .capped || s.svc.station == .uncapped) && s.link.state == .up &&
    !s.svc.stepEnd.outside && s.svc.cappedLine.filt != .unknown

/-- A level may start (table of R134). -/
def State.mayStart (s : State) (level : Level) : Bool :=
  let noMargin := !s.anySheet fun t => t == .leading || t == .trailing || t == .cutting
  let printing := s.anySheet fun t => t == .printing
  match level with
  | .uncap => true
  | .spit => noMargin && s.boundary
  | .wipe => noMargin && s.boundary && (!printing || s.prof.flow.midSheetWipe)
  | .light => noMargin && s.boundary && (!printing || s.prof.flow.midSheetWipe)
  | .prime => noMargin && s.boundary && !printing
  | .cap => noMargin && !s.anySlot Slot.inHand

/-- The steps of a level, by the cap position at the start (table of section 7.2). -/
def stepsOf (level : Level) (cap : CapPos) : List Step :=
  match level, cap with
  | .spit, .opened => [.spit]
  | .spit, .closed => [.uncap, .spit]
  | .wipe, .opened => [.wipe]
  | .wipe, .closed => [.uncap, .wipe]
  | .light, .opened => [.wipe, .spit]
  | .light, .closed => [.uncap, .wipe, .spit]
  | .prime, .opened => [.cap, .suction, .uncap, .wipe, .spit]
  | .prime, .closed => [.suction, .uncap, .wipe, .spit]
  | .cap, .opened => [.cap]
  | .cap, .closed => []
  | .uncap, .opened => []
  | .uncap, .closed => [.uncap]

/-- The level has a spit step (section 7.2). -/
def Level.spits : Level → Bool
  | .spit => true
  | .light => true
  | .prime => true
  | _ => false

/-- The pass count of a request: the largest spit passes field of its channels for a level with a spit step, else 0 (R135). -/
def State.passCount (s : State) (r : ServiceReq) : Nat :=
  if r.level.spits then Chan.all.foldl (fun n c => if r.chans.get c then max n (s.chanProf c).spitPasses else n) 0 else 0

/-- A post with the subject and details of SERVICE_CALL (R135). -/
def State.postCall (s : State) (k : EventKind) (r : ServiceReq) : State :=
  s.post k r.chans.subject (r.level.code + 256 * s.passCount r) r.chans.mask

/-- The station becomes CALLING: it remembers its resting state, asks for the carriage, posts SERVICE_CALL, starts the call timer (R135). A call
in the middle of a request does the same: its timer starts at 0 and the resting state is taken afresh from the cap position (R138, log 44). -/
def State.call (s : State) (r : ServiceReq) : State :=
  ((s.modSvc fun v => { v with resting := v.cap, asking := true, callMs := 0, callRunning := true }).setStation .calling).postCall
    .serviceCall r

/-- The request leaves the queue. -/
def dropRunning (q : List ServiceReq) : List ServiceReq := q.filter fun r => !(r.state == .running)

/-- The end of a request that had no steps: it leaves the queue and posts no event (R135), and the idle timer stays (log 33). -/
def State.completeSilently (s : State) : State :=
  (s.modSvc fun v => { v with queue := dropRunning v.queue, steps := [] }).stirWalk.wake [.uncap, .evalFront]

/-- The request at a position starts (R135): the started-before flag is set, the steps are fixed, the Health Table is told of a PRIME. -/
def State.startRequest (s : State) (i : Nat) (r : ServiceReq) : State :=
  let steps := stepsOf r.level s.svc.cap
  let s := s.modSvc fun v =>
    { v with queue := v.queue.modify i (fun r => { r with started := true, state := .running }), steps := steps, stepEnd := StepEnd.normal }
  let s := if r.level = .prime then s.primeBegins r.chans else s
  let s := s.stir.spitProgress r
  if steps = [] then s.completeSilently
  else if r.level = .uncap then s.wakeFirst .serviceStep
  else (s.call r).wakeFirst .serviceStep

/-- A request's reservation is refused: it becomes WAITING_INK (R137); the front is told where that is new. -/
def State.waitForInk (s : State) (i : Nat) (r : ServiceReq) : State :=
  if r.state = .waitingInk then s
  else (s.modSvc fun v => { v with queue := v.queue.modify i fun r => { r with state := .waitingInk } }).spitProgress r

/-- The walk of the queue from the oldest request: the first whose level may start and whose ink is granted starts (R134). `offered` says
which requests are offered in this walk (R137). -/
def State.walkFrom (offered : ServiceReq → Bool) (s : State) : List Nat → State
  | [] => s
  | i :: is =>
    match s.svc.queue[i]? with
    | none => s
    | some r =>
      if offered r && s.mayStart r.level then
        match s.reserveToStart r with
        | some s' => s'.startRequest i r
        | none => (s.waitForInk i r).walkFrom offered is
      else s.walkFrom offered is

/-- The Service Sequencer looks for a request to start (R134). -/
def State.walk (s : State) : State :=
  if s.mayStartAny then s.walkFrom (fun _ => true) (List.range s.svc.queue.length) else s

/-- The Service Sequencer looks for a request to start where a swath boundary stands (R67, R134). -/
def State.boundaryWalk (s : State) : State := if s.boundary then s.walk else s

/-- A request waits for ink and names a channel of a set. -/
def ServiceReq.waitsFor (cs : ChanSet) (r : ServiceReq) : Bool := r.state == .waitingInk && r.chans.meets cs

/-- The Service Sequencer looks for a request to start at an ink report that names a channel of a WAITING_INK request; a request that waits
for the ink of other channels is not offered again (R134, R137). -/
def State.inkWalk (s : State) (cs : ChanSet) : State :=
  if s.svc.queue.any (ServiceReq.waitsFor cs) && s.mayStartAny then
    s.walkFrom (fun r => r.state != .waitingInk || r.waitsFor cs) (List.range s.svc.queue.length)
  else s

/-! ### Steps (R138 to R143) -/

/-- The station runs no step: CALLING, or between steps. -/
def Station.betweenSteps : Station → Bool
  | .calling => true
  | .capped => true
  | .uncapped => true
  | _ => false

/-- The station of a step in flight (section 7.1). -/
def Step.station : Step → Station
  | .cap => .capping
  | .uncap => .uncapping
  | .wipe => .wiping
  | .spit => .spitting
  | .suction => .suction

/-- The suction of the first channel still to be sucked begins: the pump's time starts, a refill run there ends (R143, R99). -/
def State.suctionBegins (s : State) : State :=
  let s := s.modSvc fun v => { v with motorMs := 0 }
  match s.svc.toSuck with
  | c :: _ => s.stopRun c
  | [] => s

/-- The step's motor, pump or spit starts and the station shows it (R139, R141, R142, R143). A call that it ends leaves the call timer and the resting
state at their last values (log 46). -/
def State.stepStarts (s : State) (r : ServiceReq) (st : Step) : State :=
  let s := s.modSvc fun v => { v with motorMs := 0, callRunning := false }
  match st with
  | .spit =>
    (s.modSvc fun v =>
      { v with spit := { v.spit with set := r.chans, passes := 0, mark := 0, counted := PerChan.of fun _ => 0 } }).setStation .spitting
  | .suction => ((s.modSvc fun v => { v with toSuck := Chan.all.filter r.chans.get }).setStation .suction).suctionBegins
  | st => (s.setStation st.station).wakeFirst .serviceStep

/-- The step needs the carriage (section 7.2). -/
def Step.needsCarriage : Step → Bool
  | .cap => true
  | .wipe => true
  | .spit => true
  | _ => false

/-- The ink of a spit step is asked where it is neither reserved nor refused: before the spit step of a PRIME (R137, R138). -/
def State.askSpit (s : State) (r : ServiceReq) : State :=
  if s.svc.spit.reserved || s.svc.spit.refused then s
  else
    match s.reserve true (s.spitVolumes r.chans) with
    | (none, s') => s'.setOwnPasses
    | (some _, _) => s.modSvc fun v => { v with spit := { v.spit with refused := true } }

/-- A step's ink is asked before it begins: only a spit step has any to ask (R137). -/
def State.askStep (s : State) (r : ServiceReq) (st : Step) : State := if st = .spit then s.askSpit r else s

/-- A step has the ink it needs (R138). -/
def State.stepInked (s : State) (st : Step) : Bool := st != .spit || s.svc.spit.reserved

/-- The request's next step begins where it may (R136, R138): from CALLING with the carriage line active and a boundary; a carriage step
between steps likewise, calling again when the line is inactive; a PRIME's spit only with its ink; any other step at once. A request that waits
between two steps for a boundary calls again where a later look at the step finds the line inactive, before a boundary stands (log 47). -/
def State.beginStep (s : State) (r : ServiceReq) (st : Step) : State :=
  let s := s.askStep r st
  let atStation := s.svc.carriageLine.isActive
  if !s.stepInked st then s
  else if s.svc.station = .calling then (if atStation && s.boundary then s.stepStarts r st else s)
  else if st.needsCarriage then (if !atStation then s.call r else if s.boundary then s.stepStarts r st else s)
  else s.stepStarts r st

/-- The channels of the RUNNING request, the empty set when there is none. -/
def State.runningChans (s : State) : ChanSet := match s.running? with | some r => r.chans | none => ChanSet.empty

/-- The last step of the request has ended: it leaves the queue, the carriage is no longer asked, the station shows the cap position,
SERVICE_DONE is posted, the Health Table and the Flow Controller are told (R138). -/
def State.completeRequest (s : State) (r : ServiceReq) : State :=
  let s := (s.modSvc fun v => { v with queue := dropRunning v.queue, steps := [], asking := false, callRunning := false, spit := SpitWork.none }).setStation
    s.svc.cap.station
  ((s.postCall .serviceDone r).cleaningCompleted r.level r.chans).stirWalk.wake [.uncap, .evalFront]

/-- The RUNNING request returns to the head of the queue as QUEUED with what it holds released, or leaves it when it is a flow request
under a link reset; its steps are forgotten and the carriage is no longer asked (R144, R145, R152, R153). A request that returns counts as the end
of a service request for the quiet point, which is tested before it, or another, starts again (R183, log 38). The call timer and the resting state keep their last values (log 46). -/
def State.returnRunning (s : State) : State :=
  let drop := s.svc.stepEnd.dropFlow
  let s := s.releaseService
  let ran := s.running?
  let back := (s.svc.queue.filter fun r => r.state == .running && !(drop && r.flow)).map fun r => { r with state := .queued }
  let s := (s.modSvc fun v =>
    { v with queue := back ++ dropRunning v.queue, steps := [], asking := false, callRunning := false, toSuck := [],
             spit := SpitWork.none, stepEnd := StepEnd.normal }).stirWalk.wake [.uncap]
  match ran with
  | some r => if drop && r.flow then s.wake [.evalFront] else s.spitProgress r
  | none => s

/-- The cap step of R152 outside the queue begins: no carriage is asked and nothing is posted. -/
def State.capOutside (s : State) : State :=
  ((s.modSvc fun v => { v with motorMs := 0, stepEnd := { StepEnd.normal with outside := true } }).setStation .capping).wakeFirst .serviceStep

/-- The cap step of R152 where it is due: the station is UNCAPPED and the carriage line is active. -/
def State.restCap (s : State) : State :=
  if s.svc.station = .uncapped && s.svc.carriageLine.isActive then s.capOutside else s

/-- A step has ended with the cap position as it stands: the cap step of R152 is over; or the request returns (R144, R152, R153) and
the cap step of R152 may follow; or the request goes on or completes (R138). -/
def State.stepEnds (s : State) : State :=
  let e := s.svc.stepEnd
  let s := s.setStation s.svc.cap.station
  if e.outside then (s.modSvc fun v => { v with stepEnd := StepEnd.normal }).stirWalk
  else if e.returns then
    let s := s.returnRunning
    if e.capAfter then s.restCap else s
  else
    match s.running?, s.svc.steps with
    | some r, _ :: [] => s.completeRequest r
    | some _, _ :: rest => (s.modSvc fun v => { v with steps := rest }).wakeFirst .serviceStep
    | _, _ => s

/-- A cap step completes (R142). -/
def State.capCompletes (s : State) : State := if s.svc.station = .capping then s.capCloses.stepEnds else s

/-- An uncap step completes (R142). -/
def State.uncapCompletes (s : State) : State := if s.svc.station = .uncapping then s.capOpens.stepEnds else s

/-- A wipe step completes, and clears the counter unless its station was lost (R141, R144, R148). -/
def State.wipeCompletes (s : State) : State :=
  if s.svc.station = .wiping then
    let s := if s.svc.stepEnd.lostWipe then s else s.modSvc fun v => { v with wipeVolume := 0 }
    s.stepEnds
  else s

/-- The spit volumes used: counted drops times the large drop volume (R140). -/
def State.spitUsed (s : State) : PerChan Nat := PerChan.of fun c => s.svc.spit.counted.get c * (s.chanProf c).large

/-- A spit step ends: a spit debit for each channel of the request's set, and the sum of the volumes used into the wipe counter (R140). -/
def State.spitDebit (s : State) : State :=
  let used := s.spitUsed
  let cs := s.runningChans
  let s := s.debit true cs used (PerChan.of fun c => (s.ink.get c).servicePart)
  s.wipeAdd ((Chan.all.map fun c => if cs.get c then used.get c else 0).sum)

/-- A spit is abandoned: it is debited and the station becomes UNCAPPED (R140, R144, R152, R153). -/
def State.spitAbandoned (s : State) : State := s.spitDebit.setStation .uncapped

/-- The nozzles of a beat of the service area, of its channel: the 256 from 4 × (offset mod 256) (R46, R139). -/
def State.spitNozzles (s : State) (beat : Fin 20) : List Nozzle :=
  ((s.health.get (Chan.ofServiceOffset (64 * beat.val))).nozzles.drop (4 * (64 * beat.val % 256))).take 256

/-- The channels of the spit set that have completed their own passes leave it; their timers restart and their stale flags clear (R139). -/
def State.passLeave (s : State) : State :=
  let out : ChanSet := PerChan.of fun c => s.svc.spit.set.get c && decide (s.svc.spit.own.get c ≤ s.svc.spit.passes)
  if out.isEmpty then s
  else
    let stale := Chan.all.any fun c => out.get c && (s.svc.decap.get c).stale
    let s := (s.modSvc fun v =>
      { v with spit := { v.spit with set := v.spit.set.minus out },
               decap := PerChan.of fun c => if out.get c then Decap.zero else v.decap.get c }).stir
    if stale then s.wake [.evalFront] else s

/-- A counted spit beat: drops of the non-RETIRED nozzles for a channel of the spit set, the mark, and at 1280 a pass; the step completes
when the spit set is empty (R139, R140). -/
def State.spitCount (s : State) (beat : Fin 20) : State :=
  let c := Chan.ofServiceOffset (64 * beat.val)
  let n := (s.spitNozzles beat).countP fun z => z.st != .retired
  let s := s.modSvc fun v =>
    { v with spit := { v.spit with mark := v.spit.mark + 64,
                                   counted := if v.spit.set.get c then v.spit.counted.set c (v.spit.counted.get c + n) else v.spit.counted } }
  if s.svc.spit.mark < 1280 then s
  else
    let s := (s.modSvc fun v => { v with spit := { v.spit with mark := 0, passes := v.spit.passes + 1 } }).passLeave
    if s.svc.spit.set.isEmpty then s.spitDebit.stepEnds else s

/-- A FETCH read beat of the service area tested against the pass mark (R139). -/
def State.spitTest (s : State) (beat : Fin 20) : State :=
  if s.svc.station = .spitting && s.svc.spit.mark = 64 * beat.val then s.spitCount beat else s

/-- What the end of a channel's suction time does: the prime debit, the refill test, the next channel's suction or the end of the step; a suction
that R152 or R153 lets run ends after this channel, and the channels not yet sucked are released (R143). -/
def State.suctionEndSteps (s : State) : State :=
  match s.svc.station, s.svc.toSuck with
  | .suction, c :: rest =>
    let s := s.modSvc fun v => { v with toSuck := rest }
    let s := s.debit true (ChanSet.single c) (s.primeVolumes (ChanSet.single c)) (PerChan.of fun c => (s.ink.get c).servicePart)
    if s.svc.stepEnd.returns || rest.isEmpty then s.stepEnds else s.suctionBegins
  | _, _ => s

/-- A channel's suction time ends, one event: its debit and the release of the channels that R152 and R153 leave unsucked are one report
(R89, R143). -/
def State.suctionEnds (s : State) : State := s.together State.suctionEndSteps

/-- The running request's step is looked at (R136, R138, R142): a cap or uncap step whose line stands active completes; a step that has not
begun begins where it may. -/
def State.serviceStep (s : State) : State :=
  match s.svc.station with
  | .capping => if s.svc.cappedLine.isActive then s.capCompletes else s
  | .uncapping => if s.svc.openLine.isActive then s.uncapCompletes else s
  | .calling => match s.running?, s.svc.steps with | some r, st :: _ => s.beginStep r st | _, _ => s
  | .capped => match s.running?, s.svc.steps with | some r, st :: _ => s.beginStep r st | _, _ => s
  | .uncapped => match s.running?, s.svc.steps with | some r, st :: _ => s.beginStep r st | _, _ => s
  | _ => s

/-- An ink report that names a channel of the running PRIME whose spit was refused: its reservation is asked again (R137). -/
def State.inkRetry (s : State) (cs : ChanSet) : State :=
  if s.svc.spit.refused && s.runningChans.meets cs then
    (s.modSvc fun v => { v with spit := { v.spit with refused := false } }).serviceStep
  else s

/-! ### Faults, station loss and timeouts -/

/-- The station enters FAULT: the running request returns to the queue (R145); a step of R152 or R153 has ended so too. -/
def State.stationFault (s : State) : State :=
  let running := s.running?.isSome
  let s := s.setStation .fault
  if running then s.returnRunning else s.modSvc fun v => { v with stepEnd := StepEnd.normal }

/-- A cap or uncap step passes its limit: the motor stops, CAP_FAULT is posted, the cap counts as OPEN, FAULT (R142, R145). -/
def State.capFails (s : State) : State :=
  let lines := s.svc.cappedLine.filt.code + 256 * s.svc.openLine.filt.code
  match s.svc.station with
  | .capping => ((s.post .capFault 0xFF 1 lines).modSvc fun v => { v with cap := .opened }).stationFault
  | .uncapping => ((s.post .capFault 0xFF 2 lines).modSvc fun v => { v with cap := .opened }).stationFault
  | _ => s

/-- A wipe passes its limit: the motor stops, WIPER_FAULT is posted, FAULT (R141, R145). -/
def State.wiperFails (s : State) : State :=
  if s.svc.station = .wiping then (s.post .wiperFault 0xFF s.svc.wiperLine.filt.code 0).stationFault else s

/-- The call timer reaches its limit: CALL_TIMEOUT is posted and the timer stops (R136). -/
def State.callTimesOut (s : State) : State :=
  if s.svc.station = .calling && s.svc.callRunning then
    let s := s.modSvc fun v => { v with callMs := callLimit, callRunning := false }
    match s.running? with
    | some r => s.postCall .callTimeout r
    | none => s
  else s

/-- STATION_LOST posted for the running request (R144). -/
def State.postStationLost (s : State) (what : Nat) : State :=
  match s.running? with
  | some r => s.post .stationLost r.chans.subject r.level.code what
  | none => s

/-- The filtered carriage-at-station line has changed (R130): it aborts a wipe or spit by becoming inactive (R144), lets a call's step begin
by becoming active (R136), and starts the cap step of R152 while the link is LOST. A wipe that R152 or R153 lets run is aborted like any other, its
counter kept (log 33), but of one that R152 lets run no STATION_LOST is posted; a second drop during the same wipe posts none (log 51). A request
that waits between two steps is looked at by the next event that tests its step, and not by the line's becoming inactive (log 47). -/
def State.carriageChanged (s : State) : State :=
  if s.svc.carriageLine.isActive then
    let s := if s.link.state = .lost && s.running?.isNone then s.restCap else s
    s.stir
  else
    match s.svc.station with
    | .spitting => (s.postStationLost 2).spitAbandoned.returnRunning
    | .wiping =>
      if s.svc.stepEnd.lostWipe then s
      else (if s.svc.stepEnd.capAfter then s else s.postStationLost 1).modSvc fun v => { v with stepEnd := { v.stepEnd with returns := true, lostWipe := true } }
    | _ => s

/-- The first filtered state of the capped line (R131), at which a request may start (log 33); a later change of it completes a cap step by
becoming active (R142). -/
def State.cappedChanged (s : State) (old : LineState) : State :=
  if old = .unknown then
    if s.svc.cappedLine.isActive then (s.wake [.uncap, .evalFront]).stirWalk
    else (s.capOpens.setStation .uncapped).stirWalk
  else if s.svc.cappedLine.isActive then s.capCompletes.stir
  else s

/-- The filtered open line has changed: it completes an uncap step by becoming active (R142). -/
def State.openChanged (s : State) : State := if s.svc.openLine.isActive then s.uncapCompletes.stir else s

/-- The filtered wiper home line has changed from inactive to active: the wipe completes (R141). -/
def State.wiperChanged (s : State) (old : LineState) : State :=
  if old = .inactive && s.svc.wiperLine.isActive then s.wipeCompletes.stir else s

/-! ### The idle timer (R149) -/

/-- The idle timer set to 0 whenever one of its conditions fails (R149). -/
def State.idleTest (s : State) : State :=
  if s.idleCounts then s else s.modSvc fun v => { v with idleMs := 0, capWantedPosted := false }

/-- The idle timer reaches the idle-cap time: a CAP is offered, CAP_WANTED is posted once in an idle stretch, the timer counts again (R149). -/
def State.idleExpires (s : State) : State :=
  if s.idleCounts then
    let at_ := max s.svc.idleMs (s.prof.flow.idleCap * 1000)
    let s := s.offerQuietly .cap ChanSet.empty false
    let s := if s.svc.capWantedPosted then s else s.post .capWanted 0xFF at_ 0
    (s.modSvc fun v => { v with idleMs := 0, capWantedPosted := true }).stir
  else s

/-! ### A swath is admitted (R136) -/

/-- A CAP that is QUEUED, or RUNNING in CALLING, leaves the queue without completing when a swath is admitted; the station returns to its
resting state and the carriage is no longer asked (R136). -/
def State.withdrawCap (s : State) : State :=
  let calling := s.svc.station == .calling && (match s.running? with | some r => r.level == .cap | none => false)
  let left := s.svc.queue.any fun r => r.level == .cap && (r.state != .running || calling)
  let s := s.modSvc fun v => { v with queue := v.queue.filter fun r => !(r.level == .cap && (r.state != .running || calling)) }
  if calling then
    ((s.modSvc fun v => { v with steps := [], asking := false, callRunning := false }).setStation s.svc.resting.station).stirWalk.wake [.uncap, .evalFront]
  else if left then s.wake [.evalFront]
  else s

/-! ### Link loss and link reset (R152, R153) -/

/-- The step in flight is one that runs on to its end. -/
def Station.runsOn : Station → Bool
  | .uncapping => true
  | .capping => true
  | .wiping => true
  | .suction => true
  | _ => false

/-- The running request ends its call, spit or wait at once and returns (R152, R153); between two steps likewise (log 16). -/
def State.restAtOnce (s : State) : State :=
  match s.running?, s.svc.station with
  | some _, .spitting => s.spitAbandoned.returnRunning
  | some _, .calling => (s.setStation s.svc.resting.station).returnRunning
  | some _, _ => s.returnRunning
  | none, _ => s

/-- The link enters LOST: the station is brought to rest (R152). -/
def State.serviceLost (s : State) : State :=
  if s.svc.station.runsOn then
    if s.svc.stepEnd.outside then s
    else s.modSvc fun v => { v with stepEnd := { v.stepEnd with returns := true, capAfter := true } }
  else s.restAtOnce.restCap

/-- A link reset: a spit is abandoned, a call ended, any other step runs on; the running request returns, and requests with the flow flag
leave the queue (R153). -/
def State.serviceReset (s : State) : State :=
  let s := s.modSvc fun v =>
    { v with stepEnd := { v.stepEnd with dropFlow := true },
             queue := v.queue.filter fun r => r.state == .running || !r.flow }
  let s :=
    if s.svc.station.runsOn then
      if s.svc.stepEnd.outside then s.modSvc fun v => { v with stepEnd := { v.stepEnd with dropFlow := false } }
      else s.modSvc fun v => { v with stepEnd := { v.stepEnd with returns := true } }
    else
      let s := s.restAtOnce
      s.modSvc fun v => { v with stepEnd := StepEnd.normal }
  s.stir

end Sys2Proof.Machine
end

