-- ==== Sys2Proof/Machine/Rolls.lean ====
section
/-! DEFINITION. Machine/Rolls.lean: what the Media Controller reads off its records before it acts (chapter 8): planned length, suitable and
chosen roll, ink cover, the hold reason of a sheet start, the need at a roll end, the target and limit of a feed. -/
namespace Sys2Proof.Machine

/-- The planned length of a sheet in µm, when its expected length is given: leading margin, expected length and recorded trailing margin (R162). -/
def Sheet.planned (t : Sheet) : Option Nat := t.expected.map fun e => (t.leading + e + t.trailing.getD 0) * 1000

/-- A roll is suitable for a sheet: ACTIVE or LOADED, and long enough where both lengths are known (R162). -/
def State.suitable (s : State) (t : Sheet) (r : Roll) : Bool :=
  let k := s.roll r
  (k.st == .active || k.st == .loaded) &&
    match k.remaining, t.planned with
    | some len, some need => decide (need ≤ len)
    | _, _ => true

/-- The ACTIVE roll, if there is one. -/
def State.activeRoll? (s : State) : Option Roll :=
  if (s.roll .a).st = .active then some .a else if (s.roll .b).st = .active then some .b else none

/-- The engaged roll, if there is one (section 8.2). -/
def State.engagedRoll? (s : State) : Option Roll :=
  if (s.roll .a).st.engaged then some .a else if (s.roll .b).st.engaged then some .b else none

/-- The ENDED roll, if there is one. -/
def State.endedRoll? (s : State) : Option Roll :=
  if (s.roll .a).st = .ended then some .a else if (s.roll .b).st = .ended then some .b else none

/-- The roll chosen for a sheet, if one is (table of R162). -/
def State.chosenRoll? (s : State) (t : Sheet) : Option Roll :=
  match t.choice with
  | .a => if s.suitable t .a then some .a else none
  | .b => if s.suitable t .b then some .b else none
  | .either =>
    let first := s.activeRoll?.getD .a
    if s.suitable t first then some first else if s.suitable t first.other then some first.other else none

/-- The cover of a channel: level less reserved total, with the estimate of an ACTIVE cartridge (R163). -/
def InkChan.cover (k : InkChan) : Nat := k.level - k.reserved + (if k.cart = .active then k.estimate else 0)

/-- The first channel whose ink estimate is not covered, with its estimate (R163). -/
def State.uncoveredInk? (s : State) (t : Sheet) : Option (Chan × Nat) :=
  Chan.all.findSome? fun c =>
    match t.inkEst.get c with
    | some e => if e ≤ (s.inkOf c).cover then none else some (c, e)
    | none => none

/-- A media operation may start (R155). -/
def State.opMayStart (s : State) : Bool := s.media.op.isNone && s.link.state == .up && !s.media.fault

/-- An operation of a sheet is in flight. -/
def State.opOfSheet (s : State) (sid : Nat) : Bool :=
  match s.media.op with
  | some o => o.sheet == some sid
  | none => false

/-- An operation of a sheet is due (R155). -/
def State.dueOfSheet (s : State) (sid : Nat) : Bool :=
  match s.media.due with
  | some d => d.sid == sid
  | none => false

/-- Step ROLL waits for the rolls: an operation is in flight, a roll is ENDED, or a switch runs (table of section 8.4). -/
def State.rollsBusy (s : State) : Bool := s.media.op.isSome || s.media.due.isSome || s.endedRoll?.isSome

/-- The hold reason that a STARTING sheet gives (table of section 8.4, R62). -/
def State.sheetHold (s : State) (t : Sheet) : Reason :=
  if s.media.fault then .media
  else
    match t.start with
    | some .prime => .service
    | some .roll => if s.rollsBusy then .sheet else if (s.chosenRoll? t).isNone then .media else .sheet
    | some .ink => .ink
    | some .lead => .service
    | _ => .sheet

/-- The sheet in LEADING, PRINTING or TRAILING, if there is one. -/
def State.fedSheet? (s : State) : Option Sheet :=
  s.media.table.find? fun t => t.st == .leading || t.st == .printing || t.st == .trailing

/-- The distance that the trailing feed of a sheet has still to run, in µm (R170). -/
def State.trailingLeft (s : State) (t : Sheet) : Nat :=
  let margin := t.trailing.getD 0 * 1000
  match s.media.op with
  | some o => if o.kind = .trailing ∧ o.sheet = some t.sid then margin - o.progress * 10 else margin
  | none => margin

/-- The need of a sheet at a roll end in µm, where it is judged (table of R170). -/
def State.rollEndNeed (s : State) (t : Sheet) : Option Nat :=
  match t.st with
  | .leading => t.planned.map fun p => p - t.fed
  | .printing => t.planned.map fun p => p - t.fed
  | .trailing => some (s.trailingLeft t)
  | _ => none

/-- The quotient of two numbers rounded up. -/
def ceilDiv (a b : Nat) : Nat := (a + b - 1) / b

/-- The target of a feed of `d` µm under a correction of `c` ppm, in ticks of 10 µm, rounded up (R165). -/
def feedTarget (d : Nat) (c : Int) : Nat := ceilDiv (d * (1000000 + c).toNat) 10000000

/-- The limit of a feed of `d` µm in ms: 500 plus 2 for each whole or part millimetre (R155, R165). -/
def feedLimit (d : Nat) : Nat := 500 + 2 * ceilDiv d 1000

/-- The limit of a rewind and of a thread in ms (R155). -/
def windLimit : Nat := 30000

end Sys2Proof.Machine
end

