-- ==== Sys2Proof/Machine/Status.lean ====
section
/-! DEFINITION. Machine/Status.lean: what reads are answered with: the disposition of a go word (R65 to R67), the exchange beat, the result beat and
the status beats, byte for byte (sections 11.4 and 11.5). -/
namespace Sys2Proof.Machine

/-! ### The go word (R65 to R67) -/

/-- The dispositions of a go word. -/
inductive Disposition where
  | wait | print | service | skip
  deriving DecidableEq, Repr

/-- The code of a disposition (11.4). -/
def Disposition.code : Disposition → Nat
  | .wait => 0
  | .print => 1
  | .service => 2
  | .skip => 3

/-- The conditions of R66 on the next swath, but for the carriage. -/
def State.mayPrint (s : State) (i : SlotIx) : Bool :=
  !s.flow.pause && !s.motion && s.svc.station == .uncapped &&
    match s.sheetOfSlot i with
    | some t => t.st == .printing
    | none => false

/-- The disposition of a slot's go word (table of R65, R66, R67). -/
def State.disposition (s : State) (i : SlotIx) : Disposition :=
  let k := s.slot i
  let next := decide (s.nextSwath? = some i)
  match k.st with
  | .free => .wait
  | .opened => .wait
  | .posted => if next && s.svc.asking then .service else .wait
  | .held => if next && s.svc.asking then .service else .wait
  | .admitted =>
    if k.armed then .print
    else if !next then .wait
    else if s.svc.asking then .service
    else if s.mayPrint i then .print
    else .wait
  | .firing => .print
  | .advancing => .wait
  | .retired =>
    match k.outcome with
    | some .skipped => .skip
    | some .cancelled => .skip
    | some .rejected => .skip
    | _ => .wait

/-- The pass count that a SERVICE go word carries (R65, R67). -/
def State.calledPasses (s : State) : Nat :=
  match s.running? with
  | some r => s.passCount r
  | none => 0

/-- The code of an absent or present reason (R197). -/
def reasonCode (r : Option Reason) : Nat := (r.map Reason.code).getD 0

/-- The exchange beat of a slot at the moment of answering (R40, 11.4). A slot that is no swath slot shows 0 too for a committed sequence that is absent
(log 40). -/
def State.exchangeBeat (s : State) (i : SlotIx) : List Byte :=
  let k := s.slot i
  let d := s.disposition i
  buildBeat
    ([(0, 1, d.code), (1, 1, if d = .service then s.calledPasses else 0),
      (8, 1, k.st.code + 16 * (k.outcome.map SlotOutcome.code).getD 0), (9, 1, (k.kind.map SlotKind.code).getD 0),
      (10, 1, reasonCode k.reason), (11, 1, k.lateHeaders + 16 * k.faults), (12, 2, (k.seq.map BitVec.toNat).getD 0), (14, 2, k.detail)] ++
     (Chan.all.map fun c => (16 + 8 * c.num, 6, k.capVolume.get c)) ++ [(56, 4, k.capUnplaced), (60, 4, k.capOverBudget)])

/-! ### The beats of the control slot -/

/-- The result beat (R180, 11.4). -/
def State.resultBeat (s : State) : List Byte :=
  let m := s.mail
  buildBeat
    [(0, 2, m.seq.toNat), (2, 1, m.kind), (3, 1, (m.result.map ResultCode.code).getD 0), (4, 2, m.detail), (6, 2, m.count.toNat)]

/-- The part summary beat (R193, 11.5). -/
def State.partBeat (s : State) : List Byte :=
  let slotOr (o : Option SlotIx) : Nat := (o.map Fin.val).getD 0xFF
  buildBeat
    [(0, 4, s.time.ms.toNat), (4, 1, flagVal s.flow.pause), (5, 1, if s.link.state = .up then 0 else 1), (6, 2, s.link.silence),
     (8, 1, s.svc.station.code), (9, 1, flagVal s.media.fault), (10, 1, s.admittedCount), (11, 1, s.parser.posted.length),
     (12, 1, slotOr s.front?), (13, 1, slotOr s.armedOrFiringSlot), (14, 2, s.parser.expected.toNat),
     (16, 2, (s.parser.lastAccepted.map BitVec.toNat).getD 0xFFFF),
     (18, 1, flagVal s.parser.lastAccepted.isSome + 2 * flagVal s.events.suspend + 4 * flagVal s.events.attention),
     (19, 1, s.events.masks.toNat), (20, 1, s.events.recs.length), (24, 4, s.events.overflow)]

/-- The ink status beat of a channel (R109, 11.5). Byte 24 holds the empty reason by the codes that R102 gives its event, and 0 for none (log 31). -/
def State.inkBeat (s : State) (c : Chan) : List Byte :=
  let k := s.inkOf c
  buildBeat
    [(0, 6, k.level), (6, 6, k.reserved), (12, 6, k.servicePart), (18, 1, flagVal k.synced), (19, 1, flagVal k.low),
     (20, 1, k.lowFloat.filt.code), (21, 1, k.fullFloat.filt.code), (22, 1, k.presence.filt.code), (23, 1, k.cart.code),
     (24, 1, (k.emptyReason.map EmptyReason.code).getD 0), (28, 4, k.declared), (32, 8, k.estimate), (40, 4, k.lot.toNat),
     (44, 1, flagVal k.running), (45, 1, k.phase.code), (46, 2, k.strokes), (48, 1, k.overrun), (49, 1, k.cal.code),
     (50, 2, k.measCount), (56, 6, k.measured.getD 0)]

/-- The health summary beat of a channel (R127, 11.5). A last report that is absent shows 0 in bytes 24 and 25 (log 40). -/
def State.healthBeat (s : State) (c : Chan) : List Byte :=
  let h := s.health.get c
  let p := s.chanProf c
  buildBeat
    [(0, 2, h.countState .good), (2, 2, h.countState .weak), (4, 2, h.countState .missing), (6, 2, h.countState .retired),
     (8, 2, h.deadCount), (10, 2, h.uncoveredCount), (12, 2, h.lowestUncovered), (14, 2, h.pendingCount), (16, 1, h.stage.code),
     (17, 1, flagVal p.compensation), (18, 1, p.cleanThreshold), (19, 1, flagVal h.lastReport.isSome), (20, 4, h.reports.toNat),
     (24, 2, (h.lastReport.map BitVec.toNat).getD 0)]

/-- The two's complement of a signed value in `n` bytes (R195). -/
def signedVal (n : Nat) (v : Int) : Nat := (v % (256 ^ n : Nat)).toNat

/-- The fields of a media profile in the media section layout at byte `o` (11.2). -/
def mediaFields (o : Nat) (p : MediaProfile) : List (Nat × Nat × Nat) :=
  [(o, 2, p.width), (o + 2, 1, p.kind), (o + 4, 2, signedVal 2 p.correction), (o + 6, 2, p.tailLength), (o + 8, 1, p.rollLow)]

/-- The staged media profile of a roll. -/
def State.stagedMedia (s : State) : Roll → Option StagedMedia
  | .a => s.prof.stagedA
  | .b => s.prof.stagedB

/-- The roll status beat (R177, 11.5). A remaining length that is not known shows 0 (log 40). -/
def State.rollBeat (s : State) (r : Roll) : List Byte :=
  let k := s.roll r
  buildBeat
    ([(0, 1, k.st.code), (1, 1, flagVal (s.stagedMedia r).isSome), (2, 1, flagVal k.remaining.isSome), (3, 1, flagVal k.lowPosted),
      (4, 1, k.presentLine.filt.code), (5, 1, k.endLine.filt.code), (8, 6, k.remaining.getD 0)] ++ mediaFields 16 (s.mediaProf r))

/-- The oldest sheet record that is neither DONE nor SPOILED (R177). -/
def State.shownSheet? (s : State) : Option Sheet := s.media.table.find? fun t => !(t.st == .done || t.st == .spoiled)

/-- The hold reason shown for a sheet: that of its start, as R62 gives it to the front; a PENDING or LEADING sheet holds for SHEET. -/
def State.shownHold (s : State) (t : Sheet) : Nat :=
  match t.st with
  | .starting => (s.sheetHold t).code
  | .pending => Reason.sheet.code
  | .leading => Reason.sheet.code
  | _ => 0

/-- The fields of the current sheet beat that a sheet record gives (11.5). An expected length, a trailing margin, an ink estimate and a spoil reason that are
absent show 0 (log 40). -/
def State.sheetFields (s : State) (t : Sheet) : List (Nat × Nat × Nat) :=
  [(0, 1, 1), (1, 1, t.st.code), (2, 1, (t.start.map StartStep.code).getD 0), (3, 1, s.shownHold t), (4, 2, t.number),
   (6, 2, t.firstSeq.toNat), (8, 1, t.choice.code), (9, 1, (t.roll.map Roll.num).getD 0xFF),
   (10, 1, flagVal t.spoil.isSome + 2 * flagVal t.endCommitted + 4 * flagVal t.inkShort + 8 * flagVal t.expected.isSome +
     16 * flagVal t.trailing.isSome + 32 * flagVal s.media.fault),
   (11, 1, reasonCode t.spoil), (12, 2, t.leading), (14, 2, t.trailing.getD 0), (16, 4, t.expected.getD 0), (20, 2, t.swaths),
   (22, 2, t.retired), (24, 6, t.fed),
   (44, 1, (Chan.all.map fun c => if (t.inkEst.get c).isSome then 2 ^ c.num else 0).sum)] ++
    Chan.all.map fun c => (48 + 3 * c.num, 3, (t.inkEst.get c).getD 0 / pLPerUL)

/-- The fields of the current sheet beat that the operation in flight gives (11.5); the target of one that counts no ticks to an end is 0 (log 41). -/
def opFields (o : MediaOp) : List (Nat × Nat × Nat) :=
  [(32, 1, o.kind.code), (33, 1, o.roll.num), (34, 2, o.ms), (36, 4, o.target), (40, 4, o.progress)]

/-- The current sheet beat (R177, 11.5); the fields of a record or an operation that is not there show 0, but for the roll used (log 40). -/
def State.sheetBeat (s : State) : List Byte :=
  buildBeat
    ((match s.shownSheet? with | some t => s.sheetFields t | none => [(9, 1, 0xFF), (10, 1, 32 * flagVal s.media.fault)]) ++
      [(30, 1, s.media.feedPath.filt.code + 4 * s.media.platen.filt.code + 16 * s.media.cutterHome.filt.code),
       (31, 1, s.media.table.length)] ++
      (match s.media.op with | some o => opFields o | none => []))

/-- The fields of the request records, two bytes each (11.5). -/
def requestFields : Nat → List ServiceReq → List (Nat × Nat × Nat)
  | _, [] => []
  | i, r :: rs =>
    (8 + 2 * i, 1, r.level.code + 8 * r.state.code + 32 * flagVal r.flow + 64 * flagVal r.started) ::
      (9 + 2 * i, 1, r.chans.mask) :: requestFields (i + 1) rs

/-- The service queue beat (R151, 11.5, R198). The completed passes and the pass mark show 0 while no spit step runs (log 40). The call
timer and the resting state are those of the last call (log 46). -/
def State.serviceBeat (s : State) : List Byte :=
  let v := s.svc
  let spitting := decide (v.station = .spitting)
  buildBeat
    ([(0, 1, v.station.code), (1, 1, if v.cap = .closed then 0 else 1), (2, 1, if v.resting = .closed then 0 else 1),
      (3, 1, v.queue.length), (4, 2, v.callMs), (6, 1, if spitting then v.spit.passes else 0),
      (7, 1, if spitting then v.spit.mark / 64 else 0)] ++ requestFields 0 v.queue ++
     (Chan.all.map fun c => (24 + 2 * c.num, 2, (v.decap.get c).ms / 10)) ++
     [(34, 1, (Chan.all.map fun c => if (v.decap.get c).stale then 2 ^ c.num else 0).sum),
      (35, 1, v.cappedLine.filt.code + 4 * v.openLine.filt.code + 16 * v.wiperLine.filt.code + 64 * v.carriageLine.filt.code),
      (36, 6, v.wipeVolume), (42, 4, v.idleMs)])

/-- The counters beat (R193, 11.5). -/
def State.countersBeat (s : State) : List Byte :=
  let k := s.counters
  buildBeat
    [(0, 4, s.time.ms.toNat), (4, 4, k.strayFetches), (8, 4, k.lateWrites), (12, 4, k.unplaced), (16, 4, k.overBudget),
     (20, 4, k.holdExpiries), (24, 4, k.fetchOrder)]

/-- The staged sections as a set (R185). -/
def Profiles.stagedMask (p : Profiles) : Nat :=
  (Chan.all.map fun c => if (p.stagedChan.get c).isSome then 2 ^ c.num else 0).sum + 32 * flagVal p.stagedA.isSome +
    64 * flagVal p.stagedB.isSome + 128 * flagVal p.stagedFlow.isSome

/-- The fields of a flow profile in the flow section layout at byte `o` (11.2). -/
def flowFields (o : Nat) (p : FlowProfile) : List (Nat × Nat × Nat) :=
  [(o, 2, p.starveLimit), (o + 2, 1, if p.starveAction = .wait then 0 else 1), (o + 3, 1, if p.release = .auto then 0 else 1),
   (o + 4, 2, p.idleCap), (o + 6, 2, p.wipeInterval), (o + 8, 1, flagVal p.midSheetWipe), (o + 9, 1, if p.spitPolicy = .any then 0 else 1)]

/-- The profile state beat (R185, 11.5). A last executed or refused PROFILE that is absent shows 0, its field code too (log 40). -/
def State.profileBeat (s : State) : List Byte :=
  let p := s.prof
  buildBeat
    ([(0, 1, p.stagedMask), (1, 1, flagVal s.quietPoint), (2, 1, flagVal p.lastExecuted.isSome + 2 * flagVal p.lastRefused.isSome)] ++
     flowFields 4 p.flow ++
     [(16, 2, (p.lastExecuted.map BitVec.toNat).getD 0), (18, 2, (p.lastRefused.map fun r => r.1.toNat).getD 0),
      (20, 2, (p.lastRefused.map Prod.snd).getD 0)])

/-- The result or status beat at a control-slot offset; none where the offset is no such beat (section 10.4, 11.2). -/
def State.statusBeat? (s : State) (o : Nat) : Option (List Byte) :=
  if o = 0x100 then some s.resultBeat
  else if o = 0x1C0 then some s.partBeat
  else if 0x200 ≤ o ∧ o < 0x340 then (Chan.ofNum? ((o - 0x200) / 64)).map s.inkBeat
  else if 0x340 ≤ o ∧ o < 0x480 then (Chan.ofNum? ((o - 0x340) / 64)).map s.healthBeat
  else if o = 0x480 then some (s.rollBeat .a)
  else if o = 0x4C0 then some (s.rollBeat .b)
  else if o = 0x500 then some s.sheetBeat
  else if o = 0x540 then some s.serviceBeat
  else if o = 0x580 then some s.countersBeat
  else if o = 0x5C0 then some s.profileBeat
  else none

end Sys2Proof.Machine
end

