-- ==== Sys2Proof/Machine/Slots.lean ====
section
/-! DEFINITION. Machine/Slots.lean: answering a read of the go word (R8, R9, R68, R69), the retirement of a slot (R35, R36), the release
of retired slots (R38, R39). -/
namespace Sys2Proof.Machine

/-! ### Answers -/

/-- The span base: the strap value times 256 MiB (R4). -/
def State.spanBase (s : State) : Nat := s.link.straps.toNat * 268435456

/-- The address of a slot's exchange beat (R5). -/
def State.exchangeAddr (s : State) (i : SlotIx) : Nat := s.spanBase + 0x1000 + 256 * i.val + 0xC0

/-- More beats of the FETCH read whose beat is answered now wait behind it (R3, R10). -/
def State.moreBeats (s : State) : Bool := match s.link.waiting with | b :: _ => b.cont | [] => false

/-- The beats that return to the print controller as a beat is answered: the response of a FETCH read returns when it is complete, with its last beat (R3).
A RASTER or GENERAL read is answered whole within its own event, so that its beats may return as they come (log 5). -/
def State.returned (s : State) (a : Answer) : List Answer :=
  match a.cls with
  | .fetch => if s.moreBeats then [] else s.link.gathered ++ [a]
  | _ => [a]

/-- The answered beats of the FETCH read in hand that do not return yet, once a beat is answered (R3). -/
def State.keptBack (s : State) (a : Answer) : List Answer :=
  match a.cls with
  | .fetch => if s.moreBeats then s.link.gathered ++ [a] else []
  | _ => s.link.gathered

/-- A read beat answered (R3, R7). -/
def State.answer (s : State) (cls : ReqClass) (addr : Nat) (data : List Byte) : State :=
  let a : Answer := { cls := cls, addr := addr, data := data }
  { s with out := { s.out with answers := s.out.answers ++ s.returned a }, link := { s.link with gathered := s.keptBack a } }

/-- A go word answered to a read of a class: the overlay at this moment; a PRINT to a FETCH read arms the swath (R9, R69). -/
def State.answerGoWord (s : State) (cls : ReqClass) (i : SlotIx) : State :=
  let d := s.disposition i
  let s := s.answer cls (s.exchangeAddr i) (s.exchangeBeat i)
  if cls = .fetch && d = .print && (s.slot i).st = .admitted then s.modSlot i fun k => { k with armed := true } else s

/-- The held read answered with its overlay as it stands; the reads behind it follow (R9, R10). -/
def State.answerHeld (s : State) (i : SlotIx) : State :=
  ({ s with link := { s.link with held := none, holdMs := 0 } }.answerGoWord .fetch i).wake [.drain]

/-- The held read is answered when the disposition of its slot has left WAIT (R9, R68). -/
def State.heldReadTest (s : State) : State :=
  match s.link.held with
  | some i => if s.disposition i = .wait then s else s.answerHeld i
  | none => s

/-! ### Retirement (R35, R36) -/

/-- An entry offered to the retirement list (R36). -/
def State.enterRetired (s : State) (e : RetireEntry) : State :=
  if s.parser.retired.length < 64 then { s with parser := { s.parser with retired := s.parser.retired ++ [e] } }
  else
    let n := s.parser.retireOverflow
    let s := { s with parser := { s.parser with retireOverflow := n + 1 } }
    if n = 0 then s.post .retireOverflow e.slot.val ((e.seq.map BitVec.toNat).getD 0) 0 else s

/-- The windows of a slot removed (R45). -/
def State.removeWindows (s : State) (i : SlotIx) : State := { s with windows := s.windows.filter fun w => w.slot ≠ i }

/-- A slot's entry on the posted list removed (R29). -/
def State.unpost (s : State) (i : SlotIx) : State :=
  { s with parser := { s.parser with posted := s.parser.posted.filter fun j => j ≠ i } }

/-- The reservation that an ADMITTED swath holds, released in full (R48, R79, R81, R87). -/
def State.releaseSlotNeed (s : State) (i : SlotIx) : State :=
  if (s.slot i).st = .admitted then s.releaseNeed (s.slot i).need else s

/-- The sheet record of a slot's swath takes one more retirement (R160). -/
def State.countRetired (s : State) (i : SlotIx) : State :=
  match (s.slot i).sheet with
  | some sid => s.modSheet sid fun t => { t with retired := t.retired + 1 }
  | none => s

/-- A slot record at step 3 of R35: RETIRED with its outcome, reason and detail, and nothing of the swath left (R56). -/
def Slot.retire (k : Slot) (o : SlotOutcome) (r : Option Reason) (detail : Nat) : Slot :=
  { k with st := .retired, outcome := some o, reason := r, detail := detail, tally := Tally.zero, sheet := none,
           need := PerChan.of fun _ => 0, armed := false, cancel := none }

/-- A slot record that becomes FREE again: the committed sequence is absent (section 2.1, R39); the captured kind and geometry, which R39 does not name,
stay until the slot next leaves FREE (log 35). -/
def Slot.release (k : Slot) : Slot := { k with st := .free, seq := none }

/-- A slot retires (R35). A held read of its go word that turns to SKIP is answered between steps 4 and 5 (R68). The entries behind it
follow; the front is evaluated where the admitted count falls or the front retires (R59); where an armed or FIRING swath ends, a swath
boundary may come to stand (R67). -/
def State.retire (s : State) (i : SlotIx) (o : SlotOutcome) (r : Option Reason) (detail : Nat) : State :=
  let inHand := (s.slot i).inHand
  let front := decide (s.front? = some i)
  let boundary := (s.slot i).armedOrFiring
  let s := ((s.releaseSlotNeed i).unpost i).removeWindows i
  let s := (s.countRetired i).modSlot i fun k => k.retire o r detail
  let s := s.enterRetired { seq := (s.slot i).seq, slot := i, outcome := o, reason := r }
  let s := if s.link.held = some i then s.heldReadTest else s
  let s := if s.prof.flow.release = .auto then s.modSlot i Slot.release else s
  let s := s.wake ([.quiet, .directives] ++ (if inHand then [.evalFront, .uncap] else if front then [.evalFront] else []))
  if boundary then s.stirBoundary else s.stir

/-- SWATH_REJECTED posted: the reason code and the committed sequence (R197). -/
def State.postRejected (s : State) (i : SlotIx) (r : Reason) (q : Option Seq) : State :=
  s.post .swathRejected i.val r.code ((q.map BitVec.toNat).getD 0)

/-- A swath rejected: it retires REJECTED, then SWATH_REJECTED is posted (R25 to R27, R48, R60). -/
def State.rejectSwath (s : State) (i : SlotIx) (r : Reason) (detail : Nat) : State :=
  let q := (s.slot i).seq
  (s.retire i .rejected (some r) detail).postRejected i r q

/-- Every RETIRED slot becomes FREE: the release mode changes from MANUAL to AUTO (R38). -/
def State.releaseAll (s : State) : State :=
  { s with slots := s.slots.map fun k => if k.st = .retired then k.release else k }

end Sys2Proof.Machine
end

