-- ==== Sys2Proof/Machine/Media.lean ====
section
/-! DEFINITION. Machine/Media.lean: the Media Controller (chapter 8): spoiling and ending sheets, media operations and their ends, rolls, roll
end, platen, faults. -/
namespace Sys2Proof.Machine

/-! ### The ends of a sheet (R160, R169, R173, R174) -/

/-- Every swath of a sheet has retired, its SHEET_END swath among those committed (R160). -/
def Sheet.allRetired (t : Sheet) : Bool := t.endCommitted && t.retired == t.swaths

/-- The state of a sheet has changed: the Flow Controller is told where the sheet is the front's or an earlier one, and the Service
Sequencer (R59, R134). -/
def State.sheetMoved (s : State) (sid : Nat) : State := (if s.frontSees sid then s.wake [.evalFront] else s).stirWalk

/-- An item of a sheet other than its state changed. -/
def State.setSheet (s : State) (sid : Nat) (f : Sheet → Sheet) : State := (s.modSheet sid f).stir

/-- The state of a sheet changed. -/
def State.moveSheet (s : State) (sid : Nat) (f : Sheet → Sheet) : State := (s.modSheet sid f).sheetMoved sid

/-- The starvation timer set to 0, from which STARVED may be posted again (R75, R76). -/
def State.starveZero (s : State) : State := { s with flow := { s.flow with starveMs := 0, starvedPosted := false } }

/-- A sheet leaves PRINTING: the starvation timer stops at 0 (R75). -/
def State.leavePrinting (s : State) (t : Sheet) : State := if t.st = .printing then s.starveZero else s

/-- A sheet becomes SPOILED: SHEET_SPOILED is posted, with 256 added to the reason where a cut was made; stale channels may be spat (R174, R147). -/
def State.becomeSpoiled (s : State) (t : Sheet) (cut : Bool) : State :=
  let s := (s.leavePrinting t).modSheet t.sid fun t => { t with st := .spoiled, start := none }
  let s := s.post .sheetSpoiled t.number (reasonCode t.spoil + (if cut then 256 else 0)) t.fed
  s.sheetBoundarySpit.sheetMoved t.sid

/-- A sheet becomes DONE: SHEET_DONE is posted (R160, R169, R147). -/
def State.becomeDone (s : State) (t : Sheet) : State :=
  let s := s.modSheet t.sid fun t => { t with st := .done, start := none }
  let s := s.post .sheetDone t.number ((t.roll.map Roll.num).getD 0xFF) t.fed
  s.sheetBoundarySpit.sheetMoved t.sid

/-- What a spoil does to a swath of the spoiled sheet (table of R79), which names no detail for a swath that retires: it shows 0 (log 30). -/
def State.spoilSwath (s : State) (r : Reason) (i : SlotIx) : State :=
  match (s.slot i).st with
  | .posted => s.retire i .skipped (some r) 0
  | .held => s.retire i .skipped (some r) 0
  | .admitted => s.retire i .skipped (some r) 0
  | .firing => s.modSlot i fun k => { k with cancel := some (k.cancel.getD r) }
  | _ => s

/-- The posted entries that are swaths of a sheet, in list order. -/
def State.swathsOf (s : State) (sid : Nat) : List SlotIx := s.parser.posted.filter fun i => (s.slot i).sheet = some sid

/-- A sheet is spoiled with a reason (R173): the flag and the reason are set, its swaths are acted on within the one event (R79); a PENDING sheet becomes SPOILED at
once. A sheet that is DONE, SPOILED or already being spoiled does not change. -/
def State.spoil (s : State) (sid : Nat) (r : Reason) : State :=
  match s.sheet? sid with
  | none => s
  | some t =>
    if t.st = .done || t.st = .spoiled || t.spoil.isSome then s
    else
      let mine := s.swathsOf sid
      let s := s.setSheet sid fun t => { t with spoil := some r }
      let s := s.together fun s => mine.foldl (fun s i => s.spoilSwath r i) s
      if t.st = .pending then
        match s.sheet? sid with
        | some t => s.becomeSpoiled t false
        | none => s
      else s

/-! ### Rolls (R156, R159) -/

/-- A roll's state changed; an engaged roll whose roll-present line has become inactive leaves for ABSENT instead (R156). -/
def State.setRoll (s : State) (r : Roll) (st : RollState) : State :=
  let k := s.roll r
  let gone := k.st.engaged && !st.engaged && !k.presentLine.isActive
  let s := s.modRoll r fun k => if gone then { k with st := .absent, remaining := none, lowPosted := false } else { k with st := st }
  s.stir

/-- ROLL_LOW tested: a known remaining length below the roll low length posts it once (R159). -/
def State.rollLowTest (s : State) (r : Roll) : State :=
  let k := s.roll r
  let p := s.mediaProf r
  match k.remaining with
  | some len =>
    if decide (len < p.rollLow * 1000000) && !k.lowPosted then
      (s.modRoll r fun k => { k with lowPosted := true }).post .rollLow r.num (len / 1000) (p.rollLow * 1000)
    else s
  | none => s

/-- The remaining length of a roll lowered, where it is known, to no less than 0 (R159). -/
def State.lowerRemaining (s : State) (r : Roll) (len : Nat) : State :=
  (s.modRoll r fun k => { k with remaining := k.remaining.map fun v => v - len }).rollLowTest r

/-- A roll becomes OUT and ROLL_OUT is posted (R172). -/
def State.rollOut (s : State) (r : Roll) : State := (s.setRoll r .out).post .rollOut r.num 0 0

/-! ### Starting operations (R155, R165) -/

/-- An operation put in flight: its drive starts. -/
def State.beginOp (s : State) (o : MediaOp) : State := (s.modMedia fun m => { m with op := some o }).stir

/-- A feed of a sheet put in flight on a roll (R165). -/
def State.beginFeed (s : State) (kind : OpKind) (r : Roll) (sid : Nat) (slot : Option SlotIx) (dist : Nat) : State :=
  s.beginOp
    { kind := kind, roll := r, sheet := some sid, slot := slot, dist := dist, target := feedTarget dist (s.mediaProf r).correction,
      progress := 0, ms := 0, limit := feedLimit dist, prev := none, next := none }

/-- A rewind put in flight; `next` is the roll that a switch makes room for (R162). It has no target in ticks: 0 is recorded (R155, log 41). -/
def State.beginRewind (s : State) (r : Roll) (sid : Option Nat) (next : Option Roll) : State :=
  (s.setRoll r .rewinding).beginOp
    { kind := .rewind, roll := r, sheet := sid, slot := none, dist := 0, target := 0, progress := 0, ms := 0, limit := windLimit,
      prev := none, next := next }

/-- A thread put in flight; `prev` is the roll that was engaged before (R162). It has no target in ticks: 0 is recorded (R155, log 41). -/
def State.beginThread (s : State) (r : Roll) (sid : Nat) (prev : Option Roll) : State :=
  (s.setRoll r .threading).beginOp
    { kind := .thread, roll := r, sheet := some sid, slot := none, dist := 0, target := 0, progress := 0, ms := 0, limit := windLimit,
      prev := prev, next := none }

/-- A cut put in flight (R169). It has no target in ticks: 0 is recorded (R155, log 41). -/
def State.beginCut (s : State) (t : Sheet) : State :=
  s.beginOp
    { kind := .cut, roll := t.roll.getD .a, sheet := some t.sid, slot := none, dist := 0, target := 0, progress := 0, ms := 0,
      limit := strokeLimit3s, prev := none, next := none }

/-- A clearing feed put in flight on an ENDED roll (R172). It has no target in ticks: 0 is recorded (R155, log 41). -/
def State.beginClearing (s : State) (r : Roll) : State :=
  s.beginOp
    { kind := .clearing, roll := r, sheet := none, slot := none, dist := 0, target := 0, progress := 0, ms := 0,
      limit := 500 + 2 * (s.mediaProf r).tailLength, prev := none, next := none }

/-- A due operation recorded: it waits for R155. -/
def State.makeDue (s : State) (d : DueOp) : State := s.modMedia fun m => { m with due := some d }

/-- A feed of a sheet started, or due where R155 does not allow it yet. -/
def State.startFeed (s : State) (kind : OpKind) (t : Sheet) (slot : Option SlotIx) (dist : Nat) : State :=
  if s.opMayStart then s.beginFeed kind (t.roll.getD .a) t.sid slot dist
  else s.makeDue { kind := kind, sid := t.sid, slot := slot, dist := dist, roll := t.roll.getD .a, prev := none }

/-- A cut of a sheet started, or due (R168, R169). -/
def State.startCut (s : State) (t : Sheet) : State :=
  if s.opMayStart then s.beginCut t
  else s.makeDue { kind := .cut, sid := t.sid, slot := none, dist := 0, roll := t.roll.getD .a, prev := none }

/-- A thread of a sheet start started, or due (R162). -/
def State.startThread (s : State) (r : Roll) (sid : Nat) (prev : Option Roll) : State :=
  if s.opMayStart then s.beginThread r sid prev
  else s.makeDue { kind := .thread, sid := sid, slot := none, dist := 0, roll := r, prev := prev }

/-- The due operation of a sheet forgotten (log 26). -/
def State.dropDue (s : State) (sid : Nat) : State :=
  if s.dueOfSheet sid then s.modMedia fun m => { m with due := none } else s

/-! ### The course of a sheet (R164, R168) -/

/-- A sheet becomes PRINTING: its starvation timer starts at 0 and the front is evaluated (R164, R75). -/
def State.toPrinting (s : State) (sid : Nat) : State := s.starveZero.moveSheet sid fun t => { t with st := .printing }

/-- A sheet becomes CUTTING and its cut starts (R168). -/
def State.toCutting (s : State) (t : Sheet) : State := (s.moveSheet t.sid fun t => { t with st := .cutting }).startCut t

/-- A sheet becomes TRAILING and its trailing feed starts; a margin of 0, or none recorded, feeds nothing (R168). -/
def State.toTrailing (s : State) (t : Sheet) : State :=
  let dist := t.trailing.getD 0 * 1000
  let s := ((s.dropDue t.sid).leavePrinting t).moveSheet t.sid fun t => { t with st := .trailing }
  if dist = 0 then s.toCutting t else s.startFeed .trailing t none dist

/-- A sheet becomes LEADING and its leading feed starts; a margin of 0 feeds nothing and the sheet is PRINTING at once (R164). -/
def State.toLeading (s : State) (t : Sheet) : State :=
  let s := s.moveSheet t.sid fun t => { t with st := .leading, start := none }
  if t.leading = 0 then s.toPrinting t.sid else s.startFeed .leading t none (t.leading * 1000)

/-! ### Ends of operations (R74, R155, R162, R165, R169) -/

/-- The operation in flight is over: its drive stops, and a swath boundary may come to stand (R67). -/
def State.endOp (s : State) : State := (s.modMedia fun m => { m with op := none }).stirBoundary

/-- The length a feed added, to its sheet and off its roll (R159, R165, R166). -/
def State.addFed (s : State) (o : MediaOp) (len : Nat) : State :=
  let s := match o.sheet with
    | some sid => s.modSheet sid fun t => { t with fed := t.fed + len }
    | none => s
  s.lowerRemaining o.roll len

/-- The end of an advance reported: an ADVANCING swath retires PRINTED with the reason given, and the starvation timer restarts; where no such
swath stands the report is dropped (R74, R75). -/
def State.advanceEnds (s : State) (o : MediaOp) (r : Option Reason) : State :=
  let s := match o.sheet.bind s.sheet? with
    | some t => if t.st = .printing then s.starveZero else s
    | none => s
  match o.slot with
  | some i => if (s.slot i).st = .advancing ∧ (s.slot i).sheet = o.sheet then s.retire i .printed r 0 else s
  | none => s

/-- A feed has reached its target (R165). -/
def State.feedDone (s : State) (o : MediaOp) : State :=
  let s := s.endOp.addFed o o.dist
  match o.kind with
  | .advance => s.advanceEnds o none
  | .leading =>
    match o.sheet.bind s.sheet? with
    | some t => if t.st = .leading ∧ t.spoil = none then s.toPrinting t.sid else s
    | none => s
  | .trailing =>
    match o.sheet.bind s.sheet? with
    | some t => if t.st = .trailing then s.toCutting t else s
    | none => s
  | _ => s

/-- The sheet start that an operation serves is still at its roll step. -/
def State.startsAtRoll (s : State) (sid : Option Nat) : Bool :=
  match sid.bind s.sheet? with
  | some t => t.st == .starting && t.start == some .roll && t.spoil.isNone
  | none => false

/-- The sheet start that an operation serves is still at its roll step and has not lost its swaths: more media may move for it (R160). -/
def State.threadsAtRoll (s : State) (sid : Option Nat) : Bool :=
  s.startsAtRoll sid && match sid.bind s.sheet? with | some t => !t.allRetired | none => false

/-- A rewind has ended: after a switch the roll is LOADED and the thread of the chosen roll starts, but where that roll is no longer LOADED, and the
start chooses afresh (log 50); after an unload the roll is PRESENT, its remaining length unknown (R158, R162). -/
def State.rewindDone (s : State) (o : MediaOp) : State :=
  let s := s.endOp
  match o.next, o.sheet with
  | some r, some sid =>
    let s := s.setRoll o.roll .loaded
    if s.threadsAtRoll o.sheet && (s.roll r).st = .loaded then s.startThread r sid (some o.roll) else s
  | _, _ => (s.setRoll o.roll .present).modRoll o.roll fun k => { k with remaining := none, lowPosted := false }

/-- A thread has ended: the roll is ACTIVE, ROLL_SWITCHED is posted, and the sheet start goes on with it (R162). -/
def State.threadDone (s : State) (o : MediaOp) : State :=
  let p := s.mediaProf o.roll
  let s := (s.endOp.setRoll o.roll .active).post .rollSwitched o.roll.num ((o.prev.map Roll.num).getD 0xFF) (p.width + p.kind * 65536)
  match o.sheet with
  | some sid => if s.startsAtRoll o.sheet then s.setSheet sid fun t => { t with roll := some o.roll, start := some .ink } else s
  | none => s

/-- A clearing feed has ended: the roll is OUT (R172). -/
def State.clearingDone (s : State) (o : MediaOp) : State :=
  let s := s.endOp
  if (s.roll o.roll).st = .ended then s.rollOut o.roll else s

/-- A cut is complete: the sheet is DONE, or SPOILED with the cut made (R169). -/
def State.cutDone (s : State) (o : MediaOp) : State :=
  let s := s.endOp
  match o.sheet.bind s.sheet? with
  | some t => if t.st = .cutting then (if t.spoil.isSome then s.becomeSpoiled t true else s.becomeDone t) else s
  | none => s

/-- The operation in flight has come to its end by the lines and the count as they stand (table of R155). A cut ends by a change of its line alone. -/
def State.opAtEnd (s : State) (o : MediaOp) : Bool :=
  match o.kind with
  | .advance => decide (o.target ≤ o.progress)
  | .leading => decide (o.target ≤ o.progress)
  | .trailing => decide (o.target ≤ o.progress)
  | .clearing => !s.media.platen.isActive
  | .rewind => s.media.feedPath.isActive
  | .thread => s.media.platen.isActive
  | .cut => false

/-- The end of an operation (R155). -/
def State.opEnds (s : State) (o : MediaOp) : State :=
  match o.kind with
  | .advance => s.feedDone o
  | .leading => s.feedDone o
  | .trailing => s.feedDone o
  | .clearing => s.clearingDone o
  | .rewind => s.rewindDone o
  | .thread => s.threadDone o
  | .cut => s.cutDone o

/-- A due operation starts (R155): a spoiled sheet whose platen is empty makes no trailing feed and no cut (R171); a thread whose roll is no longer
LOADED, or whose sheet start is over, is forgotten and the roll is chosen afresh (R162). -/
def State.startDue (s : State) (d : DueOp) : State :=
  let s := s.modMedia fun m => { m with due := none }
  match s.sheet? d.sid with
  | none => s.stir
  | some t =>
    match d.kind with
    | .cut => s.beginCut t
    | .thread =>
      if s.threadsAtRoll (some d.sid) && (s.roll d.roll).st = .loaded && s.engagedRoll?.isNone then s.beginThread d.roll d.sid d.prev
      else s.stir
    | .trailing =>
      if t.spoil.isSome && !s.media.platen.isActive then s.becomeSpoiled t false else s.beginFeed .trailing d.roll d.sid d.slot d.dist
    | k => s.beginFeed k d.roll d.sid d.slot d.dist

/-- The media operations are looked at (R155): one that is at its end ends; else a due one starts, else the clearing feed of an ENDED roll (R172). -/
def State.mediaTest (s : State) : State :=
  match s.media.op with
  | some o => if s.opAtEnd o then s.opEnds o else s
  | none =>
    if s.opMayStart then
      match s.media.due with
      | some d => s.startDue d
      | none =>
        match s.endedRoll? with
        | some r => if s.sheetOnPath then s else s.beginClearing r
        | none => s
    else s

/-! ### Faults (R166, R169, R175) -/

/-- FEED_STALL detail 2: the ticks counted for a feed, the limit for a rewind or thread (R166). -/
def MediaOp.stallDetail (o : MediaOp) : Nat :=
  match o.kind with
  | .rewind => o.limit
  | .thread => o.limit
  | _ => o.progress

/-- The length that a stalled feed added: distance times ticks counted over target, rounded down (R166). -/
def MediaOp.stallLength (o : MediaOp) : Nat := if o.target = 0 then 0 else o.dist * o.progress / o.target

/-- An operation other than a cut has stalled (R166): the media block enters FAULT; a stalled feed of a sheet adds what it fed and spoils the sheet; a
stalled trailing feed leaves the cut to follow (log 18). -/
def State.opStalls (s : State) (o : MediaOp) : State :=
  let s := s.endOp.post .feedStall o.roll.num o.kind.code o.stallDetail
  let s := s.modMedia fun m => { m with fault := true }
  if o.kind.isFeed then
    let s := s.addFed o o.stallLength
    let s := match o.sheet with
      | some sid => s.spoil sid .feedFault
      | none => s
    match o.kind with
    | .advance => s.advanceEnds o (some .feedFault)
    | .trailing =>
      match o.sheet.bind s.sheet? with
      | some t => if t.st = .trailing then s.toCutting t else s
      | none => s
    | _ => s
  else s.stir

/-- A cut has not come home: CUTTER_FAULT, FAULT, and the sheet is SPOILED with no cut made (R169). -/
def State.cutFails (s : State) (o : MediaOp) : State :=
  let sheet := o.sheet.bind s.sheet?
  let s := s.endOp.post .cutterFault ((sheet.map Sheet.number).getD 0xFFFF) s.media.cutterHome.filt.code 0
  let s := s.modMedia fun m => { m with fault := true }
  match o.sheet with
  | some sid =>
    let s := s.spoil sid .feedFault
    match s.sheet? sid with
    | some t => s.becomeSpoiled t false
    | none => s
  | none => s

/-- The limit of the operation in flight is reached (R155, R166, R169). -/
def State.opLimit (s : State) (o : MediaOp) : State :=
  match o.kind with
  | .cut => s.cutFails o
  | _ => s.opStalls o

/-! ### Lines (R154, R156, R162, R169 to R171) -/

/-- An encoder pulse: one tick of the feed in flight (R154, R165). A clearing feed counts its ticks for FEED_STALL (R166). -/
def State.pulse (s : State) : State :=
  match s.media.op with
  | some o =>
    if o.kind.isFeed || o.kind == .clearing then
      (s.modMedia fun m => { m with op := some { o with progress := o.progress + 1 } }).wake [.mediaOps]
    else s
  | none => s

/-- The filtered roll-present line of a roll has changed (R156). -/
def State.rollPresentChanged (s : State) (r : Roll) : State :=
  let k := s.roll r
  if k.presentLine.isActive then (if k.st = .absent then s.setRoll r .present else s)
  else if k.st.engaged || k.st = .absent then s
  else (s.modRoll r fun k => { k with st := .absent, remaining := none, lowPosted := false }).stir

/-- The filtered roll-end line of a roll has become active (R170). -/
def State.rollEndActive (s : State) (r : Roll) : State :=
  match (s.roll r).st with
  | .active =>
    let onRoll := s.fedSheet?.filter fun t => t.roll = some r
    let need := onRoll.bind s.rollEndNeed
    let s := (s.setRoll r .ended).post .rollEnd r.num ((onRoll.map Sheet.number).getD 0xFFFF) (need.getD 0)
    match onRoll, need with
    | some t, some n => if (s.mediaProf r).tailLength * 1000 < n then s.spoil t.sid .rollEnd else s
    | _, _ => s
  | .threading => (s.endOp.post .rollEnd r.num 0xFFFF 0).rollOut r
  | _ => s

/-- The filtered roll-end line of a roll has changed: becoming inactive changes no state (R170). -/
def State.rollEndChanged (s : State) (r : Roll) : State := if (s.roll r).endLine.isActive then s.rollEndActive r else s

/-- The filtered feed-path-clear line has changed: a rewind ends by its becoming active (R162). -/
def State.feedPathChanged (s : State) : State := s.wake [.mediaOps]

/-- The filtered platen line has become inactive: the three steps of R171. -/
def State.platenEmpty (s : State) : State :=
  let s := match s.fedSheet? with
    | some t => s.spoil t.sid .mediaOut
    | none => s
  match s.endedRoll? with
  | some r =>
    let s := match s.media.op with
      | some o => if o.kind = OpKind.clearing then s.endOp else s
      | none => s
    s.rollOut r
  | none =>
    match s.activeRoll? with
    | some r => s.setRoll r .loaded
    | none => s

/-- The filtered platen media-present line has changed: a thread ends by its becoming active (R162); becoming inactive is R171. -/
def State.platenChanged (s : State) : State := if s.media.platen.isActive then s.wake [.mediaOps] else s.platenEmpty.stir

/-- The filtered cutter home line has changed from `old`: from inactive, which an unknown state counts as (R154), to active it completes a
cut (R169). -/
def State.cutterChanged (s : State) (old : LineState) : State :=
  match s.media.op with
  | some o => if o.kind = .cut ∧ old ≠ .active ∧ s.media.cutterHome.isActive then s.cutDone o else s
  | none => s

/-! ### The ends of sheets, as tests (R160, R174) -/

/-- Nothing of a sheet runs: no operation of it, no FIRING or ADVANCING swath (R174). -/
def State.nothingRuns (s : State) (t : Sheet) : Bool :=
  !s.opOfSheet t.sid && !s.anySlot fun k => (k.st == .firing || k.st == .advancing) && k.sheet == some t.sid

/-- A spoiled sheet in LEADING or PRINTING goes on to its end (R174). -/
def State.spoiledEnd (s : State) (t : Sheet) : State :=
  let s := s.dropDue t.sid
  if s.media.platen.isActive && !s.media.fault then s.toTrailing t else s.becomeSpoiled t false

/-- One sheet is looked at: a spoiled one whose start or feeds have ended, and one that has lost its swaths (R160, R173, R174). A sheet in LEADING
that has lost its swaths waits for its leading feed also where that is only due, and leaves PRINTING for TRAILING after it (log 45). -/
def State.sheetEndTest (s : State) (t : Sheet) : State :=
  match t.st with
  | .pending => if t.spoil.isSome then s.becomeSpoiled t false else if t.allRetired then s.becomeDone t else s
  | .starting =>
    if s.opOfSheet t.sid then s
    else if t.spoil.isSome then (s.dropDue t.sid).becomeSpoiled t false
    else if t.allRetired then (s.dropDue t.sid).becomeDone t
    else s
  | .leading => if t.spoil.isSome && s.nothingRuns t then s.spoiledEnd t else s
  | .printing =>
    if s.nothingRuns t then
      if t.spoil.isSome then s.spoiledEnd t else if t.allRetired then s.toTrailing t else s
    else s
  | _ => s

/-- A record leaves the table when it is DONE or SPOILED with its SHEET_END committed and every swath retired (R160). -/
def Sheet.leaves (t : Sheet) : Bool := (t.st == .done || t.st == .spoiled) && t.allRetired

/-- The sheets are looked at, oldest first, and the records that are over leave the table (R160, R174). -/
def State.sheetsTest (s : State) : State :=
  let s := (s.media.table.map Sheet.sid).foldl (fun s sid => match s.sheet? sid with | some t => s.sheetEndTest t | none => s) s
  s.modMedia fun m => { m with table := m.table.filter fun t => !t.leaves }

end Sys2Proof.Machine
end

