-- ==== Sys2Proof/Machine/Health.lean ====
section
/-! DEFINITION. Machine/Health.lean: the Health Table (chapter 6): check reports (R114 to R117, R120, R124), head replacement (R126). -/
namespace Sys2Proof.Machine

/-! ### One nozzle (R115, R116, R120) -/

/-- The verdict of a report on a nozzle. -/
inductive Verdict where
  | fail | pass | none
  deriving DecidableEq, Repr

/-- A nozzle after a fail (R115, R116). -/
def Nozzle.failed (n : Nozzle) : Nozzle :=
  { n with fails := min 3 (n.fails + 1), passes := 0,
           st := match n.st with | .good => .weak | .weak => .missing | .missing => .missing | .retired => .retired }

/-- A nozzle after a pass (R115, R116): a nozzle that becomes GOOD has every count and flag cleared (R112). -/
def Nozzle.passed (n : Nozzle) : Nozzle :=
  let m := { n with passes := min 3 (n.passes + 1), fails := 0 }
  match n.st with
  | .good => m
  | .weak => Nozzle.good
  | .missing => if m.passes = 3 then Nozzle.good else m
  | .retired => m

/-- A survivor of a PRIME judged by the report that gave it a verdict (R120). -/
def Nozzle.surviveTest (n : Nozzle) : Nozzle :=
  if n.pending && n.st == .missing then
    let v := min 2 (n.survived + 1)
    { n with survived := v, pending := false, st := if v = 2 then .retired else .missing }
  else n

/-- A nozzle after a report's verdict; a RETIRED nozzle takes none (R115, R116, R120). -/
def Nozzle.judged (v : Verdict) (n : Nozzle) : Nozzle :=
  if n.st = .retired then n
  else
    match v with
    | .fail => n.failed.surviveTest
    | .pass => n.passed.surviveTest
    | .none => n

/-- The verdict of the table of R115. -/
def verdict (listed truncated : Bool) : Verdict := if listed then .fail else if truncated then .none else .pass

/-- The nozzles from number `k` on, each with its verdict taken. -/
def judgeFrom (k : Nat) (listed : List Nat) (truncated : Bool) : List Nozzle → List Nozzle
  | [] => []
  | n :: ns => n.judged (verdict (listed.contains k) truncated) :: judgeFrom (k + 1) listed truncated ns

/-- The nozzles of which a test holds before and after, counted pair by pair. -/
def countMoves (p : Nozzle → Nozzle → Bool) : List Nozzle → List Nozzle → Nat
  | a :: as, b :: bs => (if p a b then 1 else 0) + countMoves p as bs
  | _, _ => 0

/-- A nozzle became MISSING under R116. -/
def becameMissing (a b : Nozzle) : Bool := a.st == .weak && b.st == .missing

/-- A nozzle became RETIRED under R120. -/
def becameRetired (a b : Nozzle) : Bool := a.st != .retired && b.st == .retired

/-! ### The report (R114, R115, R117) -/

/-- The entries of a report, up to its entry count. -/
def reportEntries (h : List Byte) : List (Nat × Nat) := (List.range (entryCount h)).map (reportEntry h)

/-- An entry names a channel from 0 to 4 and a nozzle from 0 to 1023 (R114). -/
def entryValid (e : Nat × Nat) : Bool := decide (e.1 < 5) && decide (e.2 < 1024)

/-- The detail with which a report is refused, if it is (table of R114). -/
def reportError (h : List Byte) : Option Nat :=
  if !validChans (coveredMask h) then some 1
  else if 80 < entryCount h then some 2
  else (((reportEntries h).zipIdx).find? fun e => !entryValid e.1).map fun e => 0x100 + e.2

/-- The covered set of a report. -/
def covered (h : List Byte) : ChanSet := ChanSet.ofMask (coveredMask h)

/-- The listed nozzles of a channel: entries that name another channel are left out (R115). -/
def listedOf (h : List Byte) (c : Chan) : List Nat := (((reportEntries h).filter fun e => e.1 == c.num).map Prod.snd).eraseDups

/-- The number of entries taken: those of covered channels, repeats left out (R114, R115). -/
def entriesTaken (h : List Byte) : Nat := (Chan.all.map fun c => if (covered h).get c then (listedOf h c).length else 0).sum

/-- A channel of the Health Table after a report that covers it: nozzles, report count and last report (R115 to R117, R120, R128). -/
def HealthChan.reported (t : HealthChan) (h : List Byte) (c : Chan) (q : Option Seq) : HealthChan :=
  { t with nozzles := judgeFrom 0 (listedOf h c) (hasBit (truncatedMask h) c.num) t.nozzles, reports := t.reports + 1, lastReport := q }

/-- The whole table after a report. -/
def State.applyReport (s : State) (h : List Byte) (q : Option Seq) : State :=
  { s with health := PerChan.of fun c => if (covered h).get c then (s.health.get c).reported h c q else s.health.get c }

/-- The number of moves of a kind in each channel between two tables. -/
def movesOf (p : Nozzle → Nozzle → Bool) (old new : PerChan HealthChan) : PerChan Nat :=
  PerChan.of fun c => countMoves p (old.get c).nozzles (new.get c).nozzles

/-- An event for the nozzles that moved, when some did: the report's sequence, their number, the set of their channels (R117). -/
def State.postMoves (s : State) (k : EventKind) (q : Option Seq) (m : PerChan Nat) : State :=
  let n := (Chan.all.map m.get).sum
  if n = 0 then s else s.post k ((q.map BitVec.toNat).getD 0) n (volumeChans m).mask

/-! ### The cleaning ladder (R124) -/

/-- A channel calls for cleaning (R124). -/
def State.callsForCleaning (s : State) (c : Chan) : Bool :=
  let h := s.health.get c
  decide (0 < h.uncoveredCount) || decide ((s.chanProf c).cleanThreshold ≤ h.deadCount)

/-- The channels of a report whose stage is `g` and that call for cleaning. -/
def State.callersAt (s : State) (cov : ChanSet) (g : CleanStage) : ChanSet :=
  PerChan.of fun c => cov.get c && decide ((s.health.get c).stage = g) && s.callsForCleaning c

/-- HEAD_DEGRADED posted for each channel of a set (R124), in channel order, of which R124 does not speak (log 20). -/
def State.postDegraded (s : State) (cs : ChanSet) : State :=
  Chan.all.foldl (fun s c =>
    if cs.get c then s.post .headDegraded c.num (s.health.get c).deadCount (s.health.get c).uncoveredCount else s) s

/-- A cleaning request of a report: on acceptance the stages of its channels move (R124). -/
def State.askCleaning (s : State) (level : Level) (cs : ChanSet) (g : CleanStage) : State :=
  if cs.isEmpty then s
  else
    match s.offer level cs false with
    | (.refused, s') => s'
    | (_, s') => s'.mapStages cs fun _ => g

/-- The stages of the covered channels evaluated: those that do not call return to CLEAR, then HEAD_DEGRADED is posted (log 20), then one
PRIME request and after it one LIGHT request are made (R124). -/
def State.climbLadder (s : State) (cov : ChanSet) : State :=
  let quiet : ChanSet := PerChan.of fun c => cov.get c && !s.callsForCleaning c
  let light := s.callersAt cov .clear
  let prime := s.callersAt cov .lightDone
  let worse := s.callersAt cov .primeDone
  let s := ((s.mapStages quiet fun _ => .clear).mapStages worse fun _ => .degraded).postDegraded worse
  (s.askCleaning .prime prime .primeAsked).askCleaning .light light .lightAsked

/-- A CHECK_REPORT that passes R114 is taken (R115 to R117, R120, R124). -/
def State.takeReport (s : State) (h : List Byte) (q : Option Seq) : State :=
  let old := s.health
  let s := s.applyReport h q
  let s := (s.postMoves .nozzleMissing q (movesOf becameMissing old s.health)).postMoves .nozzleRetired q (movesOf becameRetired old s.health)
  s.climbLadder (covered h)

/-! ### A new head (R126) -/

/-- A channel of the Health Table with a new head: every nozzle GOOD, the stage CLEAR, the report items kept (R126). -/
def HealthChan.renewed (t : HealthChan) : HealthChan := { t with nozzles := t.nozzles.map fun _ => Nozzle.good, stage := .clear }

/-- The heads of a set of channels replaced (R126). -/
def State.replaceHeads (s : State) (cs : ChanSet) : State :=
  { s with health := PerChan.of fun c => if cs.get c then (s.health.get c).renewed else s.health.get c }

end Sys2Proof.Machine
end

