-- ==== Sys2Proof/Machine/Profiles.lean ====
section
/-! DEFINITION. Machine/Profiles.lean: staging of profiles, their transparent fields, and their application at the quiet point (R181 to R184). -/
namespace Sys2Proof.Machine

/-- Some staged copy is present. -/
def Profiles.anyStaged (p : Profiles) : Bool := decide (p.stagedMask ≠ 0)

/-! ### Transparent fields (R182 step 1) -/

/-- A channel profile with the transparent field of another: its decap limit (section 9.3). -/
def ChanProfile.withTransparent (inForce new : ChanProfile) : ChanProfile := { inForce with decapLimit := new.decapLimit }

/-- A flow profile with the transparent fields of another: starvation limit and action, idle-cap time, spit policy (section 9.3). -/
def FlowProfile.withTransparent (inForce new : FlowProfile) : FlowProfile :=
  { inForce with starveLimit := new.starveLimit, starveAction := new.starveAction, idleCap := new.idleCap, spitPolicy := new.spitPolicy }

/-- A change of the spit policy from NEEDED to ANY offers a SPIT for the stale channels that no request covers (R147). -/
def State.policyChanged (s : State) (old : SpitPolicy) : State :=
  if old = .needed && s.prof.flow.spitPolicy = .any then s.offerStaleSpit s.uncoveredStale else s

/-- An idle-cap time below the idle timer's value makes the offer at once (R149). -/
def State.idleLimitTest (s : State) : State := if s.prof.flow.idleCap * 1000 ≤ s.svc.idleMs then s.idleExpires else s

/-- A channel section of a PROFILE: its decap limit is in force and a running timer meets it; the rest is staged where it differs (R182). -/
def State.stageChan (s : State) (c : Chan) (new : ChanProfile) : State :=
  let now := (s.chanProf c).withTransparent new
  let s := { s with prof := { s.prof with
    chan := s.prof.chan.set c now, stagedChan := s.prof.stagedChan.set c (if new = now then none else some new) } }
  if decide (s.decapLimitMs c ≤ (s.svc.decap.get c).ms) then s.decapExpires c else s

/-- A media section of a PROFILE: staged where it differs (R182). -/
def State.stageMedia (s : State) (r : Roll) (new : MediaProfile) (declared : Bool) : State :=
  let v : Option StagedMedia := if new = s.mediaProf r then none else some { profile := new, declared := declared }
  match r with
  | .a => { s with prof := { s.prof with stagedA := v } }
  | .b => { s with prof := { s.prof with stagedB := v } }

/-- The flow section of a PROFILE: the transparent fields are in force and their timers meet them, the rest is staged where it differs (R182). -/
def State.stageFlow (s : State) (new : FlowProfile) : State :=
  let old := s.prof.flow.spitPolicy
  let now := s.prof.flow.withTransparent new
  let s := { s with prof := { s.prof with flow := now, stagedFlow := if new = now then none else some new } }
  ((s.policyChanged old).idleLimitTest.wake [.starve]).stir

/-! ### The quiet point (R183) -/

/-- A staged channel section taken into force; its decap limit is transparent and stays as it is (R183 step 1). -/
def State.applyChanSection (s : State) (c : Chan) : State :=
  match s.prof.stagedChan.get c with
  | some p =>
    { s with prof := { s.prof with chan := s.prof.chan.set c (p.withTransparent (s.chanProf c)), stagedChan := s.prof.stagedChan.set c none } }
  | none => s

/-- The staged media and flow sections taken into force (R183 step 1). -/
def State.applyOtherSections (s : State) : State :=
  let p := s.prof
  { s with prof := { p with
    mediaA := (p.stagedA.map StagedMedia.profile).getD p.mediaA, stagedA := none,
    mediaB := (p.stagedB.map StagedMedia.profile).getD p.mediaB, stagedB := none,
    flow := match p.stagedFlow with | some f => f.withTransparent p.flow | none => p.flow, stagedFlow := none } }

/-- The slots that a new release mode frees (R38). -/
def State.releaseModeApplied (s : State) (old : ReleaseMode) : State :=
  if old = .manual && s.prof.flow.release = .auto then s.releaseAll else s

/-- Detail 2 of PROFILE_APPLIED: the last PROFILE executed, or 0xFFFF when every applied section was staged by ROLL_LOADED (R183 step 3). -/
def Profiles.appliedBy (p : Profiles) : Nat :=
  let byProfile (m : Option StagedMedia) : Bool := match m with | some v => !v.declared | none => false
  if Chan.all.any (fun c => (p.stagedChan.get c).isSome) || p.stagedFlow.isSome || byProfile p.stagedA || byProfile p.stagedB then
    (p.lastExecuted.map BitVec.toNat).getD 0xFFFF
  else 0xFFFF

/-- A new wipe interval is told to the Service Sequencer (R148, R183 step 2). -/
def State.wipeIntervalApplied (s : State) (old : Nat) : State := if s.prof.flow.wipeInterval = old then s else s.wipeTest

/-- Every staged copy applies together, and the owning blocks are told; whichever section applies, the front is evaluated, the refill starts
and a sheet start's step are tested, and the Service Sequencer looks for a request to start (R183 step 4). The channels
are told in channel order and roll A before roll B, and so their records are posted (log 20). -/
def State.applyStaged (s : State) : State :=
  let old := s.prof
  let s := (Chan.all.foldl State.applyChanSection s).applyOtherSections
  let s := s.inkProfilesApplied (PerChan.of fun c => (old.stagedChan.get c).isSome) old.chan
  let s := if old.stagedA.isSome then s.rollLowTest .a else s
  let s := if old.stagedB.isSome then s.rollLowTest .b else s
  let s := if old.stagedFlow.isSome then (s.releaseModeApplied old.flow.release).wipeIntervalApplied old.flow.wipeInterval else s
  ((s.post .profileApplied 0xFF old.stagedMask old.appliedBy).wake [.evalFront]).stirWalk

/-- The staged copies apply where the quiet point stands and one is present (R183). -/
def State.quietTest (s : State) : State := if s.prof.anyStaged && s.quietPoint then s.applyStaged else s

/-! ### The PROFILE directive (R181, R182) -/

/-- One named section of a PROFILE taken (R182). -/
def State.takeSection (s : State) (h : List Byte) (k : Nat) : State :=
  if hasBit (sectionMask h) k then
    match Chan.ofNum? k with
    | some c => s.stageChan c (chanSection h (sectionAt k))
    | none =>
      if k = 5 then s.stageMedia .a (mediaSection h (sectionAt 5)) false
      else if k = 6 then s.stageMedia .b (mediaSection h (sectionAt 6)) false
      else s.stageFlow (flowSection h (sectionAt 7))
  else s

/-- A PROFILE that passes its checks: its sections in order, then the quiet point (R182). -/
def State.takeProfile (s : State) (h : List Byte) (q : Option Seq) : State :=
  let s := { s with prof := { s.prof with lastExecuted := q } }
  ((List.range 8).foldl (fun s k => s.takeSection h k) s).quietTest

end Sys2Proof.Machine
end

