-- ==== Sys2Proof/Machine/Flow.lean ====
section
/-! DEFINITION. Machine/Flow.lean: the Flow Controller (chapter 4) and the execution of ring directives (R30 to R34): need, evaluation of the front,
admission, fetch completion, starvation, the UNCAP request. -/
namespace Sys2Proof.Machine

/-! ### Ring directives (R30 to R34) -/

/-- A SERVICE directive executes (R33). R33 gives no order for a body of which the level and the channel set are both bad: the level is tested first
(log 39). -/
def State.ringService (s : State) (i : SlotIx) (h : List Byte) : State :=
  match Level.ofCode? (serviceLevel h) with
  | none => s.retire i .refused (some .field) 1
  | some level =>
    if validChans (serviceChans h) then
      match s.offer level (ChanSet.ofMask (serviceChans h)) false with
      | (.refused, s') => s'.retire i .refused (some .queueFull) 0
      | (_, s') => s'.retire i .done none 0
    else s.retire i .refused (some .field) 2

/-- A PROFILE directive executes (R31, R181). -/
def State.ringProfile (s : State) (i : SlotIx) (h : List Byte) : State :=
  match profileError h with
  | some code =>
    let s := { s with prof := { s.prof with lastRefused := (s.slot i).seq.map fun q => (q, code) } }
    s.retire i .refused (some .field) code
  | none => (s.takeProfile h (s.slot i).seq).retire i .done none (sectionMask h)

/-- A CHECK_REPORT directive executes (R32, R114). -/
def State.ringReport (s : State) (i : SlotIx) (h : List Byte) : State :=
  match reportError h with
  | some d => s.retire i .refused (some .field) d
  | none => (s.takeReport h (s.slot i).seq).retire i .done none (entriesTaken h)

/-- A MARK directive executes (R34); R34 names no detail for its DONE, which shows 0 (log 30). -/
def State.ringMark (s : State) (i : SlotIx) (h : List Byte) : State :=
  (s.post .markReached (((s.slot i).seq.map BitVec.toNat).getD 0) (markTag h) (s.countSlots Slot.past)).retire i .done none 0

/-- A directive entry executes: its owning block acts on the frozen shadow and the slot retires (R30). -/
def State.executeEntry (s : State) (i : SlotIx) : State :=
  let h := (s.slot i).shadow
  match (s.slot i).kind with
  | some .profile => s.ringProfile i h
  | some .checkReport => s.ringReport i h
  | some .service => s.ringService i h
  | some .mark => s.ringMark i h
  | _ => s

/-- A posted entry lets the entries behind it execute: it is a SWATH in ADMITTED, FIRING or ADVANCING (R30). -/
def Slot.letsPass (k : Slot) : Bool := k.kind == some .swath && k.past

/-- The directive entry that executes next: the first posted entry that is no admitted swath, when it is a directive (R30). -/
def State.nextDirective? (s : State) : Option SlotIx :=
  match s.parser.posted.find? fun i => !(s.slot i).letsPass with
  | some i => if (s.slot i).kind = some .swath then none else some i
  | none => none

/-- The directives that may execute do so, one after another in list order (R30); each leaves the list of at most 64 entries. -/
def State.runDirectives : Nat → State → State
  | 0, s => s
  | n + 1, s =>
    match s.nextDirective? with
    | some i => (s.executeEntry i).runDirectives n
    | none => s

/-! ### Admission (R60 to R64) -/

/-- The volume of some drops in the profile of a channel (R60). -/
def dropsVolume (p : ChanProfile) (d : Drops) : Nat := d.small * p.small + d.medium * p.medium + d.large * p.large

/-- The need of a swath per channel, by the drop volumes in force (R60). -/
def State.needOf (s : State) (k : Slot) : PerChan Nat := PerChan.of fun c => dropsVolume (s.chanProf c) (k.tally.written.get c)

/-- The front held with a reason and a detail (R61); a new hold makes the part active and may meet a starvation limit (R13, R76). -/
def State.hold (s : State) (i : SlotIx) (r : Reason) (detail : Nat) : State :=
  (s.modSlot i fun k => { k with st := .held, reason := some r, detail := detail }).wake [.starve, .heldRead, .linkCheck]

/-- The sheet start of a PENDING sheet begins: STARTING at step QUIET (R161, R62). -/
def State.beginStart (s : State) (t : Sheet) : State :=
  ((s.modSheet t.sid fun t => { t with st := .starting, start := some .quiet }).wake [.sheetStart]).sheetMoved t.sid

/-- An earlier sheet of the table is in LEADING, PRINTING, TRAILING or CUTTING (R62). -/
def State.earlierOnPath (s : State) (t : Sheet) : Bool :=
  (s.media.table.takeWhile fun u => u.sid != t.sid).any fun u => u.st.onPath

/-- A stale channel that no request covers for the front (R63). -/
def State.frontUncovered (s : State) (c : Chan) : Bool := (s.svc.decap.get c).stale && !s.svc.queue.any (s.frontCovers c)

/-- The SPIT requests with the flow flag that an evaluation makes, one for each uncovered stale channel of the set (R63). -/
def State.offerFlowSpits (s : State) (cs : ChanSet) : State :=
  Chan.all.foldl (fun s c => if cs.get c && s.frontUncovered c then s.offerQuietly .spit (ChanSet.single c) true else s) s

/-- A stale channel whose covering request waits for its ink (R63, R137). -/
def State.spitWaits (s : State) (c : Chan) : Bool :=
  (s.svc.decap.get c).stale && s.svc.queue.any fun r => s.frontCovers c r && r.state == .waitingInk

/-- The hold that condition 4 gives, if it fails: a station FAULT first (log 14), then a spit that waits for ink, then any stale channel (R63). -/
def State.staleHold? (s : State) (cs : ChanSet) : Option (Reason × Nat) :=
  if s.svc.station = .fault then some (.service, 0xFF)
  else
    match Chan.all.find? fun c => cs.get c && s.spitWaits c with
    | some c => some (.ink, c.num)
    | none =>
      match Chan.all.find? fun c => cs.get c && (s.svc.decap.get c).stale with
      | some c => some (.service, c.num)
      | none => none

/-- The front is admitted with its need reserved (R64); a queued or calling CAP is withdrawn (R136). -/
def State.admitSwath (s : State) (i : SlotIx) (need : PerChan Nat) : State :=
  let s := s.modSlot i fun k => { k with st := .admitted, need := need, reason := none, detail := 0, armed := false }
  (s.withdrawCap.wake [.directives, .evalFront, .uncap]).stir

/-- Conditions 3 to 5 of R61 for a front whose sheet is PRINTING; a swath with an empty channel set passes them at once (R60). -/
def State.admitTest (s : State) (i : SlotIx) (k : Slot) (need : PerChan Nat) : State :=
  let cs := k.chanSet
  if cs.isEmpty then s.admitSwath i need
  else
    match Chan.all.find? fun c => cs.get c && !(s.inkOf c).synced with
    | some c => s.hold i .sync c.num
    | none =>
      let s := s.offerFlowSpits cs
      match s.staleHold? cs with
      | some (r, d) => s.hold i r d
      | none =>
        match s.reserve false need with
        | (some c, s') => s'.hold i .ink c.num
        | (none, s') => s'.admitSwath i need

/-- Condition 2 of R61: what the state of the front's sheet gives (R62). -/
def State.sheetTest (s : State) (i : SlotIx) (k : Slot) (need : PerChan Nat) : State :=
  match s.sheetOfSlot i with
  | none => s.hold i .sheet 0
  | some t =>
    match t.st with
    | .printing => s.admitTest i k need
    | .pending => if s.earlierOnPath t then s.hold i .sheet t.number else (s.beginStart t).hold i .sheet t.number
    | .starting => s.hold i (s.sheetHold t) t.number
    | _ => s.hold i .sheet t.number

/-- One evaluation of the admission front (R59 to R64); a hold for PAUSE, to which R61 gives no detail, shows 0 (log 30). -/
def State.evaluate (s : State) : State :=
  if 2 ≤ s.admittedCount then s
  else
    match s.front? with
    | none => s
    | some i =>
      let k := s.slot i
      let need := s.needOf k
      match Chan.all.find? fun c => decide (needCap < need.get c) with
      | some c => s.rejectSwath i .needCap c.num
      | none => if s.flow.pause then s.hold i .pause 0 else s.sheetTest i k need

/-- An event that evaluates the front: the directives before it execute first (R30, R59). -/
def State.evalFront (s : State) : State := (s.runDirectives 64).evaluate

/-! ### The UNCAP request (R67) -/

/-- The next swath is ADMITTED and the station CAPPED: an UNCAP request is made where none is queued or running (R67). One that was refused for a full
queue is made again at the next event at which this is tested (log 25). -/
def State.uncapTest (s : State) : State :=
  match s.nextSwath? with
  | some i =>
    if (s.slot i).st = .admitted && s.svc.station = .capped && !s.svc.queue.any (fun r => r.level == .uncap) then
      s.offerQuietly .uncap ChanSet.empty false
    else s
  | none => s

/-! ### Fetch completion (R55, R72, R73) -/

/-- The channels with a fired volume restart their decap timers; their stale flags stay (R72 step 2, R146, R147). -/
def State.decapsFired (s : State) (fired : PerChan Nat) : State :=
  s.modSvc fun v => { v with decap := PerChan.of fun c => if fired.get c = 0 then v.decap.get c else (v.decap.get c).restart }

/-- A swath's debit with what it tells the Service Sequencer: steps 1 to 3 of R72. -/
def State.swathDebit (s : State) (need fired : PerChan Nat) : State :=
  let s := s.debit false (volumeChans need) fired need
  (s.decapsFired fired).wipeAdd (Chan.all.map fired.get).sum

/-- A slot record at steps 1, 2 and 4 of R55: the fired volumes and drop counts are captured, the running counts cleared, the event flags kept. -/
def Slot.capture (k : Slot) : Slot :=
  { k with capVolume := k.tally.volume, capUnplaced := k.tally.unplaced, capOverBudget := k.tally.overBudget,
           tally := { Tally.zero with lateWritePosted := k.tally.lateWritePosted, fetchOrderPosted := k.tally.fetchOrderPosted,
                                      budgetPosted := k.tally.budgetPosted } }

/-- The path of a swath after its fetch completion (table of R73). The fall of the admitted count is one event of R59: a swath that
retires tells of it in its retirement, one that is ADVANCING here. -/
def State.afterFetch (s : State) (i : SlotIx) : State :=
  let k := s.slot i
  match k.cancel with
  | some r => s.retire i .cancelled (some r) 0
  | none =>
    let sheet := s.sheetOfSlot i
    if sheetEndFlag k.shadow then
      let s := s.retire i .printed none 0
      match k.sheet.bind s.sheet? with
      | some t => if t.st = .printing then s.toTrailing t else s
      | none => s
    else if advanceField k.shadow = 0 then s.starveZero.retire i .printed none 0
    else
      let s := ((s.modSlot i fun k => { k with st := .advancing }).wake [.quiet, .evalFront, .uncap]).stirBoundary
      match sheet with
      | some t => s.startFeed .advance t (some i) (advanceField k.shadow)
      | none => s

/-- Fetch completion (R55, R72, R73): capture, debit, the service station, the need cleared, and the path of R73. -/
def State.fetchCompletes (s : State) (i : SlotIx) : State :=
  let k := s.slot i
  let fired := k.tally.volume
  let s := (s.modSlot i Slot.capture).swathDebit k.need fired
  let s := s.modSlot i fun k => { k with need := PerChan.of fun _ => 0 }
  s.afterFetch i

/-! ### Starvation (R75, R76) -/

/-- The starvation limit in ms. -/
def State.starveLimitMs (s : State) : Nat := s.prof.flow.starveLimit * 1000

/-- The front, when it is a swath of the PRINTING sheet HELD for INK, with that sheet (R76). -/
def State.inkHeld? (s : State) : Option (SlotIx × Sheet) :=
  match s.front?, s.printing? with
  | some i, some t =>
    if (s.slot i).st = .held && (s.slot i).reason = some .ink && (s.slot i).sheet = some t.sid then some (i, t) else none
  | _, _ => none

/-- The starvation action: STARVED once until the timer is next 0, and with action SPOIL the sheet is spoiled (R76). -/
def State.starveAct (s : State) (i : SlotIx) (t : Sheet) : State :=
  let s :=
    if s.flow.starvedPosted then s
    else { s with flow := { s.flow with starvedPosted := true } }.post .starved i.val (s.slot i).detail s.flow.starveMs
  if s.prof.flow.starveAction = .spoil then s.spoil t.sid .starved else s

/-- The starvation action is tested (R76). -/
def State.starveTest (s : State) : State :=
  match s.inkHeld? with
  | some (i, t) => if s.starveLimitMs ≤ s.flow.starveMs then s.starveAct i t else s
  | none => s

end Sys2Proof.Machine
end

