-- ==== Sys2Proof/Machine/SheetStart.lean ====
section
/-! DEFINITION. Machine/SheetStart.lean: the steps of a sheet start (R161 to R164). -/
namespace Sys2Proof.Machine

/-- The start step of a sheet changed; the front's hold reason follows it (R62, R59). -/
def State.setStep (s : State) (sid : Nat) (st : StartStep) : State := s.setSheet sid fun t => { t with start := some st }

/-- Step QUIET: with no request RUNNING the staged profiles apply and the step becomes PRIME (R161). -/
def State.stepQuiet (s : State) (t : Sheet) : State :=
  if s.running?.isSome then s else s.quietTest.setStep t.sid .prime

/-- Step PRIME: with no PRIME QUEUED or RUNNING the step becomes ROLL (R161). -/
def State.stepPrime (s : State) (t : Sheet) : State := if s.primeStands then s else s.setStep t.sid .roll

/-- No roll is chosen: MEDIA_WANTED is posted once for the wait (R162). -/
def State.wantMedia (s : State) (t : Sheet) : State :=
  if t.wanted then s
  else (s.modSheet t.sid fun t => { t with wanted := true }).post .mediaWanted t.number t.choice.code (t.planned.getD 0)

/-- A roll is chosen: the ACTIVE roll is recorded, an ACTIVE other roll is rewound to make room, else the roll is threaded (R162). -/
def State.takeRoll (s : State) (t : Sheet) (r : Roll) : State :=
  let s := s.modSheet t.sid fun t => { t with wanted := false }
  if (s.roll r).st = .active then s.setSheet t.sid fun t => { t with roll := some r, start := some .ink }
  else if !s.opMayStart then s
  else if (s.roll r.other).st = .active then s.beginRewind r.other (some t.sid) (some r)
  else if s.engagedRoll?.isNone then s.beginThread r t.sid none
  else s

/-- Step ROLL (R162). -/
def State.stepRoll (s : State) (t : Sheet) : State :=
  if s.rollsBusy then s
  else
    match s.chosenRoll? t with
    | none => s.wantMedia t
    | some r => s.takeRoll t r

/-- The recorded roll of a sheet is ACTIVE (R163, R164). -/
def State.rollStands (s : State) (t : Sheet) : Bool :=
  match t.roll with
  | some r => (s.roll r).st == .active
  | none => false

/-- The sheet start returns to step ROLL with its roll record cleared (R163). R164 names the step alone where it is LEAD that returns:
the record is cleared there too, by choice (log 34). -/
def State.backToRoll (s : State) (t : Sheet) : State := s.setSheet t.sid fun t => { t with roll := none, start := some .roll }

/-- Step INK: the cover of every channel with an estimate, SHEET_INK_SHORT once where one is short (R163). -/
def State.stepInk (s : State) (t : Sheet) : State :=
  if !s.rollStands t then s.backToRoll t
  else
    match s.uncoveredInk? t with
    | none => s.setStep t.sid .lead
    | some (c, e) =>
      if t.inkShort then s
      else (s.modSheet t.sid fun t => { t with inkShort := true }).post .sheetInkShort t.number c.num (e - (s.inkOf c).cover)

/-- Step LEAD: the step returns to ROLL where the recorded roll is not ACTIVE; else the sheet becomes LEADING unless a PRIME is RUNNING
(R164). -/
def State.stepLead (s : State) (t : Sheet) : State :=
  if !s.rollStands t then s.backToRoll t else if s.primeRuns then s else s.toLeading t

/-- The front of a STARTING sheet is evaluated again when the reason its sheet gives has changed, an event that the list of R59 does not name
(R62, log 43). -/
def State.startHoldTest (s : State) : State :=
  match s.front? with
  | some i =>
    match s.sheetOfSlot i with
    | some t => if t.st = .starting && (s.slot i).st = .held && (s.slot i).reason ≠ some (s.sheetHold t) then s.wake [.evalFront] else s
    | none => s
  | none => s

/-- The step of a STARTING sheet tested (R161). While the media block is in FAULT the start waits (R175), at whatever step it stands (log 49). A step
that ends schedules the test of the next one. -/
def State.stepTest (s : State) (t : Sheet) : State :=
  if s.media.fault then s
  else
    match t.start with
    | some .quiet => s.stepQuiet t
    | some .prime => s.stepPrime t
    | some .roll => s.stepRoll t
    | some .ink => s.stepInk t
    | some .lead => s.stepLead t
    | none => s

/-- The sheet in STARTING whose start goes on, if there is one: a sheet that is being spoiled, or has lost its swaths, waits for its
operation alone (R160, R173). -/
def State.startingSheet? (s : State) : Option Sheet :=
  s.media.table.find? fun t => t.st == .starting && t.spoil.isNone && !t.allRetired

/-- The sheet start is looked at (R161). -/
def State.sheetStartTest (s : State) : State :=
  (match s.startingSheet? with
    | some t => s.stepTest t
    | none => s).startHoldTest

end Sys2Proof.Machine
end

