-- ==== Sys2Proof/Machine/Commit.lean ====
section
/-! DEFINITION. Machine/Commit.lean: writes to a job slot (R19 to R28): header writes, the open word, the commit word, the partial commit. -/
namespace Sys2Proof.Machine

/-! ### Header writes (R19, R20) -/

/-- A slot record after a header write beat at byte offset `off` of the record (R19, R20). -/
def Slot.headerWrite (k : Slot) (off : Nat) (w : WriteBeat) : Slot :=
  let late (ignored : Nat → Bool) : Nat :=
    if (List.range 64).any fun j => w.en j && ignored (off + j) then min 15 (k.lateHeaders + 1) else k.lateHeaders
  match k.st with
  | .free => { k with shadow := mergeBeat k.shadow off w }
  | .opened => { k with shadow := mergeBeatWhere (fun b => !geometryByte b) k.shadow off w, lateHeaders := late geometryByte }
  | _ => { k with lateHeaders := late fun _ => true }

/-! ### Protocol faults (R21, R22, R24) -/

/-- The fault kinds of SLOT_PROTOCOL. -/
inductive ProtocolFault where
  | openNotFree | commitState | partialCommit
  deriving DecidableEq, Repr

/-- The code of a fault kind (R197). -/
def ProtocolFault.code : ProtocolFault → Nat
  | .openNotFree => 1
  | .commitState => 2
  | .partialCommit => 3

/-- A protocol fault: the slot's count rises, to 15 at most, and SLOT_PROTOCOL is posted with the state at the fault (R21, R22, R24, R197). -/
def State.protocolFault (s : State) (i : SlotIx) (f : ProtocolFault) (d2 : Nat) : State :=
  (s.modSlot i fun k => { k with faults := min 15 (k.faults + 1) }).post .slotProtocol i.val (f.code + 256 * (s.slot i).st.code) d2

/-! ### The open word (R22, R23) -/

/-- Two address ranges overlap. -/
def overlaps (a alen b blen : Nat) : Bool := decide (a < b + blen) && decide (b < a + alen)

/-- The present planes of a geometry, in channel order. -/
def Geometry.present (g : Geometry) : List (Chan × Nat) := Chan.all.filterMap fun c => (g.planes.get c).map fun b => (c, b)

/-- A plane's base is beat-aligned and its window ends within the 40-bit address range (R22 check 4). -/
def Geometry.planeFits (g : Geometry) (p : Chan × Nat) : Bool := p.2 % 64 == 0 && decide (p.2 + g.windowLen ≤ 2 ^ 40)

/-- A plane's window overlaps the span, a live window or another plane of the slot (R22 check 7). -/
def State.planeClashes (s : State) (g : Geometry) (p : Chan × Nat) : Bool :=
  overlaps p.2 g.windowLen s.spanBase 65536 || s.windows.any (fun w => overlaps p.2 g.windowLen w.base w.len) ||
    g.present.any fun q => q.1 ≠ p.1 && overlaps p.2 g.windowLen q.2 g.windowLen

/-- A slot's swath holds windows: OPEN to ADVANCING with a captured SWATH (R22 check 5). -/
def Slot.holdsWindows (k : Slot) : Bool := k.kind == some .swath && (k.st == .opened || k.waits || k.past)

/-- The reason and detail with which an open is refused, if it is (table of R22); the detail is 0 where the table gives none (log 30). -/
def State.openError (s : State) (h : List Byte) : Option (Reason × Nat) :=
  let g := geometryOf h
  if kindCode h ≠ 1 then some (.kind, kindCode h)
  else if g.columns = 0 then some (.noColumns, 0)
  else if g.present = [] then some (.noPlane, 0)
  else
    match g.present.find? fun p => !g.planeFits p with
    | some p => some (.planeRange, p.1.num)
    | none =>
      if 16 ≤ s.countSlots Slot.holdsWindows then some (.swathsFull, 0)
      else if 60 < s.windows.length + g.present.length then some (.windowsFull, s.windows.length)
      else
        match g.present.find? fun p => s.planeClashes g p with
        | some p => some (.overlap, p.1.num)
        | none => none

/-- The windows of a slot's planes, numbered from `wid` (R23 step 2, R43). -/
def windowsOf (g : Geometry) (i : SlotIx) : Nat → List (Chan × Nat) → List Window
  | _, [] => []
  | wid, p :: ps => { wid := wid, base := p.2, len := g.windowLen, slot := i, chan := p.1, mark := 0 } :: windowsOf g i (wid + 1) ps

/-- A slot record opened: the captures, the counts at 0, the record cleared (R23). -/
def Slot.open (k : Slot) : Slot :=
  { k with st := .opened, kind := some .swath, geometry := some (geometryOf k.shadow), seq := none, outcome := none, reason := none,
           detail := 0, lateHeaders := 0, faults := 0, capVolume := PerChan.of fun _ => 0, capUnplaced := 0, capOverBudget := 0,
           tally := Tally.zero, sheet := none }

/-- An open that passes its checks takes effect (R23). -/
def State.takeOpen (s : State) (i : SlotIx) : State :=
  let g := geometryOf (s.slot i).shadow
  let s := { s with windows := s.windows ++ windowsOf g i s.nextWid g.present, nextWid := s.nextWid + g.present.length }
  s.modSlot i Slot.open

/-- An open word arrives at a slot (R22). -/
def State.openSlot (s : State) (i : SlotIx) : State :=
  if (s.slot i).st = .free then
    match s.openError (s.slot i).shadow with
    | some (r, d) => s.modSlot i fun k => { k with reason := some r, detail := d }
    | none => s.takeOpen i
  else s.protocolFault i .openNotFree 0

/-! ### The commit word (R24 to R28) -/

/-- The kind of a slot as a commit takes it: captured at open, else the kind code of the shadow (R26). -/
def Slot.commitKind (k : Slot) : Option SlotKind := if k.st = .opened then k.kind else SlotKind.ofCode? (kindCode k.shadow)

/-- A slot's state takes a commit: OPEN, or FREE with a kind code other than SWATH (R24). -/
def Slot.takesCommit (k : Slot) : Bool := k.st == .opened || (k.st == .free && kindCode k.shadow != 1)

/-- A slot record that leaves FREE through a commit: its kind captured, its counts, outcome, reason, detail and overlay cleared (section 2.1,
R28 step 2, log 13). An OPEN slot keeps its record. -/
def Slot.leaveFree (k : Slot) : Slot :=
  if k.st = .free then
    { k with kind := SlotKind.ofCode? (kindCode k.shadow), geometry := none, outcome := none, reason := none, detail := 0, lateHeaders := 0,
             faults := 0, capVolume := PerChan.of fun _ => 0, capUnplaced := 0, capOverBudget := 0 }
  else k

/-- A sequence number is taken (R26, R28): last accepted and expected move on. -/
def State.takeSequence (s : State) (q : Seq) : State :=
  { s with parser := { s.parser with lastAccepted := some q, expected := s.parser.expected + 1 } }

/-- A commit rejected: the slot carries the number written and retires REJECTED; a SWATH posts SWATH_REJECTED (R25 to R27). -/
def State.rejectCommit (s : State) (i : SlotIx) (q : Seq) (r : Reason) (detail : Nat) : State :=
  let swath := decide ((s.slot i).commitKind = some .swath)
  let s := s.modSlot i fun k => { k.leaveFree with seq := some q }
  if swath then s.rejectSwath i r detail else s.retire i .rejected (some r) detail

/-- A commit refused with its slot left as it is, but for its reason (R25, R27). -/
def State.refuseCommit (s : State) (i : SlotIx) (r : Reason) (detail : Nat) : State :=
  s.modSlot i fun k => { k with reason := some r, detail := detail }

/-- The field number of the first header check that a SWATH fails (R26, R196). -/
def headerError (h : List Byte) : Option Nat :=
  if 1000000 < advanceField h then some 1
  else if sheetEndFlag h && (trailingOf h).isNone then some 2
  else if rollChoicePresent h && decide (2 < rollChoiceField h) then some 3
  else none

/-- The sheet record that a SHEET_START swath creates (table of R160). -/
def newSheet (h : List Byte) (sid : Nat) (q : Seq) : Sheet :=
  { sid := sid, number := sheetNumberField h, firstSeq := q, choice := rollChoiceOf h, leading := leadingOf h, expected := expectedOf h,
    inkEst := PerChan.of (inkEstimateOf h), trailing := none, endCommitted := false, swaths := 1, retired := 0, roll := none, fed := 0,
    st := .pending, start := none, spoil := none, inkShort := false, wanted := false }

/-- Step 5 or 6 of R28: a SHEET_START swath creates its record and opens its sheet, another joins the open sheet's record. -/
def State.joinSheet (s : State) (i : SlotIx) (h : List Byte) (q : Seq) : State :=
  if sheetStartFlag h then
    let sid := s.media.nextSid
    let s := s.modMedia fun m => { m with table := m.table ++ [newSheet h sid q], nextSid := sid + 1 }
    let s := { s with parser := { s.parser with openSheet := some { number := sheetNumberField h, sid := sid } } }
    s.modSlot i fun k => { k with sheet := some sid }
  else
    match s.parser.openSheet with
    | some o => (s.modSheet o.sid fun t => { t with swaths := t.swaths + 1 }).modSlot i fun k => { k with sheet := some o.sid }
    | none => s

/-- Step 7 of R28: a SHEET_END swath marks its sheet, records the trailing margin and closes the open sheet (R160). -/
def State.closeSheet (s : State) (h : List Byte) : State :=
  if sheetEndFlag h then
    match s.parser.openSheet with
    | some o =>
      let s := s.modSheet o.sid fun t => { t with endCommitted := true, trailing := trailingOf h }
      { s with parser := { s.parser with openSheet := none } }
    | none => s
  else s

/-- The reason with which a swath is skipped at commit: the spoil reason of its sheet, or CANCELLED where the record has been removed (R28, R173). -/
def State.skipAtCommit (s : State) (sid : Option Nat) : Option Reason :=
  match sid.bind s.sheet? with
  | some t => t.spoil
  | none => some .cancelled

/-- Step 8 of R28: the slot is placed at the tail of the posted list and is POSTED (R29); directives are tested, and a new front is evaluated
(R30, R59). -/
def State.postSlot (s : State) (i : SlotIx) : State :=
  let s := { s with parser := { s.parser with posted := s.parser.posted ++ [i] } }
  let s := (s.modSlot i fun k => { k with st := .posted, reason := none, detail := 0 }).wake [.directives]
  if s.front? = some i then s.wake [.evalFront] else s

/-- A commit is accepted (R28). -/
def State.acceptCommit (s : State) (i : SlotIx) (q : Seq) : State :=
  let h := (s.slot i).shadow
  let swath := decide ((s.slot i).commitKind = some .swath)
  let s := (s.modSlot i fun k => { k.leaveFree with seq := some q }).takeSequence q
  if swath then
    let s := (s.joinSheet i h q).closeSheet h
    match s.skipAtCommit (s.slot i).sheet with
    | some r => s.retire i .skipped (some r) 0
    | none => (s.postSlot i).stir
  else (s.postSlot i).stir

/-- The checks of a SWATH against the open sheet (table of R27); the detail is 0 where the table gives none (log 30). -/
def State.sheetChecks (s : State) (i : SlotIx) (q : Seq) : State :=
  let h := (s.slot i).shadow
  match sheetStartFlag h, s.parser.openSheet with
  | true, some o => (s.takeSequence q).rejectCommit i q .sheetOpen o.number
  | false, none => (s.takeSequence q).rejectCommit i q .noSheet 0
  | false, some o =>
    if sheetNumberField h ≠ o.number then (s.takeSequence q).rejectCommit i q .sheetNumber o.number else s.acceptCommit i q
  | true, none => if 4 ≤ s.media.table.length then s.refuseCommit i .sheetTableFull 0 else s.acceptCommit i q

/-- A commit in turn is checked for its content (R26). -/
def State.contentChecks (s : State) (i : SlotIx) (q : Seq) : State :=
  let k := s.slot i
  match k.commitKind with
  | none => (s.takeSequence q).rejectCommit i q .kind (kindCode k.shadow)
  | some .swath =>
    match headerError k.shadow with
    | some f => (s.takeSequence q).rejectCommit i q .header f
    | none => s.sheetChecks i q
  | some _ => s.acceptCommit i q

/-- An entry with a sequence number stands on the posted list (R25). -/
def State.sequenceStands (s : State) (q : Seq) : Bool := s.parser.posted.any fun i => (s.slot i).seq == some q

/-- A commit is checked against the expected sequence (R25). -/
def State.sequenceChecks (s : State) (i : SlotIx) (q : Seq) : State :=
  let e := s.parser.expected
  if q ≠ e then s.rejectCommit i q .sequence e.toNat
  else if s.sequenceStands e then s.refuseCommit i .sequenceInUse e.toNat
  else s.contentChecks i q

/-- A commit word arrives at a slot (R24). -/
def State.commitSlot (s : State) (i : SlotIx) (q : Seq) : State :=
  if s.parser.lastAccepted = some q then s
  else if (s.slot i).takesCommit then s.sequenceChecks i q
  else s.protocolFault i .commitState q.toNat

/-- A write beat to an exchange beat: the open word first, then the commit word or the partial commit (R6, R21). -/
def State.exchangeWrite (s : State) (i : SlotIx) (w : WriteBeat) : State :=
  let s := if w.hasOpen then s.openSlot i else s
  if w.hasCommit then s.commitSlot i w.commitSeq else if w.touchesWord1 then s.protocolFault i .partialCommit 0 else s

end Sys2Proof.Machine
end

