-- ==== Sys2Proof/Machine/Tally.lean ====
section
/-! DEFINITION. Machine/Tally.lean: plane beats (chapter 3): drop codes (R46), written counts and late writes (R47, R48), and the read-data
stages of a FETCH plane beat (R12, R49 to R55, R122). -/
namespace Sys2Proof.Machine

/-! ### Drop codes (R46, 11.6) -/

/-- The four drop codes of a plane byte, nozzle 0 of the byte first (R46). -/
def codesOfByte (b : Nat) : List Nat := [b % 4, b / 4 % 4, b / 16 % 4, b / 64 % 4]

/-- The drop codes of a beat in nozzle order (R46). -/
def codesOf (data : List Byte) : List Nat := data.flatMap fun b => codesOfByte b.toNat

/-- The bytes of drop codes in nozzle order. -/
def bytesOf : List Nat → List Byte
  | a :: b :: c :: d :: rest => BitVec.ofNat 8 (a + 4 * b + 16 * c + 64 * d) :: bytesOf rest
  | _ => []

/-- One drop of a code; code 0 is no drop (R46). -/
def dropOf : Nat → Drops
  | 1 => ⟨1, 0, 0⟩
  | 2 => ⟨0, 1, 0⟩
  | 3 => ⟨0, 0, 1⟩
  | _ => Drops.none

/-- The drops of codes, counted by size. -/
def countDrops (codes : List Nat) : Drops := codes.foldl (fun d c => d.add (dropOf c)) Drops.none

/-- The volume of the drop of a code (R46, section 5.1). -/
def dropVolume (p : ChanProfile) : Nat → Nat
  | 1 => p.small
  | 2 => p.medium
  | 3 => p.large
  | _ => 0

/-! ### Writes (R47, R48) -/

/-- A count that stops at 4,294,967,295 (R47). -/
def satAdd (a b : Nat) : Nat := min (a + b) max32

/-- Written counts with drops added (R47). -/
def Drops.satAdd (a b : Drops) : Drops :=
  ⟨Machine.satAdd a.small b.small, Machine.satAdd a.medium b.medium, Machine.satAdd a.large b.large⟩

/-- The drop codes of the enabled bytes of a write beat (R47). -/
def enabledCodes (w : WriteBeat) : List Nat := (List.range 64).flatMap fun j => if w.en j then codesOfByte (w.byte j) else []

/-- The written counts of a swath with a beat's enabled drops added (R47). -/
def Slot.addWritten (k : Slot) (c : Chan) (w : WriteBeat) : Slot :=
  { k with tally := { k.tally with written := k.tally.written.set c ((k.tally.written.get c).satAdd (countDrops (enabledCodes w))) } }

/-- A late write into a FIRING or ADVANCING swath: counted, posted once for the swath (R48, R197). -/
def State.lateWriteFiring (s : State) (i : SlotIx) (c : Chan) (o : Nat) : State :=
  let k := s.slot i
  let s := s.count .lateWrites 1
  if k.tally.lateWritePosted then s
  else
    (s.modSlot i fun k => { k with tally := { k.tally with lateWritePosted := true } }).post .lateWrite i.val (c.num + 256 * o) k.st.code

/-- A write beat at byte offset `o` of a plane window (R47, R48); a beat with no enabled byte adds nothing and is no late write. -/
def State.planeBeatWrite (s : State) (win : Window) (o : Nat) (w : WriteBeat) : State :=
  let i := win.slot
  if !(List.range 64).any w.en then s
  else
    match (s.slot i).st with
    | .opened => s.modSlot i fun k => k.addWritten win.chan w
    | .posted => (s.rejectSwath i .lateWrite win.chan.num).count .lateWrites 1
    | .held => (s.rejectSwath i .lateWrite win.chan.num).count .lateWrites 1
    | .admitted => (s.rejectSwath i .lateWrite win.chan.num).count .lateWrites 1
    | .firing => s.lateWriteFiring i win.chan o
    | .advancing => s.lateWriteFiring i win.chan o
    | _ => s

/-! ### The read-data stages (R12) -/

/-- Compensation of the codes of a beat, pair by pair, over the dead flags of its nozzles: the codes returned and the number of unplaced drops
(R122). -/
def compensate : List Bool → List Nat → List Nat × Nat
  | da :: db :: ds, a :: b :: cs =>
    let (rest, n) := compensate ds cs
    if da && db then (0 :: 0 :: rest, n + (if a = 0 then 0 else 1) + (if b = 0 then 0 else 1))
    else if da then (0 :: max a b :: rest, n)
    else if db then (max a b :: 0 :: rest, n)
    else (a :: b :: rest, n)
  | _, cs => (cs, 0)

/-- Budget clipping of codes in nozzle order: a drop that would carry the volume used past the need is removed; the codes kept and the number
removed (R53). -/
def clip (p : ChanProfile) (need : Nat) : Nat → List Nat → List Nat × Nat
  | _, [] => ([], 0)
  | used, c :: cs =>
    if used + dropVolume p c ≤ need then
      let (rest, n) := clip p need (used + dropVolume p c) cs
      (c :: rest, n)
    else
      let (rest, n) := clip p need used cs
      (0 :: rest, n + (if c = 0 then 0 else 1))

/-- The dead flags of the 256 nozzles that a beat at window offset `o` covers (R46, R122). -/
def State.deadFlags (s : State) (c : Chan) (o : Nat) : List Bool :=
  (((s.health.get c).nozzles.drop (4 * (o % 256))).take 256).map Nozzle.dead

/-- Stage 3: compensation where the channel's enable is on (R121, R122). -/
def State.stageCompensate (s : State) (c : Chan) (o : Nat) (codes : List Nat) : List Nat × Nat :=
  if (s.chanProf c).compensation then compensate (s.deadFlags c o) codes else (codes, 0)

/-- The swath's slot record with a counted beat taken: fired counts and volume, unplaced and over-budget counts (R50, R53, R54). -/
def Slot.addFired (k : Slot) (p : ChanProfile) (c : Chan) (codes : List Nat) (unplaced cut : Nat) : Slot :=
  let t := k.tally
  let d := countDrops codes
  { k with tally := { t with fired := t.fired.set c ((t.fired.get c).add d), volume := t.volume.set c (t.volume.get c + dropsVolume p d),
                             unplaced := t.unplaced + unplaced, overBudget := t.overBudget + cut,
                             budgetPosted := t.budgetPosted || decide (cut ≠ 0) } }

/-- BUDGET_EXCEEDED at the first removal of a swath: the channel and its need (R53). -/
def State.postBudget (s : State) (i : SlotIx) (c : Chan) (cut : Nat) : State :=
  if decide (cut ≠ 0) && !(s.slot i).tally.budgetPosted then s.post .budgetExceeded i.val c.num ((s.slot i).need.get c) else s

/-- The high-water mark of a window advanced by a beat (R50). -/
def State.advanceMark (s : State) (wid : Nat) : State :=
  { s with windows := s.windows.map fun w => if w.wid = wid then { w with mark := w.mark + 64 } else w }

/-- Every window of a slot has been read to its end (R55). -/
def State.allFetched (s : State) (i : SlotIx) : Bool := s.windows.all fun w => w.slot != i || w.mark == w.len

/-- A beat at the mark of a FIRING swath's window, its codes as stage 2 left them: the codes returned, and the counting of stages 3 to 5 (R50, R53,
R54), with fetch completion where it is the last (R55). -/
def State.countedBeat (s : State) (win : Window) (o : Nat) (codes : List Nat) : List Nat × State :=
  let i := win.slot
  let k := s.slot i
  let c := win.chan
  let p := s.chanProf c
  let (moved, unplaced) := s.stageCompensate c o codes
  let (kept, cut) := clip p (k.need.get c) (k.tally.volume.get c) moved
  let s := if unplaced = 0 then s else s.count .unplaced unplaced
  let s := if cut = 0 then s else s.count .overBudget cut
  let s := (s.postBudget i c cut).modSlot i fun k => k.addFired p c kept unplaced cut
  let s := s.advanceMark win.wid
  (kept, if s.allFetched i then s.fetchCompletes i else s)

/-- A beat below the mark: compensated and clipped, not counted (R49, R53, R54). -/
def State.rereadCodes (s : State) (win : Window) (o : Nat) (codes : List Nat) : List Nat :=
  let k := s.slot win.slot
  let c := win.chan
  (clip (s.chanProf c) (k.need.get c) (k.tally.volume.get c) (s.stageCompensate c o codes).1).1

/-- A FETCH_ORDER fault: counted, and posted once for the swath (R51, R197). -/
def State.fetchOrderFault (s : State) (win : Window) (o : Nat) : State :=
  let i := win.slot
  let s := s.count .fetchOrder 1
  if (s.slot i).tally.fetchOrderPosted then s
  else
    (s.modSlot i fun k => { k with tally := { k.tally with fetchOrderPosted := true } }).post .fetchOrder i.val
      (win.chan.num + 256 * o) win.mark

/-- Codes that are all no drop: a blanked beat (R12 stage 2). -/
def blankCodes : List Nat := List.replicate 256 0

/-- The armed swath moves to FIRING at the first FETCH beat of any of its windows (R70). -/
def State.startFiring (s : State) (i : SlotIx) : State := s.modSlot i fun k => { k with st := .firing, armed := false }

/-- A FETCH beat of a FIRING swath's window at offset `o`: the bytes returned and the state after (R49 to R55). -/
def State.firingBeat (s : State) (win : Window) (o : Nat) (mem : List Byte) : List Byte × State :=
  let codes := if (s.slot win.slot).cancel.isSome then blankCodes else codesOf mem
  if win.mark < o then (zeroBeat, s.fetchOrderFault win o)
  else if win.mark = o then
    let (kept, s') := s.countedBeat win o codes
    (bytesOf kept, s')
  else (bytesOf (s.rereadCodes win o codes), s)

/-- A FETCH plane beat answered, classed at its arrival into the window `wid`: a stray fetch where the window is gone or its swath is not FIRING
(R44, R52); the first beat of an armed swath starts its firing (R70). -/
def State.planeAnswer (s : State) (addr wid : Nat) (mem : List Byte) : List Byte × State :=
  match s.windows.find? fun w => w.wid == wid with
  | none => (zeroBeat, s.count .strayFetches 1)
  | some win =>
    let k := s.slot win.slot
    let o := addr - win.base
    if k.st = .firing then s.firingBeat win o mem
    else if k.st = .admitted && k.armed then (s.startFiring win.slot).firingBeat win o mem
    else (zeroBeat, s.count .strayFetches 1)

end Sys2Proof.Machine
end

