-- ==== Sys2Proof/Machine/Mailbox.lean ====
section
/-! DEFINITION. Machine/Mailbox.lean: the immediate directive mailbox (R178 to R180) and the effect of each directive by its owner's rule. A
directive answers with its result code, its detail and the state after. -/
namespace Sys2Proof.Machine

/-- A directive's result: its code, its 16-bit detail, the state after its effect (R179). -/
structure Taken where
  code : ResultCode
  detail : Nat
  after : State

/-! ### Flow Controller -/

/-- The value of a flag as a detail. -/
def flagDetail (b : Bool) : Nat := if b then 1 else 0

/-- The pause flag set; the front is evaluated and every disposition worked out afresh (R77). -/
def State.setPause (s : State) : State := ({ s with flow := { s.flow with pause := true } }.wake [.evalFront]).stir

/-- PAUSE (R77). -/
def State.doPause (s : State) : Taken :=
  ⟨.done, flagDetail s.flow.pause, if s.flow.pause then s else s.setPause⟩

/-- RESUME (R78). -/
def State.doResume (s : State) : Taken :=
  ⟨.done, flagDetail s.flow.pause,
   if s.flow.pause then ({ s.starveZero with flow := { s.starveZero.flow with pause := false } }.wake [.evalFront]).stir else s⟩

/-- CANCEL_SHEET (R80), which names no detail for the case of no current sheet: it is answered 0 (log 28). -/
def State.doCancelSheet (s : State) : Taken :=
  match s.currentSheet? with
  | some t => ⟨.done, t.number, s.spoil t.sid .cancelled⟩
  | none => ⟨.state, 0, s⟩

/-- The posted entries that CANCEL_ALL retires: those in POSTED, HELD or ADMITTED, in list order (R81 step 2). -/
def State.cancelList (s : State) : List SlotIx := s.parser.posted.filter fun i => (s.slot i).waits || (s.slot i).st == .admitted

/-- One entry that CANCEL_ALL retires: a swath SKIPPED, a directive REFUSED, both with reason CANCELLED (R81 step 2). -/
def State.cancelEntry (s : State) (i : SlotIx) : State :=
  if (s.slot i).kind = some .swath then s.retire i .skipped (some .cancelled) 0 else s.retire i .refused (some .cancelled) 0

/-- A FIRING swath marked cancelled; the first mark stands (R71, R81 step 3). -/
def State.markFiring (s : State) : State :=
  { s with slots := s.slots.map fun k => if k.st = .firing then { k with cancel := some (k.cancel.getD .cancelled) } else k }

/-- The PENDING records removed from the sheet table (R81 step 4, R160, R176). -/
def State.dropPending (s : State) : State := s.modMedia fun m => { m with table := m.table.filter fun t => t.st != .pending }

/-- Steps 1 and 2 of CANCEL_ALL (R81): the current sheet is spoiled and every entry that waits or is ADMITTED retires. -/
def State.cancelEntries (s : State) : State :=
  let s := match s.currentSheet? with
    | some t => s.spoil t.sid .cancelled
    | none => s
  s.cancelList.foldl State.cancelEntry s

/-- CANCEL_ALL (R81): the entries retire as one step; its detail counts those retired under steps 1 and 2. -/
def State.doCancelAll (s : State) : Taken :=
  ⟨.done, s.cancelList.length, (s.together State.cancelEntries).markFiring.dropPending.stir⟩

/-! ### Ink Controller -/

/-- A cartridge record declared (R103); its last empty reason stays (log 31). -/
def InkChan.declare (k : InkChan) (volume : Nat) (lot : BitVec 32) : InkChan :=
  { k with declared := volume, estimate := volume * pLPerUL, lot := lot, cart := .active }

/-- CARTRIDGE_INSTALLED (R103). -/
def State.doCartridge (s : State) (b : List Byte) : Taken :=
  match Chan.ofNum? (bodyFirst b) with
  | none => ⟨.invalid, 1, s⟩
  | some c =>
    if !inRange 10000 2000000 (bodyWord4 b) then ⟨.invalid, 2, s⟩
    else
      match (s.inkOf c).cart with
      | .present => ⟨.done, 0, (s.modInk c fun k => k.declare (bodyWord4 b) (BitVec.ofNat 32 (bodyLot b))).stir⟩
      | st => ⟨.state, st.code, s⟩

/-- CALIBRATE_PUMP (R104). -/
def State.doCalibrate (s : State) (b : List Byte) : Taken :=
  match Chan.ofNum? (bodyFirst b) with
  | none => ⟨.invalid, 1, s⟩
  | some c =>
    match (s.inkOf c).cal with
    | .measuring => ⟨.busy, 0, s⟩
    | .armed => ⟨.done, CalState.armed.code, s⟩
    | st => ⟨.done, st.code, s.modInk c fun k => { k with cal := .armed, measured := none }⟩

/-! ### Media Controller -/

/-- The remaining length that a ROLL_LOADED declares, in mm (11.3). -/
def declaredLength (b : List Byte) : Option Nat := if bodySecond b = 0 then none else some (bodyWord4 b)

/-- The field number of a ROLL_LOADED that has a field out of range: the lowest such number, the remaining length last, an order that R157 does not
give (log 48). -/
def rollFieldError (b : List Byte) : Option Nat :=
  match mediaSectionError b bodyMediaAt with
  | some f => some f
  | none =>
    match declaredLength b with
    | some v => if inRange 1 1000000 v then none else some 6
    | none => none

/-- A media profile of a roll applied at once: in force, with no staged copy left (R184). -/
def State.putMedia (s : State) (r : Roll) (p : MediaProfile) : State :=
  match r with
  | .a => { s with prof := { s.prof with mediaA := p, stagedA := none } }
  | .b => { s with prof := { s.prof with mediaB := p, stagedB := none } }

/-- A media profile of a roll staged by ROLL_LOADED (R184). -/
def State.stageDeclared (s : State) (r : Roll) (p : MediaProfile) : State :=
  match r with
  | .a => { s with prof := { s.prof with stagedA := some { profile := p, declared := true } } }
  | .b => { s with prof := { s.prof with stagedB := some { profile := p, declared := true } } }

/-- A roll's declaration taken: its remaining length in µm, its ROLL_LOW flag cleared and tested afresh (R157). -/
def State.declareLength (s : State) (r : Roll) (len : Option Nat) : State :=
  ((s.modRoll r fun k => { k with remaining := len.map fun v => v * 1000, lowPosted := false }).rollLowTest r).stir

/-- ROLL_LOADED (R157, R184). -/
def State.doRollLoaded (s : State) (b : List Byte) : Taken :=
  match Roll.ofNum? (bodyFirst b) with
  | none => ⟨.invalid, 1, s⟩
  | some r =>
    match rollFieldError b with
    | some f => ⟨.invalid, 0x10 + f, s⟩
    | none =>
      let p := mediaSection b bodyMediaAt
      match (s.roll r).st with
      | .absent => ⟨.state, 0, s⟩
      | .present => ⟨.done, 0, ((s.setRoll r .loaded).putMedia r p).declareLength r (declaredLength b)⟩
      | .loaded => ⟨.done, 0, ((s.setRoll r .loaded).putMedia r p).declareLength r (declaredLength b)⟩
      | .active =>
        if s.sheetOnPath then ⟨.done, 1, (s.stageDeclared r p).declareLength r (declaredLength b)⟩
        else ⟨.done, 0, (s.putMedia r p).declareLength r (declaredLength b)⟩
      | st => ⟨.state, st.code, s⟩

/-- The number with which ROLL_UNLOAD is refused as busy, if it is: the sheet on the path, or 0xFFFF for an operation (R158). -/
def State.unloadBusy (s : State) : Option Nat :=
  match s.media.table.find? fun t => t.st.onPath with
  | some t => some t.number
  | none => if s.motion then some 0xFFFF else none

/-- ROLL_UNLOAD (R158). -/
def State.doRollUnload (s : State) (b : List Byte) : Taken :=
  match Roll.ofNum? (bodyFirst b) with
  | none => ⟨.invalid, 1, s⟩
  | some r =>
    match s.unloadBusy with
    | some d => ⟨.busy, d, s⟩
    | none =>
      match (s.roll r).st with
      | .loaded => ⟨.done, 0, (s.setRoll r .present).modRoll r fun k => { k with remaining := none, lowPosted := false }⟩
      | .active => if s.media.fault then ⟨.state, 0xFF, s⟩ else ⟨.done, 1, s.beginRewind r none none⟩
      | st => ⟨.state, st.code, s⟩

/-- The engaged roll taken from the platen line as it stands (R175). -/
def State.resetRoll (s : State) (r : Roll) : State :=
  if s.media.platen.isActive then (if (s.roll r).st = .ended then s else s.setRoll r .active)
  else if (s.roll r).st = .ended then s.rollOut r
  else s.setRoll r .loaded

/-- A spoiled sheet whose cut still waits becomes SPOILED where the platen is empty at MEDIA_RESET (R174, R175, log 18). -/
def State.resetSpoiled (s : State) : State :=
  match s.media.table.find? fun t => t.st == .cutting && t.spoil.isSome && s.dueOfSheet t.sid with
  | some t => if s.media.platen.isActive then s else (s.dropDue t.sid).becomeSpoiled t false
  | none => s

/-- MEDIA_RESET (R175): its detail is the new state of the roll that was engaged. -/
def State.doMediaReset (s : State) : Taken :=
  if s.media.fault then
    let r := s.engagedRoll?
    let s := match r with
      | some r => s.resetRoll r
      | none => s
    let s := s.modMedia fun m => { m with fault := false }
    ⟨.done, match r with | some r => (s.roll r).st.code | none => 0xFF, s.resetSpoiled.stir⟩
  else ⟨.state, 0, s⟩

/-! ### Service Sequencer and Health Table -/

/-- SERVICE_NOW (R150). -/
def State.doServiceNow (s : State) (b : List Byte) : Taken :=
  match Level.ofCode? (bodyFirst b) with
  | none => ⟨.invalid, 1, s⟩
  | some level =>
    if !validChans (bodySecond b) then ⟨.invalid, 2, s⟩
    else
      match s.offer level (ChanSet.ofMask (bodySecond b)) false with
      | (.entered, s') => ⟨.done, 0, s'⟩
      | (.merged, s') => ⟨.done, 1, s'⟩
      | (.absorbed, s') => ⟨.done, 2, s'⟩
      | (.refused, s') => ⟨.busy, 8, s'⟩

/-- Every request leaves the queue without completing (R145): the Health Table is told of each LIGHT and PRIME. -/
def State.flushQueue (s : State) : State :=
  let q := s.svc.queue
  let s := s.modSvc fun v => { v with queue := [] }
  ((q.foldl (fun s r => s.cleaningLeft r.level r.chans) s).wake (if q.isEmpty then [] else [.uncap, .evalFront])).stir

/-- The station leaves FAULT for the state that the filtered capped line gives (R145). -/
def State.leaveFault (s : State) : State :=
  if s.svc.cappedLine.isActive then s.capCloses.setStation .capped
  else (s.modSvc fun v => { v with cap := .opened }).setStation .uncapped

/-- SERVICE_RESET (R145). -/
def State.doServiceReset (s : State) (b : List Byte) : Taken :=
  if s.svc.station = .fault then
    let s' := s.leaveFault
    let s' := if bodyFirst b = 0 then s' else s'.flushQueue
    ⟨.done, if s.svc.cappedLine.isActive then 0 else 1, s'.stirWalk⟩
  else ⟨.state, s.svc.station.code, s⟩

/-- HEAD_REPLACED (R126). -/
def State.doHeadReplaced (s : State) (b : List Byte) : Taken :=
  if validChans (bodyFirst b) then ⟨.done, bodyFirst b, s.replaceHeads (ChanSet.ofMask (bodyFirst b))⟩ else ⟨.invalid, 1, s⟩

/-! ### Slot Parser, Event Queue, Path Mediator -/

/-- RELEASE_SLOT (R39), which names no detail for DONE and for an index above 63: both are answered 0 (log 28). -/
def State.doRelease (s : State) (b : List Byte) : Taken :=
  if h : bodyFirst b < 64 then
    let i : SlotIx := ⟨bodyFirst b, h⟩
    if (s.slot i).st = .retired then ⟨.done, 0, (s.modSlot i Slot.release).wake [.heldRead]⟩ else ⟨.state, (s.slot i).st.code, s⟩
  else ⟨.invalid, 0, s⟩

/-- SET_MASKS (R192). -/
def State.doSetMasks (s : State) (b : List Byte) : Taken :=
  if 31 < bodyFirst b then ⟨.invalid, 1, s⟩
  else if 1 < bodySecond b then ⟨.invalid, 2, s⟩
  else
    ⟨.done, s.events.masks.toNat + (if s.events.suspend then 256 else 0),
     { s with events := { s.events with masks := BitVec.ofNat 5 (bodyFirst b), suspend := decide (bodySecond b = 1) } }⟩

/-- COUNTERS_CLEAR (R58). -/
def State.doCountersClear (s : State) : Taken := ⟨.done, 0, { s with counters := Counters.zero }⟩

/-- A trigger of a kind that is no directive (R179). -/
def State.doUnknown (s : State) : Taken := ⟨.invalid, 0, s⟩

/-! ### Taking a trigger (R179, R180) -/

/-- The result written after a directive (R180). -/
def State.putResult (s : State) (q : Seq) (kind : Nat) (code : ResultCode) (detail : Nat) : State :=
  { s with mail := { s.mail with seq := q, kind := kind, result := some code, detail := detail % 65536, count := s.mail.count + 1 } }

/-- A trigger arrives: a partial one and a repeat do nothing; another is taken, executed and answered (R179, R180). -/
def State.trigger (s : State) (kind : Nat) (w : WriteBeat) (run : State → Taken) : State :=
  if !w.isTrigger then s
  else if s.mail.lastTaken = some w.triggerSeq then s
  else
    let t := run { s with mail := { s.mail with lastTaken := some w.triggerSeq } }
    t.after.putResult w.triggerSeq kind t.code t.detail

/-- A body write beat copied into the body copy (R178). -/
def State.bodyWrite (s : State) (off : Nat) (w : WriteBeat) : State :=
  { s with mail := { s.mail with body := mergeBeat s.mail.body off w } }

/-- The directive of a kind code run on the body copy (table of section 9.2). -/
def runDirective (kind : Nat) (s : State) : Taken :=
  let b := s.mail.body
  match kind with
  | 1 => s.doPause
  | 2 => s.doResume
  | 3 => s.doCancelSheet
  | 4 => s.doCancelAll
  | 5 => s.doCartridge b
  | 6 => s.doCalibrate b
  | 7 => s.doRollLoaded b
  | 8 => s.doRollUnload b
  | 9 => s.doMediaReset
  | 10 => s.doServiceNow b
  | 11 => s.doServiceReset b
  | 12 => s.doHeadReplaced b
  | 13 => s.doRelease b
  | 14 => s.doSetMasks b
  | 15 => s.doCountersClear
  | _ => s.doUnknown

end Sys2Proof.Machine
end

