-- ==== Sys2Proof/Machine/Link.lean ====
section
/-! DEFINITION. Machine/Link.lean: the Path Mediator (chapter 1): arrivals, address classes, what a write beat teaches, the answers of reads, the
held read and the reads behind it, link loss and link reset. -/
namespace Sys2Proof.Machine

/-! ### Arrivals (R1, R13, R15) -/

/-- The link leaves LOST: every test that the spec makes at that event (R15, R96, R134, R155, R161). -/
def State.leaveLost (s : State) : State := s.stirWalk

/-- The arrival of a request: the silence count restarts, and a LOST link is UP again with LINK_RESTORED posted (R13, R15, R194). What follows in
the blocks from leaving LOST is scheduled. -/
def State.arrive (s : State) : State :=
  match s.link.state with
  | .up => { s with link := { s.link with silence := 0 } }
  | .lost =>
    let ms := s.link.lostMs
    ({ s with link := { s.link with silence := 0, state := .up, lostMs := 0 } }.post .linkRestored 0xFF ms 0).leaveLost

/-- A request forwarded to memory (R1, R2, R3). -/
def State.forward (s : State) (f : Forward) : State := { s with out := { s.out with forwarded := s.out.forwarded ++ [f] } }

/-! ### Address classes (R5, R6) -/

/-- The address class of a beat. -/
inductive BeatClass where
  | body (beat : Nat)
  | trigger
  | event
  | retirement
  | control (offset : Nat)
  | header (slot : SlotIx) (beat : Nat)
  | exchange (slot : SlotIx)
  | service (beat : Fin 20)
  | plane (w : Window)
  | plain
  deriving DecidableEq, Repr

/-- The class of a control-slot beat by its offset (R5, R6, 11.2). -/
def controlClass (o : Nat) : BeatClass :=
  if o < 0xC0 then .body (o / 64)
  else if o = 0xC0 then .trigger
  else if o = 0x140 then .event
  else if o = 0x180 then .retirement
  else .control o

/-- The class of a beat inside the span by its offset (table of R5). -/
def spanClass (o : Nat) : BeatClass :=
  if o < 0x1000 then controlClass o
  else if h : o < 0x5000 then
    let i : SlotIx := ⟨(o - 0x1000) / 256, by omega⟩
    if o % 256 = 0xC0 then .exchange i else .header i (o % 256 / 64)
  else if h : 0x8000 ≤ o ∧ o < 0x8500 then .service ⟨(o - 0x8000) / 64, by omega⟩
  else .plain

/-- A window holds an address (R44). -/
def Window.holds (w : Window) (a : Nat) : Bool := decide (w.base ≤ a) && decide (a < w.base + w.len)

/-- The address class of a beat at its arrival (R5, R44). -/
def State.classify (s : State) (a : Nat) : BeatClass :=
  if s.spanBase ≤ a ∧ a < s.spanBase + 65536 then spanClass (a - s.spanBase)
  else
    match s.windows.find? fun w => w.holds a with
    | some w => .plane w
    | none => .plain

/-! ### Writes (R6) -/

/-- What a write beat at an address teaches the part (table of R6). -/
def State.learnWrite (s : State) (a : Nat) (w : WriteBeat) : State :=
  match s.classify a with
  | .body k => s.bodyWrite (64 * k) w
  | .trigger => s.trigger (w.byte 0) w (runDirective (w.byte 0))
  | .header i k => s.modSlot i fun t => t.headerWrite (64 * k) w
  | .exchange i => s.exchangeWrite i w
  | .plane win => s.planeBeatWrite win (a - win.base) w
  | _ => s

/-- The first beat of a write request that has arrived: the request is forwarded whole, and the part learns from the beat (R1, R2, R6). A write of no
beat is forwarded and teaches nothing. -/
def State.writeFirst (s : State) (a : Nat) (ws : List WriteBeat) : State :=
  let s := s.forward (.write a ws)
  match ws with
  | [] => s
  | w :: _ => s.learnWrite a w

/-- The later beats of a write request, each at its own address and an event of its own (R1, R2). -/
def laterWrites (a : Nat) : List WriteBeat → List (State → State)
  | [] => []
  | w :: ws => (fun s => s.learnWrite a w) :: laterWrites (a + 64) ws

/-! ### The event beat and the retirement beat (R37, R189, R190) -/

/-- The event beat of a record, or of none, with the two counts (R189, 11.4). -/
def eventBeat (e : Option Event) (standing overflow : Nat) : List Byte :=
  buildBeat
    ((match e with
      | some e => [(0, 1, e.kind.code), (1, 1, e.kind.category), (2, 2, e.subject), (4, 4, e.d1), (8, 6, e.d2), (16, 4, e.time.toNat)]
      | none => []) ++ [(24, 1, standing), (28, 4, overflow)])

/-- The oldest record removed; with an overflow count above 0 an EVENT_OVERFLOW record is entered at the tail (R189, R190). -/
def EventQueue.take (q : EventQueue) (now : BitVec 32) : Option Event × EventQueue :=
  match q.recs with
  | [] => (none, q)
  | e :: rest =>
    if q.overflow = 0 then (some e, { q with recs := rest })
    else (some e, { q with recs := rest ++ [Event.make now .eventOverflow 0xFF q.overflow q.firstLoss.toNat], overflow := 0, firstLoss := 0 })

/-- The event beat answered to a read of a class (R189). -/
def State.answerEvent (s : State) (cls : ReqClass) : State :=
  let (e, q) := s.events.take s.time.ms
  { s with events := q }.answer cls (s.spanBase + 0x140) (eventBeat e q.recs.length q.overflow)

/-- The retirement beat of an entry, or of none (R37, 11.4). -/
def retirementBeat (e : Option RetireEntry) (overflow : Nat) : List Byte :=
  buildBeat
    ((match e with
      | some e => [(0, 2, (e.seq.map BitVec.toNat).getD 0), (2, 1, e.slot.val), (3, 1, e.outcome.code), (4, 1, reasonCode e.reason)]
      | none => [(2, 1, 0xFF)]) ++ [(8, 4, overflow)])

/-- The retirement beat answered to a read of a class: the oldest entry is removed and the overflow count cleared (R37). -/
def State.answerRetirement (s : State) (cls : ReqClass) : State :=
  let e := s.parser.retired.head?
  { s with parser := { s.parser with retired := s.parser.retired.tail, retireOverflow := 0 } }.answer cls (s.spanBase + 0x180)
    (retirementBeat e s.parser.retireOverflow)

/-! ### The service area (R11, R139) -/

/-- Four large drops, but for the RETIRED nozzles among four (R11, R46). -/
def spitByte (ns : List Nozzle) : Byte :=
  BitVec.ofNat 8 ((ns.zipIdx.map fun n => if n.1.st = .retired then 0 else 3 * 4 ^ n.2).sum)

/-- The spit data of nozzles, four to a byte. -/
def spitBytes : List Nozzle → List Byte
  | a :: b :: c :: d :: rest => spitByte [a, b, c, d] :: spitBytes rest
  | _ => []

/-- The service data of a beat of the service area: large drops of the non-RETIRED nozzles of a channel of the spit set while the station is SPITTING,
else zeros (R11, R139). -/
def State.spitData (s : State) (beat : Fin 20) : List Byte :=
  if s.svc.station = .spitting && s.svc.spit.set.get (Chan.ofServiceOffset (64 * beat.val)) then spitBytes (s.spitNozzles beat) else zeroBeat

/-- A FETCH read beat of the service area answered and tested against the pass mark (R11, R139). -/
def State.answerSpit (s : State) (beat : Fin 20) : State :=
  (s.answer .fetch (s.spanBase + 0x8000 + 64 * beat.val) (s.spitData beat)).spitTest beat

/-! ### FETCH reads (R3, R9, R10) -/

/-- What a FETCH read beat at an address reads, as its class at this moment gives it (R5, R7, R44). -/
def State.fetchKind (s : State) (a : Nat) (mem : List Byte) : FetchKind :=
  match s.classify a with
  | .exchange i => .goWord i
  | .service b => .spit b
  | .event => .event
  | .retirement => .retirement
  | .plane w => .plane a (some w.wid) mem
  | _ => .plane a none mem

/-- The address of a FETCH read beat. -/
def State.fetchAddr (s : State) : FetchKind → Nat
  | .goWord i => s.exchangeAddr i
  | .plane a _ _ => a
  | .spit b => s.spanBase + 0x8000 + 64 * b.val
  | .event => s.spanBase + 0x140
  | .retirement => s.spanBase + 0x180
  | .raw a _ => a

/-- A beat that no rule changes but a result or status beat's: that is an overlay, anything else is memory data (R7). -/
def State.plainData (s : State) (a : Nat) (mem : List Byte) : List Byte :=
  match s.classify a with
  | .control o => (s.statusBeat? o).getD mem
  | _ => mem

/-- A FETCH read beat whose turn has come: a go word that says WAIT is held, every other beat is answered (R7, R9). -/
def State.considerFetch (s : State) (k : FetchKind) : State :=
  match k with
  | .goWord i =>
    if s.disposition i = .wait then { s with link := { s.link with held := some i, holdMs := 0 } } else s.answerGoWord .fetch i
  | .plane a none mem => s.answer .fetch a (s.plainData a mem)
  | .plane a (some wid) mem =>
    let (data, s') := s.planeAnswer a wid mem
    s'.answer .fetch a data
  | .spit b => s.answerSpit b
  | .event => s.answerEvent .fetch
  | .retirement => s.answerRetirement .fetch
  | .raw a mem => s.answer .fetch a mem

/-- A read beat of the RASTER or GENERAL class answered at once: the overlay beats as for FETCH but that no go word is held, memory data for
every other beat, a plane beat and a service-area beat among them (R7, R45, R52). -/
def State.answerRead (s : State) (cls : ReqClass) (a : Nat) (mem : List Byte) : State :=
  match s.classify a with
  | .exchange i => s.answerGoWord cls i
  | .event => s.answerEvent cls
  | .retirement => s.answerRetirement cls
  | _ => s.answer cls a (s.plainData a mem)

/-- The beats of a RASTER or GENERAL read request answered in address order (R1, R3). -/
def State.answerReads (cls : ReqClass) (s : State) (a : Nat) : List (List Byte) → State
  | [] => s
  | mem :: mems => (s.answerRead cls a mem).answerReads cls (a + 64) mems

/-- The number of FETCH read requests that wait behind the held read (R3). -/
def State.waitingRequests (s : State) : Nat := s.link.waiting.countP fun b => !b.cont

/-- The link accepts a FETCH read request: no request stalls before it, and it finds no held read or fewer than 16 waiting behind one (R3). -/
def State.acceptsFetch (s : State) : Bool :=
  s.link.stalled.isEmpty && (s.link.held.isNone || decide (s.waitingRequests < 16))

/-- Beats put behind those that wait. -/
def State.queueFetch (s : State) (bs : List FetchBeat) : State := { s with link := { s.link with waiting := s.link.waiting ++ bs } }

/-- The beats of a request after its first. -/
def laterBeats (ks : List FetchKind) : List FetchBeat := ks.map fun k => { kind := k, cont := true }

/-- A FETCH read request that has arrived and is accepted: it is forwarded as one, and its beats are answered in their turn (R1, R3, R9). -/
def State.acceptFetch (s : State) (r : FetchReq) : State :=
  let s := s.forward r.forwarded
  match r.beats with
  | [] => s
  | k :: ks =>
    if s.link.held.isNone && s.link.waiting.isEmpty then
      if ks.isEmpty then s.considerFetch k else ((s.queueFetch (laterBeats ks)).considerFetch k).wake [.drain]
    else s.queueFetch ({ kind := k, cont := false } :: laterBeats ks)

/-- What the beats of a FETCH read request from an address on read, each by its own class at this moment (R1, R5). -/
def State.fetchKinds (s : State) (a : Nat) : List (List Byte) → List FetchKind
  | [] => []
  | mem :: mems => s.fetchKind a mem :: s.fetchKinds (a + 64) mems

/-- A beat of a stalled request that the link accepts is classed at that moment (R5, R44, log 9). -/
def State.reclassBeat (s : State) (k : FetchKind) : FetchKind :=
  match k with
  | .plane a _ mem => s.fetchKind a mem
  | k => k

/-- A stalled request that the link accepts, its beats classed at that moment. -/
def State.reclass (s : State) (r : FetchReq) : FetchReq := { r with beats := r.beats.map s.reclassBeat }

/-- A stalled read for which there is room is accepted; where it finds the link LOST it ends LOST first, and is accepted after what follows from that
(R3, R15, log 9). -/
def State.acceptStalled (s : State) (r : FetchReq) (rs : List FetchReq) : State :=
  match s.link.state with
  | .up => ({ s with link := { s.link with stalled := rs } }.arrive.acceptFetch (s.reclass r)).wake [.drain]
  | .lost => s.arrive.wake [.drain]

/-- The reads behind an answered read are taken one by one, and stalled reads as there is room (R3, R9, R10). -/
def State.drain (s : State) : State :=
  match s.link.held, s.link.waiting, s.link.stalled with
  | none, b :: bs, _ => ({ s with link := { s.link with waiting := bs } }.considerFetch b.kind).wake [.drain]
  | _, _, r :: rs =>
    if { s with link := { s.link with stalled := [] } }.acceptsFetch then s.acceptStalled r rs else s
  | _, _, [] => s

/-- The held read reaches the hold limit: it is answered as it stands and counted (R9). -/
def State.holdExpires (s : State) : State :=
  match s.link.held with
  | some i => (s.answerHeld i).count .holdExpiries 1
  | none => s

/-! ### Link loss (R13, R14, R194) -/

/-- The link enters LOST: LINK_LOST is posted with the activity found, and every block takes its safe state (table of R14). -/
def State.enterLost (s : State) : State :=
  let paused := s.flow.pause
  let s := s.post .linkLost 0xFF s.activity s.link.silence
  let s := { s with link := { s.link with state := .lost, lostMs := 0 }, flow := { s.flow with pause := true } }
  ((s.inkLost.serviceLost).wake (if paused then [] else [.evalFront])).stir

/-- The link is tested: UP, the silence count at its limit, and the part active (R14). -/
def State.linkTest (s : State) : State :=
  if s.link.state = .up && decide (s.link.silence = silenceLimit) && s.active then s.enterLost else s

/-! ### Link reset (R16, R17) -/

/-- The mediator's part: reads discarded, the link UP, the counts at 0 (R16). -/
def Link.reset (l : Link) : Link :=
  { l with state := .up, silence := 0, lostMs := 0, held := none, holdMs := 0, gathered := [], waiting := [],
           stalled := [] }

/-- What a link reset does with the ink of one slot: a FIRING swath is debited what it fired, an ADMITTED one released (R83, R56). -/
def State.resetSlotInk (s : State) (i : SlotIx) : State :=
  let k := s.slot i
  match k.st with
  | .firing => s.swathDebit k.need k.tally.volume
  | .admitted => s.releaseNeed k.need
  | _ => s

/-- The slots, lists, windows and flow items cleared (R42, R43, R56, R83). -/
def State.clearFlow (s : State) : State :=
  { s with slots := Vector.replicate 64 Slot.reset, parser := Parser.reset, windows := [],
           flow := { s.flow with starveMs := 0, starvedPosted := false } }

/-- A sheet record under a link reset: its SHEET_END counts as committed and every swath as retired (R176). -/
def Sheet.settled (t : Sheet) : Sheet := { t with endCommitted := true, retired := t.swaths }

/-- The sheets in STARTING, LEADING, PRINTING, TRAILING or CUTTING, oldest first (R176). -/
def State.startedSheets (s : State) : List Nat := (s.media.table.filter fun t => t.st == .starting || t.st.onPath).map Sheet.sid

/-- The Media Controller's part (R176): every sheet in STARTING to CUTTING is spoiled, one that is being spoiled keeping its reason,
PENDING records are removed, the others settled. -/
def State.mediaReset (s : State) : State :=
  let s := s.startedSheets.foldl (fun s sid => s.spoil sid .linkReset) s
  let s := s.dropPending.modMedia fun m => { m with table := m.table.map Sheet.settled }
  match s.media.due with
  | some d => if d.kind = .advance then s.modMedia fun m => { m with due := none } else s
  | none => s

/-- The mailbox's part: the body copy is zero and the last taken sequence absent (R178, R180). -/
def Mailbox.linkReset (m : Mailbox) : Mailbox := { m with body := List.replicate 192 0, lastTaken := none }

/-- A link reset (R16, R17): LINK_RESET first, then the ink of the swaths, the cleared flow, the station, the media, the mailbox, and the link
leaving LOST. -/
def State.linkResetSteps (s : State) : State :=
  let lost := decide (s.link.state = .lost)
  let boundary := s.boundary
  let s := s.post .linkReset 0xFF (if lost then 1 else 0) s.parser.posted.length
  let s := { s with link := s.link.reset }
  let s := SlotIx.all.foldl State.resetSlotInk s
  let s := s.clearFlow.serviceReset.mediaReset
  let s := { s with mail := s.mail.linkReset }
  if lost then s.leaveLost else if boundary then s.stir else s.stirBoundary

/-- A link reset is one event: the ink of every swath and of an abandoned spit is one report (R83, R89). -/
def State.linkResets (s : State) : State := s.together State.linkResetSteps

end Sys2Proof.Machine
end

