-- ==== Sys2Proof/Machine/Settle.lean ====
section
/-! DEFINITION. Machine/Settle.lean: the reactions of a command (log 7): one test of one block each, taken in the order in which the agenda holds
them until none is left. -/
namespace Sys2Proof.Machine

/-- An ink report (R89): the Service Sequencer takes it first and asks again for the reservations that wait for a channel it names, then
the front is evaluated where the change was taken with the admitted count below 2 (R59). -/
def State.inkReport (s : State) (cs : ChanSet) (front : Bool) : State :=
  let s := (s.inkWalk cs).inkRetry cs
  if front then s.evalFront else s

/-- The refill start conditions tested on every channel, in channel order (R96). -/
def State.refillTests (s : State) : State := Chan.all.foldl State.refillTest s

/-- One reaction. -/
def State.react (s : State) : Reaction → State
  | .directives => s.runDirectives 64
  | .evalFront => s.evalFront
  | .inkReport cs f => s.inkReport cs f
  | .quiet => s.quietTest
  | .refill => s.refillTests
  | .idle => s.idleTest
  | .serviceStep => s.serviceStep
  | .walk => s.walk
  | .boundary => s.boundaryWalk
  | .sheets => s.sheetsTest
  | .sheetStart => s.sheetStartTest
  | .mediaOps => s.mediaTest
  | .starve => s.starveTest
  | .uncap => s.uncapTest
  | .heldRead => s.heldReadTest
  | .drain => s.drain
  | .linkCheck => s.linkTest

/-- The reactions taken one by one from the head of the agenda, at most as many as the first argument says. -/
def settle : Nat → State → State
  | 0, s => s
  | n + 1, s =>
    match s.agenda with
    | [] => s
    | r :: rs => settle n ({ s with agenda := rs }.react r)

/-- The most reactions that one command takes (log 7). -/
def settleFuel : Nat := 4096

/-- A command's own effect, with the outputs of the command before it cleared and every reaction to it taken. -/
def State.event (s : State) (f : State → State) : State := settle settleFuel (f { s with out := { answers := [], forwarded := [] } })

/-! ### Requests (R1, R3, R15) -/

/-- A request arrives. One that finds the link LOST ends LOST first, with all that follows from that in the blocks, and is then handled as any
request is (R15, R78, R155, R179). -/
def State.arrived (s : State) : State :=
  match s.link.state with
  | .up => s.arrive
  | .lost => settle settleFuel s.arrive

/-- A FETCH read request comes: the link accepts it or it stalls before the link (R3, log 9). -/
def State.fetchRead (s : State) (r : State → FetchReq) : State :=
  if s.acceptsFetch then s.arrived.acceptFetch (r s.arrived) else { s with link := { s.link with stalled := s.link.stalled ++ [r s] } }

/-- A FETCH read request of one beat. -/
def State.fetchOne (s : State) (k : FetchKind) : State :=
  s.fetchRead fun s => { forwarded := .read (s.fetchAddr k) 1 .fetch, beats := [k] }

/-! ### Changes of sensor lines -/

/-- What a filtered change of a line brings about; `old` is the state before it (R91 to R95, R101, R130, R154). -/
def State.lineChanged (s : State) (i : LineId) (old : LineState) : State :=
  match i with
  | .lowFloat c => s.lowFloatChanged c old
  | .fullFloat c => s.fullFloatChanged c old
  | .presence c => s.presenceChanged c
  | .capped => s.cappedChanged old
  | .openLine => s.openChanged
  | .wiperHome => s.wiperChanged old
  | .carriage => s.carriageChanged
  | .rollPresent r => s.rollPresentChanged r
  | .rollEnd r => s.rollEndChanged r
  | .feedPath => s.feedPathChanged
  | .platen => s.platenChanged
  | .cutterHome => s.cutterChanged old

/-- A filtered change that a command names; a line that already holds the state does not change (log 3). -/
def State.lineCommand (s : State) (i : LineId) (b : Bool) : State :=
  let old := (s.line i).filt
  let s := s.setLine i (Line.take b)
  if old = LineState.ofLevel b then s else s.lineChanged i old

/-- A change to active of a line whose change to inactive has no row of its own: the line counts as inactive before it (log 3). -/
def State.returnCommand (s : State) (i : LineId) : State := (s.setLine i (Line.take true)).lineChanged i .inactive

/-- A line's pin goes to a level; the sampling ticks filter it (R91, R130, R154). -/
def State.drivePin (s : State) (i : LineId) (b : Bool) : State := s.setLine i { s.line i with pin := some b }

/-- A command of a line with a row for each direction. -/
def State.lineInput (s : State) (i : LineId) (b : Bool) : LineInput → State
  | .filtered => s.lineCommand i b
  | .pin => s.drivePin i b

/-- A command of a line with one row alone, which its operand lets name either direction (log 3). -/
def State.returnInput (s : State) (i : LineId) (b : Bool) : LineInput → State
  | .filtered => if b then s.returnCommand i else s.lineCommand i false
  | .pin => s.drivePin i b

/-- A line that must have become inactive by the event of another line, recorded where it was active (log 3). -/
def State.impliedInactive (s : State) (i : LineId) : State :=
  if (s.line i).filt = .active then s.setLine i (Line.take false) else s

/-- One sample of a line (R91, R130, R154). -/
def State.sampleLine (s : State) (i : LineId) : State :=
  let l := s.line i
  let l' := l.sample
  let s := s.setLine i l'
  if l'.filt = l.filt then s else s.lineChanged i l.filt

end Sys2Proof.Machine
end

