-- ==== Sys2Proof/Machine/Tick.lean ====
section
/-! DEFINITION. Machine/Tick.lean: one millisecond of the time base (log 1). Every timer of the part that runs counts, a timer that reaches its
limit acts, and every tenth millisecond every sensor line is sampled. -/
namespace Sys2Proof.Machine

/-- The time base counts (R187). -/
def State.tickTime (s : State) : State := { s with time := { ms := s.time.ms + 1, phase := (s.time.phase + 1) % 10 } }

/-- The silence count counts up to 5,000 and the time in LOST counts (R13, R194). -/
def State.tickLink (s : State) : State :=
  let s := { s with link := { s.link with silence := min silenceLimit (s.link.silence + 1),
                                          lostMs := if s.link.state = LinkState.lost then s.link.lostMs + 1 else s.link.lostMs } }
  s.wake [.linkCheck]

/-- The hold timer counts while a read is held (R9). -/
def State.tickHold (s : State) : State :=
  if s.link.held.isSome then
    let n := s.link.holdMs + 1
    let s := { s with link := { s.link with holdMs := n } }
    if holdLimit ≤ n then s.holdExpires else s
  else s

/-- The starvation timer counts (R75). -/
def State.tickStarve (s : State) : State :=
  if s.starveCounts then { s with flow := { s.flow with starveMs := s.flow.starveMs + 1 } }.wake [.starve] else s

/-- A pump stroke in progress counts to 250 ms (R97). -/
def State.tickStroke (s : State) (c : Chan) : State :=
  match (s.inkOf c).stroke with
  | some n =>
    let s := s.modInk c fun k => { k with stroke := some (n + 1) }
    if strokeTime ≤ n + 1 then s.strokeEnds c else s
  | none => s

/-- The call timer counts to 10,000 ms while the station is CALLING (R136). -/
def State.tickCall (s : State) : State :=
  if s.svc.station = .calling && s.svc.callRunning then
    let s := s.modSvc fun v => { v with callMs := v.callMs + 1 }
    if callLimit ≤ s.svc.callMs then s.callTimesOut else s
  else s

/-- The time of the channel being sucked, in ms (R143). -/
def State.suctionMs (s : State) : Nat :=
  match s.svc.toSuck with
  | c :: _ => (s.chanProf c).suctionTime * 1000
  | [] => 0

/-- The motor or pump of the step in flight counts to its limit (R141 to R143). -/
def State.tickMotor (s : State) : State :=
  if s.svc.station.runsOn then
    let s := s.modSvc fun v => { v with motorMs := v.motorMs + 1 }
    match s.svc.station with
    | .capping => if capLimit ≤ s.svc.motorMs then s.capFails else s
    | .uncapping => if capLimit ≤ s.svc.motorMs then s.capFails else s
    | .wiping => if strokeLimit3s ≤ s.svc.motorMs then s.wiperFails else s
    | .suction => if s.suctionMs ≤ s.svc.motorMs then s.suctionEnds else s
    | _ => s
  else s

/-- A running decap timer counts to its limit (R146). -/
def State.tickDecap (s : State) (c : Chan) : State :=
  if s.decapRuns c then
    let n := (s.svc.decap.get c).ms + 1
    let s := s.modSvc fun v => { v with decap := v.decap.set c { v.decap.get c with ms := n } }
    if s.decapLimitMs c ≤ n then s.decapExpires c else s
  else s

/-- The idle timer counts to the idle-cap time (R149). -/
def State.tickIdle (s : State) : State :=
  if s.idleCounts then
    let s := s.modSvc fun v => { v with idleMs := v.idleMs + 1 }
    if s.prof.flow.idleCap * 1000 ≤ s.svc.idleMs then s.idleExpires else s
  else s

/-- The timer of the media operation in flight counts to its limit (R155). -/
def State.tickOp (s : State) : State :=
  match s.media.op with
  | some o =>
    let o := { o with ms := o.ms + 1 }
    let s := s.modMedia fun m => { m with op := some o }
    if o.limit ≤ o.ms then s.opLimit o else s
  | none => s

/-- The parts of a millisecond in the order in which they are taken (log 1, log 20); each is an event of its own. -/
def tickParts : List (State → State) :=
  [State.tickTime, State.tickLink, State.tickHold, State.tickStarve] ++ Chan.all.map (fun c s => s.tickStroke c) ++
    [State.tickCall, State.tickMotor] ++ Chan.all.map (fun c s => s.tickDecap c) ++ [State.tickIdle, State.tickOp]

/-- Events taken one after another, each with its reactions. -/
def runEvents (s : State) (fs : List (State → State)) : State := fs.foldl (fun s f => settle settleFuel (f s)) s

/-- The sampling tick: every line is sampled, in one fixed order (R91, R130, R154). -/
def State.sampleLines (s : State) : State := runEvents s (LineId.all.map fun i s => s.sampleLine i)

/-- One millisecond (log 1). -/
def State.tick (s : State) : State :=
  let s := runEvents { s with out := { answers := [], forwarded := [] } } tickParts
  if s.time.phase = 0 then s.sampleLines else s

end Sys2Proof.Machine
end

