-- ==== Sys2Proof/Machine/Directives.lean ====
section
/-! DEFINITION. Machine/Directives.lean: the immediate directives (section 9.2). A command is the trigger beat as written to 0x0C0; its row gives the kind (log 23). -/
namespace Sys2Proof.Machine

/-- A trigger beat arrives and is forwarded (R2, R179). -/
def State.triggerArrives (s : State) (w : WriteBeat) : State := s.arrived.forward (.write (s.spanBase + 0xC0) [w])

/-- DIRECTIVE_UNKNOWN_KIND (R179). -/
def execDirectiveUnknownKind (w : WriteBeat) (s : State) : Host.Outcome State Fault Refusal :=
  .next (s.event fun s => (s.triggerArrives w).trigger (w.byte 0) w State.doUnknown)

/-- PAUSE (R77). -/
def execPause (w : WriteBeat) (s : State) : Host.Outcome State Fault Refusal :=
  .next (s.event fun s => (s.triggerArrives w).trigger 1 w State.doPause)

/-- RESUME (R78). -/
def execResume (w : WriteBeat) (s : State) : Host.Outcome State Fault Refusal :=
  .next (s.event fun s => (s.triggerArrives w).trigger 2 w State.doResume)

/-- CANCEL_SHEET (R80). -/
def execCancelSheet (w : WriteBeat) (s : State) : Host.Outcome State Fault Refusal :=
  .next (s.event fun s => (s.triggerArrives w).trigger 3 w State.doCancelSheet)

/-- CANCEL_ALL (R81). -/
def execCancelAll (w : WriteBeat) (s : State) : Host.Outcome State Fault Refusal :=
  .next (s.event fun s => (s.triggerArrives w).trigger 4 w State.doCancelAll)

/-- CARTRIDGE_INSTALLED (R103). -/
def execCartridgeInstalled (w : WriteBeat) (s : State) : Host.Outcome State Fault Refusal :=
  .next (s.event fun s => (s.triggerArrives w).trigger 5 w (fun s => s.doCartridge s.mail.body))

/-- CALIBRATE_PUMP (R104). -/
def execCalibratePump (w : WriteBeat) (s : State) : Host.Outcome State Fault Refusal :=
  .next (s.event fun s => (s.triggerArrives w).trigger 6 w (fun s => s.doCalibrate s.mail.body))

/-- ROLL_LOADED (R157, R184). -/
def execRollLoaded (w : WriteBeat) (s : State) : Host.Outcome State Fault Refusal :=
  .next (s.event fun s => (s.triggerArrives w).trigger 7 w (fun s => s.doRollLoaded s.mail.body))

/-- ROLL_UNLOAD (R158). -/
def execRollUnload (w : WriteBeat) (s : State) : Host.Outcome State Fault Refusal :=
  .next (s.event fun s => (s.triggerArrives w).trigger 8 w (fun s => s.doRollUnload s.mail.body))

/-- MEDIA_RESET (R175). -/
def execMediaReset (w : WriteBeat) (s : State) : Host.Outcome State Fault Refusal :=
  .next (s.event fun s => (s.triggerArrives w).trigger 9 w State.doMediaReset)

/-- SERVICE_NOW (R150). -/
def execServiceNow (w : WriteBeat) (s : State) : Host.Outcome State Fault Refusal :=
  .next (s.event fun s => (s.triggerArrives w).trigger 10 w (fun s => s.doServiceNow s.mail.body))

/-- SERVICE_RESET (R145). -/
def execServiceReset (w : WriteBeat) (s : State) : Host.Outcome State Fault Refusal :=
  .next (s.event fun s => (s.triggerArrives w).trigger 11 w (fun s => s.doServiceReset s.mail.body))

/-- HEAD_REPLACED (R126). -/
def execHeadReplaced (w : WriteBeat) (s : State) : Host.Outcome State Fault Refusal :=
  .next (s.event fun s => (s.triggerArrives w).trigger 12 w (fun s => s.doHeadReplaced s.mail.body))

/-- RELEASE_SLOT (R39). -/
def execReleaseSlot (w : WriteBeat) (s : State) : Host.Outcome State Fault Refusal :=
  .next (s.event fun s => (s.triggerArrives w).trigger 13 w (fun s => s.doRelease s.mail.body))

/-- SET_MASKS (R192). -/
def execSetMasks (w : WriteBeat) (s : State) : Host.Outcome State Fault Refusal :=
  .next (s.event fun s => (s.triggerArrives w).trigger 14 w (fun s => s.doSetMasks s.mail.body))

/-- COUNTERS_CLEAR (R58). -/
def execCountersClear (w : WriteBeat) (s : State) : Host.Outcome State Fault Refusal :=
  .next (s.event fun s => (s.triggerArrives w).trigger 15 w State.doCountersClear)

end Sys2Proof.Machine
end

