-- ==== Sys2Proof/Machine/InkCommands.lean ====
section
/-! DEFINITION. Machine/InkCommands.lean: the events of the ink channels (R91 to R97, R101) and the starvation limit (R76). -/
namespace Sys2Proof.Machine

/-- The starvation timer reaches its limit (R76). -/
def State.starvedNow (s : State) : State :=
  match s.inkHeld? with
  | some (i, t) =>
    if s.starveCounts || decide (s.starveLimitMs ≤ s.flow.starveMs) then
      { s with flow := { s.flow with starveMs := max s.flow.starveMs s.starveLimitMs } }.starveAct i t
    else s
  | none => s

/-- STARVED (R76): the starvation timer reaches its limit; no effect where no front is so held, or where the timer stands below its limit and does
not count (log 2). -/
def execStarved (s : State) : Host.Outcome State Fault Refusal :=
  .next (s.event State.starvedNow)

/-- STROKE_COMPLETE (R97, R98): no effect where no stroke is in progress (log 2). -/
def execStrokeComplete (c : Chan) (s : State) : Host.Outcome State Fault Refusal :=
  .next (s.event fun s => s.strokeEnds c)

/-- LOW_FLOAT_ASSERT (R92). -/
def execLowFloatAssert (c : Chan) (s : State) (how : LineInput := .filtered) : Host.Outcome State Fault Refusal :=
  .next (s.event fun s => s.lineInput (.lowFloat c) true how)

/-- LOW_FLOAT_DEASSERT (R93). -/
def execLowFloatDeassert (c : Chan) (s : State) (how : LineInput := .filtered) : Host.Outcome State Fault Refusal :=
  .next (s.event fun s => s.lineInput (.lowFloat c) false how)

/-- FULL_FLOAT_ASSERT (R94). -/
def execFullFloatAssert (c : Chan) (s : State) (how : LineInput := .filtered) : Host.Outcome State Fault Refusal :=
  .next (s.event fun s => s.lineInput (.fullFloat c) true how)

/-- FULL_FLOAT_DEASSERT (R95). -/
def execFullFloatDeassert (c : Chan) (s : State) (how : LineInput := .filtered) : Host.Outcome State Fault Refusal :=
  .next (s.event fun s => s.lineInput (.fullFloat c) false how)

/-- PRESENCE_ACTIVE (R101). -/
def execPresenceActive (c : Chan) (s : State) (how : LineInput := .filtered) : Host.Outcome State Fault Refusal :=
  .next (s.event fun s => s.lineInput (.presence c) true how)

/-- PRESENCE_INACTIVE (R101). -/
def execPresenceInactive (c : Chan) (s : State) (how : LineInput := .filtered) : Host.Outcome State Fault Refusal :=
  .next (s.event fun s => s.lineInput (.presence c) false how)

end Sys2Proof.Machine
end

