-- ==== Sys2Proof/Machine/MediaCommands.lean ====
section
/-! DEFINITION. Machine/MediaCommands.lean: the events of the media feed (R154 to R156, R162, R165, R166, R169 to R171). -/
namespace Sys2Proof.Machine

/-- The limit of an operation other than a cut is reached (R166). -/
def State.stallNow (s : State) : State :=
  match s.media.op with
  | some o => if o.kind = .cut then s else s.opStalls o
  | none => s

/-- The limit of a cut is reached (R169). -/
def State.cutFaultNow (s : State) : State :=
  match s.media.op with
  | some o => if o.kind = .cut then s.cutFails o else s
  | none => s

/-- During a thread the feed path holds paper (R154, R162, log 3). -/
def State.pathFilled (s : State) : State :=
  match s.media.op with
  | some o => if o.kind = .thread then s.impliedInactive .feedPath else s
  | none => s

/-- FEED_ENCODER_PULSE (R154, R165). -/
def execFeedEncoderPulse (s : State) : Host.Outcome State Fault Refusal :=
  .next (s.event State.pulse)

/-- FEED_STALL (R166): no effect where no operation but a cut is in flight (log 2). -/
def execFeedStall (s : State) : Host.Outcome State Fault Refusal :=
  .next (s.event State.stallNow)

/-- CUTTER_HOME_ACTIVE (R154, R169): the cutter home line takes a state, or its pin a level. -/
def execCutterHomeActive (s : State) (active : Bool := true) (how : LineInput := .filtered) : Host.Outcome State Fault Refusal :=
  .next (s.event fun s => s.returnInput .cutterHome active how)

/-- CUTTER_FAULT (R169): no effect where no cut is in flight (log 2). -/
def execCutterFault (s : State) : Host.Outcome State Fault Refusal :=
  .next (s.event State.cutFaultNow)

/-- ROLL_PRESENT_ACTIVE (R156). -/
def execRollPresentActive (r : Roll) (s : State) (how : LineInput := .filtered) : Host.Outcome State Fault Refusal :=
  .next (s.event fun s => s.lineInput (.rollPresent r) true how)

/-- ROLL_PRESENT_INACTIVE (R156). -/
def execRollPresentInactive (r : Roll) (s : State) (how : LineInput := .filtered) : Host.Outcome State Fault Refusal :=
  .next (s.event fun s => s.lineInput (.rollPresent r) false how)

/-- ROLL_END_LINE_ACTIVE (R154, R170): a roll-end line takes a state, or its pin a level. -/
def execRollEndLineActive (r : Roll) (s : State) (active : Bool := true) (how : LineInput := .filtered) : Host.Outcome State Fault Refusal :=
  .next (s.event fun s => s.returnInput (.rollEnd r) active how)

/-- FEED_PATH_CLEAR_ACTIVE (R154, R162): the feed-path-clear line takes a state, or its pin a level. -/
def execFeedPathClearActive (s : State) (active : Bool := true) (how : LineInput := .filtered) : Host.Outcome State Fault Refusal :=
  .next (s.event fun s => s.returnInput .feedPath active how)

/-- PLATEN_MEDIA_ACTIVE (R162): paper that a thread brings to the platen lies in the feed path (log 3). -/
def execPlatenMediaActive (s : State) (how : LineInput := .filtered) : Host.Outcome State Fault Refusal :=
  .next (s.event fun s => (if how = .filtered then s.pathFilled else s).lineInput .platen true how)

/-- PLATEN_MEDIA_INACTIVE (R171). -/
def execPlatenMediaInactive (s : State) (how : LineInput := .filtered) : Host.Outcome State Fault Refusal :=
  .next (s.event fun s => s.lineInput .platen false how)

end Sys2Proof.Machine
end

