-- ==== Sys2Proof/Machine/Part.lean ====
section
/-! DEFINITION. Machine/Part.lean: the commands of the part itself: power-on reset, the first filtered state of the capped line, link reset, link loss. -/
namespace Sys2Proof.Machine

/-- A sensor line taken over from before a power-on reset: its pin level stays, its filtered state is unknown (R91, R130, R154, log 4). -/
def keepPin (old s : State) (i : LineId) : State := s.setLine i (old.line i).repower

/-- The part after a power-on reset (R18). -/
def State.repower (s : State) (straps : BitVec 4) : State :=
  LineId.all.foldl (keepPin s) { State.powerOn straps with pending := s.pending }

/-- The silence count stands at 5,000 ms (R14): where the part is active in UP, the link is lost. -/
def State.lostNow (s : State) : State :=
  if s.link.state = .up && s.active then { s with link := { s.link with silence := silenceLimit } }.enterLost else s

/-- POWER_ON_RESET (R18, R4): the straps are sampled and every block takes its power-on values. The commands that wait and the levels of the
sensor pins are outside the part and stay (log 4). -/
def execPowerOnReset (straps : BitVec 4) (s : State) : Host.Outcome State Fault Refusal :=
  .next (s.repower straps)

/-- STATION_INITIAL_CAP_STATE (R131): the first filtered state of the capped line; it has no effect where the line has a state already (log 3). -/
def execStationInitialCapState (active : Bool) (s : State) : Host.Outcome State Fault Refusal :=
  .next (s.event fun s => if s.svc.cappedLine.filt = .unknown then s.lineCommand .capped active else s)

/-- LINK_RESET (R16, R17). -/
def execLinkReset (s : State) : Host.Outcome State Fault Refusal :=
  .next (s.event State.linkResets)

/-- LINK_LOST (R14): the silence count stands at its limit; in LOST, or where the part is not active, it has no effect (log 2). -/
def execLinkLost (s : State) : Host.Outcome State Fault Refusal :=
  .next (s.event State.lostNow)

end Sys2Proof.Machine
end

