-- ==== Sys2Proof/Machine/Reads.lean ====
section
/-! DEFINITION. Machine/Reads.lean: the commands that are read beats (R3, R7 to R12, R37, R189). -/
namespace Sys2Proof.Machine

/-- GO_WORD_READ (R7, R9, R10): a FETCH read waits its turn and may be held; a RASTER or GENERAL read is answered at once. What
memory returned is discarded. -/
def execGoWordRead (cls : ReqClass) (i : SlotIx) (_mem : List Byte) (s : State) : Host.Outcome State Fault Refusal :=
  .next (s.event fun s =>
    if cls = .fetch then s.fetchOne (.goWord i)
    else (s.arrived.forward (.read (s.exchangeAddr i) 1 cls)).answerGoWord cls i)

/-- GO_WORD_HOLD_EXPIRY (R9): no effect where no read is held (log 2). -/
def execGoWordHoldExpiry (s : State) : Host.Outcome State Fault Refusal :=
  .next (s.event State.holdExpires)

/-- PLANE_FETCH_READ (R1, R7, R12, R44): a read request of one beat or more, each beat classed at its arrival by its own address. In the FETCH
class its beats wait their turn; in the others they are answered at once. -/
def execPlaneFetchRead (cls : ReqClass) (addr : Addr) (mems : List (List Byte)) (s : State) : Host.Outcome State Fault Refusal :=
  .next (s.event fun s =>
    let f := Forward.read addr.toNat mems.length cls
    if cls = .fetch then s.fetchRead fun s => { forwarded := f, beats := s.fetchKinds addr.toNat mems }
    else (s.arrived.forward f).answerReads cls addr.toNat mems)

/-- SPIT_FETCH_READ (R11, R139). -/
def execSpitFetchRead (beat : Fin 20) (_mem : List Byte) (s : State) : Host.Outcome State Fault Refusal :=
  .next (s.event fun s => s.fetchOne (.spit beat))

/-- EVENT_BEAT_READ (R189, R190). -/
def execEventBeatRead (cls : ReqClass) (_mem : List Byte) (s : State) : Host.Outcome State Fault Refusal :=
  .next (s.event fun s =>
    if cls = .fetch then s.fetchOne .event
    else (s.arrived.forward (.read (s.spanBase + 0x140) 1 cls)).answerEvent cls)

/-- RETIREMENT_BEAT_READ (R37). -/
def execRetirementBeatRead (cls : ReqClass) (_mem : List Byte) (s : State) : Host.Outcome State Fault Refusal :=
  .next (s.event fun s =>
    if cls = .fetch then s.fetchOne .retirement
    else (s.arrived.forward (.read (s.spanBase + 0x180) 1 cls)).answerRetirement cls)

end Sys2Proof.Machine
end

