-- ==== Sys2Proof/Machine/StationCommands.lean ====
section
/-! DEFINITION. Machine/StationCommands.lean: the events of the service station (R136, R141 to R149). -/
namespace Sys2Proof.Machine

/-- CALL_TIMEOUT (R136): no effect where no call timer runs (log 2). -/
def execCallTimeout (s : State) : Host.Outcome State Fault Refusal :=
  .next (s.event State.callTimesOut)

/-- CARRIAGE_ARRIVES (R136): the carriage-at-station line becomes active. -/
def execCarriageArrives (s : State) (how : LineInput := .filtered) : Host.Outcome State Fault Refusal :=
  .next (s.event fun s => s.lineInput .carriage true how)

/-- STATION_LOST (R144): the carriage-at-station line becomes inactive. -/
def execStationLost (s : State) (how : LineInput := .filtered) : Host.Outcome State Fault Refusal :=
  .next (s.event fun s => s.lineInput .carriage false how)

/-- The capped line becomes active: the open line cannot be active with it; as the first filtered state of the line it is R131 (R142, log 3). -/
def State.cappedActive (s : State) : State :=
  let s := s.impliedInactive .openLine
  if s.svc.cappedLine.filt = .unknown then s.lineCommand .capped true else s.returnCommand .capped

/-- CAPPED_LINE_ACTIVE (R130, R131, R142): the capped line takes a state, or its pin a level. -/
def execCappedLineActive (s : State) (active : Bool := true) (how : LineInput := .filtered) : Host.Outcome State Fault Refusal :=
  .next (s.event fun s => if active && how == .filtered then s.cappedActive else s.returnInput .capped active how)

/-- OPEN_LINE_ACTIVE (R130, R142): the open line takes a state, or its pin a level; the capped line cannot be active with it (log 3). -/
def execOpenLineActive (s : State) (active : Bool := true) (how : LineInput := .filtered) : Host.Outcome State Fault Refusal :=
  .next (s.event fun s => (if active && how == .filtered then s.impliedInactive .capped else s).returnInput .openLine active how)

/-- CAP_FAULT (R142): no effect outside CAPPING and UNCAPPING (log 2). -/
def execCapFault (s : State) : Host.Outcome State Fault Refusal :=
  .next (s.event State.capFails)

/-- WIPER_HOME_ACTIVE (R130, R141): the wiper home line takes a state, or its pin a level. -/
def execWiperHomeActive (s : State) (active : Bool := true) (how : LineInput := .filtered) : Host.Outcome State Fault Refusal :=
  .next (s.event fun s => s.returnInput .wiperHome active how)

/-- WIPER_FAULT (R141): no effect outside WIPING (log 2). -/
def execWiperFault (s : State) : Host.Outcome State Fault Refusal :=
  .next (s.event State.wiperFails)

/-- SUCTION_END (R143): no effect outside SUCTION (log 2). -/
def execSuctionEnd (s : State) : Host.Outcome State Fault Refusal :=
  .next (s.event State.suctionEnds)

/-- DECAP_EXPIRY (R146, R147): no effect where the timer does not run (log 2). -/
def execDecapExpiry (c : Chan) (s : State) : Host.Outcome State Fault Refusal :=
  .next (s.event fun s => s.decapExpires c)

/-- IDLE_TIMER_EXPIRY (R149): no effect where the timer does not count (log 2). -/
def execIdleTimerExpiry (s : State) : Host.Outcome State Fault Refusal :=
  .next (s.event State.idleExpires)

end Sys2Proof.Machine
end

