-- ==== Sys2Proof/Machine/Writes.lean ====
section
/-! DEFINITION. Machine/Writes.lean: the commands that are write beats (R1, R2, R6): plain writes, slots, planes, the mailbox body. -/
namespace Sys2Proof.Machine

/-- A write beat at byte offset `off` of a slot arrives and is forwarded (R2, R5). -/
def State.slotWriteArrives (s : State) (i : SlotIx) (off : Nat) (w : WriteBeat) : State :=
  s.arrived.forward (.write (s.spanBase + 0x1000 + 256 * i.val + off) [w])

/-- A malformed request: forwarded as it came, its beats given no meaning; a read's data is returned unchanged in the order of its class, so that
a FETCH read takes its turn among the FETCH reads (R1, R3). -/
def State.malformed (s : State) (dir : Direction) (addr : Nat) (beats : Nat) (cls : ReqClass) (data : List WriteBeat) (mem : List Byte) : State :=
  let f := Forward.malformed dir addr beats cls data
  match dir, cls with
  | .write, _ => s.arrived.forward f
  | .read, .fetch => s.fetchRead fun _ => { forwarded := f, beats := [.raw addr mem] }
  | .read, cls => (s.arrived.forward f).answer cls addr mem

/-- MALFORMED_REQUEST (R1). -/
def execMalformedRequest (dir : Direction) (addr : Addr) (beats : Nat) (cls : ReqClass) (data : List WriteBeat) (s : State) (mem : List Byte := []) :
    Host.Outcome State Fault Refusal :=
  .next (s.event fun s => s.malformed dir addr.toNat beats cls data mem)

/-- PLAIN_WRITE (R1, R2, R6): a write request of one beat or more, forwarded as one; a beat that its address gives an owner teaches it what R6
says, beat after beat. -/
def execPlainWrite (addr : Addr) (ws : List WriteBeat) (s : State) : Host.Outcome State Fault Refusal :=
  .next (runEvents (s.event fun s => s.arrived.writeFirst addr.toNat ws) (laterWrites (addr.toNat + 64) ws.tail))

/-- HEADER_WRITE (R19, R20). -/
def execHeaderWrite (i : SlotIx) (beat : Fin 3) (w : WriteBeat) (s : State) : Host.Outcome State Fault Refusal :=
  .next (s.event fun s => (s.slotWriteArrives i (64 * beat.val) w).modSlot i fun k => k.headerWrite (64 * beat.val) w)

/-- OPEN_WORD (R21 to R23): a beat that carries a commit word too has it taken second (R6). -/
def execOpenWord (i : SlotIx) (w : WriteBeat) (s : State) : Host.Outcome State Fault Refusal :=
  .next (s.event fun s => (s.slotWriteArrives i 0xC0 w).exchangeWrite i w)

/-- COMMIT_WORD (R21, R24 to R28). -/
def execCommitWord (i : SlotIx) (w : WriteBeat) (s : State) : Host.Outcome State Fault Refusal :=
  .next (s.event fun s => (s.slotWriteArrives i 0xC0 w).exchangeWrite i w)

/-- PARTIAL_COMMIT (R21). -/
def execPartialCommit (i : SlotIx) (w : WriteBeat) (s : State) : Host.Outcome State Fault Refusal :=
  .next (s.event fun s => (s.slotWriteArrives i 0xC0 w).exchangeWrite i w)

/-- PLANE_WRITE (R44, R47, R48): the window that holds the address at arrival takes the beat. -/
def execPlaneWrite (addr : Addr) (w : WriteBeat) (s : State) : Host.Outcome State Fault Refusal :=
  .next (s.event fun s => s.arrived.writeFirst addr.toNat [w])

/-- MAILBOX_BODY_WRITE (R178). -/
def execMailboxBodyWrite (beat : Fin 3) (w : WriteBeat) (s : State) : Host.Outcome State Fault Refusal :=
  .next (s.event fun s => (s.arrived.forward (.write (s.spanBase + 64 * beat.val) [w])).bodyWrite (64 * beat.val) w)

end Sys2Proof.Machine
end

