-- ==== Sys2Proof/Machine/Dispatch.lean ====
section
/-! DEFINITION. Machine/Dispatch.lean: the meaning of every command, one arm for each. -/
namespace Sys2Proof.Machine

def exec (i : Instr) (s : State) : Host.Outcome State Fault Refusal :=
  match i with
  | .powerOnReset straps => Sys2Proof.Machine.execPowerOnReset straps s
  | .stationInitialCapState active => Sys2Proof.Machine.execStationInitialCapState active s
  | .linkReset => Sys2Proof.Machine.execLinkReset s
  | .linkLost => Sys2Proof.Machine.execLinkLost s
  | .malformedRequest dir addr beats cls data mem => Sys2Proof.Machine.execMalformedRequest dir addr beats cls data s mem
  | .plainWrite addr ws => Sys2Proof.Machine.execPlainWrite addr ws s
  | .headerWrite slot beat w => Sys2Proof.Machine.execHeaderWrite slot beat w s
  | .openWord slot w => Sys2Proof.Machine.execOpenWord slot w s
  | .commitWord slot w => Sys2Proof.Machine.execCommitWord slot w s
  | .partialCommit slot w => Sys2Proof.Machine.execPartialCommit slot w s
  | .planeWrite addr w => Sys2Proof.Machine.execPlaneWrite addr w s
  | .goWordRead cls slot mem => Sys2Proof.Machine.execGoWordRead cls slot mem s
  | .goWordHoldExpiry => Sys2Proof.Machine.execGoWordHoldExpiry s
  | .planeFetchRead cls addr mems => Sys2Proof.Machine.execPlaneFetchRead cls addr mems s
  | .spitFetchRead beat mem => Sys2Proof.Machine.execSpitFetchRead beat mem s
  | .mailboxBodyWrite beat w => Sys2Proof.Machine.execMailboxBodyWrite beat w s
  | .directiveUnknownKind w => Sys2Proof.Machine.execDirectiveUnknownKind w s
  | .pause w => Sys2Proof.Machine.execPause w s
  | .resume w => Sys2Proof.Machine.execResume w s
  | .cancelSheet w => Sys2Proof.Machine.execCancelSheet w s
  | .cancelAll w => Sys2Proof.Machine.execCancelAll w s
  | .cartridgeInstalled w => Sys2Proof.Machine.execCartridgeInstalled w s
  | .calibratePump w => Sys2Proof.Machine.execCalibratePump w s
  | .rollLoaded w => Sys2Proof.Machine.execRollLoaded w s
  | .rollUnload w => Sys2Proof.Machine.execRollUnload w s
  | .mediaReset w => Sys2Proof.Machine.execMediaReset w s
  | .serviceNow w => Sys2Proof.Machine.execServiceNow w s
  | .serviceReset w => Sys2Proof.Machine.execServiceReset w s
  | .headReplaced w => Sys2Proof.Machine.execHeadReplaced w s
  | .releaseSlot w => Sys2Proof.Machine.execReleaseSlot w s
  | .setMasks w => Sys2Proof.Machine.execSetMasks w s
  | .countersClear w => Sys2Proof.Machine.execCountersClear w s
  | .starved => Sys2Proof.Machine.execStarved s
  | .strokeComplete ch => Sys2Proof.Machine.execStrokeComplete ch s
  | .lowFloatAssert ch how => Sys2Proof.Machine.execLowFloatAssert ch s how
  | .lowFloatDeassert ch how => Sys2Proof.Machine.execLowFloatDeassert ch s how
  | .fullFloatAssert ch how => Sys2Proof.Machine.execFullFloatAssert ch s how
  | .fullFloatDeassert ch how => Sys2Proof.Machine.execFullFloatDeassert ch s how
  | .presenceActive ch how => Sys2Proof.Machine.execPresenceActive ch s how
  | .presenceInactive ch how => Sys2Proof.Machine.execPresenceInactive ch s how
  | .callTimeout => Sys2Proof.Machine.execCallTimeout s
  | .carriageArrives how => Sys2Proof.Machine.execCarriageArrives s how
  | .stationLost how => Sys2Proof.Machine.execStationLost s how
  | .cappedLineActive active how => Sys2Proof.Machine.execCappedLineActive s active how
  | .openLineActive active how => Sys2Proof.Machine.execOpenLineActive s active how
  | .capFault => Sys2Proof.Machine.execCapFault s
  | .wiperHomeActive active how => Sys2Proof.Machine.execWiperHomeActive s active how
  | .wiperFault => Sys2Proof.Machine.execWiperFault s
  | .suctionEnd => Sys2Proof.Machine.execSuctionEnd s
  | .decapExpiry ch => Sys2Proof.Machine.execDecapExpiry ch s
  | .idleTimerExpiry => Sys2Proof.Machine.execIdleTimerExpiry s
  | .feedEncoderPulse => Sys2Proof.Machine.execFeedEncoderPulse s
  | .feedStall => Sys2Proof.Machine.execFeedStall s
  | .cutterHomeActive active how => Sys2Proof.Machine.execCutterHomeActive s active how
  | .cutterFault => Sys2Proof.Machine.execCutterFault s
  | .rollPresentActive r how => Sys2Proof.Machine.execRollPresentActive r s how
  | .rollPresentInactive r how => Sys2Proof.Machine.execRollPresentInactive r s how
  | .rollEndLineActive r active how => Sys2Proof.Machine.execRollEndLineActive r s active how
  | .feedPathClearActive active how => Sys2Proof.Machine.execFeedPathClearActive s active how
  | .platenMediaActive how => Sys2Proof.Machine.execPlatenMediaActive s how
  | .platenMediaInactive how => Sys2Proof.Machine.execPlatenMediaInactive s how
  | .eventBeatRead cls mem => Sys2Proof.Machine.execEventBeatRead cls mem s
  | .retirementBeatRead cls mem => Sys2Proof.Machine.execRetirementBeatRead cls mem s

end Sys2Proof.Machine
end

