-- ==== Sys2Proof/Safety.lean ====
section
/-! DEFINITION. Safety.lean: what the machine must keep at every step, and the words in which the statements about commands are said. -/
namespace Sys2Proof.Machine

/-- A step answers a next state: nothing that comes from outside stops the block. -/
def StepCompletes (s : State) : Prop := ∃ t, step s = .next t

/-- The bounds that the manual gives its lists and counts: 32 event records and a 32-bit overflow count (R188), 64 retirement entries (R36), 8 service
requests (R133), 4 sheet records (R160), 60 windows (R23), a silence count of at most 5,000 ms (R13), six 32-bit counters (R57), the slots' counts that
stop at 15 (R20, R21), 1024 nozzle records a channel (R112). -/
structure Bounded (s : State) : Prop where
  events : s.events.recs.length ≤ 32
  overflow : s.events.overflow ≤ max32
  retired : s.parser.retired.length ≤ 64
  requests : s.svc.queue.length ≤ 8
  sheets : s.media.table.length ≤ 4
  windows : s.windows.length ≤ 60
  silence : s.link.silence ≤ silenceLimit
  counters : ∀ i : CounterId, s.counters.get i ≤ max32
  lateHeaders : ∀ i, (s.slot i).lateHeaders ≤ 15
  faults : ∀ i, (s.slot i).faults ≤ 15
  nozzles : ∀ c, (s.health.get c).nozzles.length = 1024

/-! ### The words of the statements -/

/-- The part stands between two commands with the link UP and no reaction outstanding (log 7). -/
structure Ready (s : State) : Prop where
  up : s.link.state = .up
  agenda : s.agenda = []

/-- No FETCH read is held, waits, stalls or has beats kept back (R3, R9, R10). -/
structure NoReads (s : State) : Prop where
  held : s.link.held = none
  gathered : s.link.gathered = []
  waiting : s.link.waiting = []
  stalled : s.link.stalled = []

/-- The state with the outputs of the command before it cleared (log 6). -/
def State.cleared (s : State) : State := { s with out := { answers := [], forwarded := [] } }

/-- The state after the arrival, in UP, of a write request of one beat that is forwarded to memory (R2, R13). -/
def State.afterWrite (s : State) (addr : Nat) (w : WriteBeat) : State :=
  { s with out := { answers := [], forwarded := [.write addr [w]] }, link := { s.link with silence := 0 } }

/-- The state after the arrival, in UP, of a read request of one beat that is forwarded and answered with `data` (R3, R7, R13). -/
def State.afterRead (s : State) (cls : ReqClass) (addr : Nat) (data : List Byte) : State :=
  { s with out := { answers := [{ cls := cls, addr := addr, data := data }], forwarded := [.read addr 1 cls] },
           link := { s.link with silence := 0 } }

/-- The command's own effect leaves `u`; after it come the reactions of the blocks to it, from some agenda (log 7). What no reaction
changes is stated by `ReactionsKeep`; with an empty agenda none follows. -/
def Effects (c : Instr) (s u : State) : Prop := ∃ a, exec c s = .next (settle settleFuel { u with agenda := a })

/-- The record of a post at the present time; a value larger than its field is entered as the field's largest (R187). -/
def State.record (s : State) (k : EventKind) (subject d1 d2 : Nat) : Event :=
  { kind := k, subject := min subject 0xFFFF, d1 := min d1 max32, d2 := min d2 (2 ^ 48 - 1), time := s.time.ms }

/-- The queue of events after a post at the present time (R187, R188). -/
def State.posted (s : State) (k : EventKind) (subject d1 d2 : Nat) : EventQueue := s.events.enter (s.record k subject d1 d2)

/-- The queue of events has room for `n` records. -/
def State.room (s : State) (n : Nat) : Prop := s.events.recs.length + n ≤ 32

/-- The byte placements of a trigger beat (R179): whole, and not a repeat of the sequence last taken. -/
def State.takesTrigger (s : State) (w : WriteBeat) : Prop := w.isTrigger = true ∧ s.mail.lastTaken ≠ some w.triggerSeq

/-- The mailbox after a directive has been taken and answered (R179, R180). -/
def Mailbox.answered (m : Mailbox) (w : WriteBeat) (kind : Nat) (r : ResultCode) (detail : Nat) : Mailbox :=
  { m with lastTaken := some w.triggerSeq, seq := w.triggerSeq, kind := kind, result := some r, detail := detail % 65536, count := m.count + 1 }

/-- The state after the arrival of a trigger beat and the answer of its directive, but for the directive's own effect. -/
def State.afterDirective (s : State) (w : WriteBeat) (kind : Nat) (r : ResultCode) (detail : Nat) : State :=
  { s.afterWrite (s.spanBase + 0xC0) w with mail := s.mail.answered w kind r detail }

/-- The header checks of a SWATH commit (R26). -/
def HeaderGood (h : List Byte) : Prop :=
  leAt h 8 4 ≤ 1000000 ∧ (sheetEndFlag h = true → (trailingOf h).isSome) ∧ (rollChoicePresent h = true → byteAt h 12 ≤ 2)

/-- No request of the queue meets a new request of a level without the flow flag: none that is QUEUED takes it in by merging or absorbing it, none is opposed
to it, and it absorbs none (R133 steps 1 to 3 and 5). -/
def State.apart (s : State) (level : Level) : Prop :=
  ∀ r ∈ s.svc.queue,
    (r.state = .queued → (r.level = level → r.started = true) ∧ absorbs s.prof.flow.midSheetWipe r.level level false = false ∧
      opposed level ≠ some r.level) ∧
    (r.state ≠ .running → absorbs s.prof.flow.midSheetWipe level r.level r.flow = false)

/-- A beat of 64 bytes shows fields: each, of a byte offset, a length in bytes and a value, holds the value, or the largest of its length where the value is
above it (R198). -/
def Shows (b : List Byte) (fields : List (Nat × Nat × Nat)) : Prop :=
  b.length = 64 ∧ ∀ f ∈ fields, leAt b f.1 f.2.1 = min f.2.2 (256 ^ f.2.1 - 1)

/-- An ink channel with its sensor lines set aside. -/
def InkChan.unlined (k : InkChan) : InkChan := { k with lowFloat := Line.reset, fullFloat := Line.reset, presence := Line.reset }

/-- What the Service Sequencer holds with its sensor lines set aside. -/
def Service.unlined (v : Service) : Service :=
  { v with cappedLine := Line.reset, openLine := Line.reset, wiperLine := Line.reset, carriageLine := Line.reset }

/-- What the Media Controller holds with its sensor lines set aside. -/
def Media.unlined (m : Media) : Media :=
  { m with rollA := { m.rollA with presentLine := Line.reset, endLine := Line.reset },
           rollB := { m.rollB with presentLine := Line.reset, endLine := Line.reset },
           feedPath := Line.reset, platen := Line.reset, cutterHome := Line.reset }

/-- The pin form of the command of a line and a level (log 3). -/
def pinCommand : LineId → Bool → Instr
  | .lowFloat c, b => if b then .lowFloatAssert c .pin else .lowFloatDeassert c .pin
  | .fullFloat c, b => if b then .fullFloatAssert c .pin else .fullFloatDeassert c .pin
  | .presence c, b => if b then .presenceActive c .pin else .presenceInactive c .pin
  | .capped, b => .cappedLineActive b .pin
  | .openLine, b => .openLineActive b .pin
  | .wiperHome, b => .wiperHomeActive b .pin
  | .carriage, b => if b then .carriageArrives .pin else .stationLost .pin
  | .rollPresent r, b => if b then .rollPresentActive r .pin else .rollPresentInactive r .pin
  | .rollEnd r, b => .rollEndLineActive r b .pin
  | .feedPath, b => .feedPathClearActive b .pin
  | .platen, b => if b then .platenMediaActive .pin else .platenMediaInactive .pin
  | .cutterHome, b => .cutterHomeActive b .pin

/-- Some byte of a write beat is enabled. -/
def beatWrites (w : WriteBeat) : Prop := ∃ j < 64, w.en j = true

/-- The command of every directive row with one trigger beat. -/
def directiveCommands (w : WriteBeat) : List Instr :=
  [.directiveUnknownKind w, .pause w, .resume w, .cancelSheet w, .cancelAll w, .cartridgeInstalled w, .calibratePump w, .rollLoaded w, .rollUnload w,
   .mediaReset w, .serviceNow w, .serviceReset w, .headReplaced w, .releaseSlot w, .setMasks w, .countersClear w]

end Sys2Proof.Machine
end

