-- ==== Sys2Proof/Certificates/Slice0/Obligations.lean ====
section
/-! DEFINITION. Certificates/Slice0/Obligations.lean: the statements for the provers, in the words of Safety.lean. -/
open Sys2Proof Sys2Proof.Machine

/-- Model's choice of the block's step (log 1). -/
def Obligations.StepTakesTheFrontCommand : Prop :=
  ∀ (c : Instr) (rest : List Instr) (s : State), step { s with pending := c :: rest } = exec c { s with pending := rest }

/-- A step on an empty queue is a tick: the model's choice (log 1). Then R13, R9, R75, R97, R136, R141 to R143, R146, R149 and R155, each part on its own, R91, R130
and R154 for one sample of a line whose pin has a level, and the frame of a tick in which nothing runs. That a line whose pin is none is left as it is by a sample
is the model's choice (log 4), and the pin form of a line's command is log 3's. -/
def Obligations.EmptyQueueStepIsOneMillisecond : Prop :=
  (∀ s : State, s.pending = [] →
    step s = .next s.tick ∧ s.tick.time.ms = s.time.ms + 1 ∧ s.tick.pending = [] ∧ s.tick.link.straps = s.link.straps) ∧
  (∀ s : State, s.tickLink.link.silence = min 5000 (s.link.silence + 1) ∧
    s.tickLink.link.lostMs = if s.link.state = .lost then s.link.lostMs + 1 else s.link.lostMs) ∧
  (∀ (s : State) (i : SlotIx), s.link.held = some i → s.link.holdMs + 1 < 50 →
    s.tickHold = { s with link := { s.link with holdMs := s.link.holdMs + 1 } }) ∧
  (∀ s : State, s.tickStarve.flow.starveMs = if s.starveCounts then s.flow.starveMs + 1 else s.flow.starveMs) ∧
  (∀ (s : State) (c : Chan) (n : Nat), (s.ink.get c).stroke = some n → n + 1 < 250 → ((s.tickStroke c).ink.get c).stroke = some (n + 1)) ∧
  (∀ s : State, s.svc.station = .calling → s.svc.callRunning = true → s.svc.callMs + 1 < 10000 → s.tickCall.svc.callMs = s.svc.callMs + 1) ∧
  (∀ s : State, s.svc.station = .capping ∨ s.svc.station = .uncapping → s.svc.motorMs + 1 < 2000 → s.tickMotor.svc.motorMs = s.svc.motorMs + 1) ∧
  (∀ s : State, s.svc.station = .wiping → s.svc.motorMs + 1 < 3000 → s.tickMotor.svc.motorMs = s.svc.motorMs + 1) ∧
  (∀ (s : State) (c : Chan) (cs : List Chan), s.svc.station = .suction → s.svc.toSuck = c :: cs → s.svc.motorMs + 1 < (s.chanProf c).suctionTime * 1000 →
    s.tickMotor.svc.motorMs = s.svc.motorMs + 1) ∧
  (∀ (s : State) (c : Chan), s.svc.cap = .opened → (s.svc.decap.get c).expired = false → (s.svc.decap.get c).ms + 1 < (s.chanProf c).decapLimit * 1000 →
    ((s.tickDecap c).svc.decap.get c).ms = (s.svc.decap.get c).ms + 1) ∧
  (∀ s : State, s.idleCounts = true → s.svc.idleMs + 1 < s.prof.flow.idleCap * 1000 → s.tickIdle.svc.idleMs = s.svc.idleMs + 1) ∧
  (∀ (s : State) (o : MediaOp), s.media.op = some o → o.ms + 1 < o.limit → s.tickOp.media.op = some { o with ms := o.ms + 1 }) ∧
  (∀ s : State, s.pending = [] → s.agenda = [] → s.link.state = .up → s.link.silence < 4999 → s.link.held = none → s.starveCounts = false →
    (∀ c, (s.ink.get c).stroke = none) → (s.svc.station = .capped ∨ s.svc.station = .fault) → s.svc.cap = .closed → s.media.op = none → s.time.phase < 9 →
    step s = .next { s with out := { answers := [], forwarded := [] }, time := { ms := s.time.ms + 1, phase := s.time.phase + 1 },
                            link := { s.link with silence := s.link.silence + 1 } }) ∧
  (∀ s : State, s.tick = (let u := runEvents s.cleared tickParts; if u.time.phase = 0 then u.sampleLines else u)) ∧
  (∀ l : Line, l.pin = none → l.sample = l) ∧
  (∀ l : Line, ∀ b, l.pin = some b → LineState.ofLevel b = l.filt → l.sample = { l with run := 0 }) ∧
  (∀ l : Line, ∀ b, l.pin = some b → LineState.ofLevel b ≠ l.filt → (l.run = 0 ∨ l.last ≠ b) → l.sample = { l with run := 1, last := b }) ∧
  (∀ l : Line, ∀ b, l.pin = some b → LineState.ofLevel b ≠ l.filt → l.run = 1 → l.last = b → l.sample = { l with run := 2 }) ∧
  (∀ l : Line, ∀ b, l.pin = some b → LineState.ofLevel b ≠ l.filt → l.run = 2 → l.last = b → l.sample = { l with filt := LineState.ofLevel b, run := 0 }) ∧
  ∀ (s : State) (i : LineId) (b : Bool), s.agenda = [] → exec (pinCommand i b) s = .next (s.cleared.setLine i { s.line i with pin := some b })

/-- R4. -/
def Obligations.StrapsAreSampledAtPowerOnOnly : Prop :=
  (∀ (v : BitVec 4) (s : State), ∃ t, exec (.powerOnReset v) s = .next t ∧ t.link.straps = v ∧ t.spanBase = v.toNat * (256 * 1024 * 1024) ∧
    ∀ a : Nat, (t.spanBase ≤ a ∧ a < t.spanBase + 64 * 1024) → t.classify a = spanClass (a - t.spanBase)) ∧
  (∀ (c : Instr) (s : State), (∀ v, c ≠ .powerOnReset v) → ∃ t, exec c s = .next t ∧ t.link.straps = s.link.straps) ∧
  ∀ s : State, s.tick.link.straps = s.link.straps

/-- The whole next state: `unlined` sets the sensor lines aside, whose kept pin levels are, with the kept queue, the model's choice (log 4). The items that the
manual does not name a value for are those of logs 24 and 7. -/
def Obligations.PowerOnResetValues : Prop :=
  ∀ (v : BitVec 4) (s : State), ∃ t, exec (.powerOnReset v) s = .next t ∧
    (∀ i, t.line i = { filt := .unknown, run := 0, last := false, pin := (s.line i).pin }) ∧
    t.pending = s.pending ∧ t.agenda = [] ∧ t.out = { answers := [], forwarded := [] } ∧ t.time = { ms := 0, phase := 0 } ∧
    t.link = { straps := v, state := .up, silence := 0, lostMs := 0, held := none, holdMs := 0, gathered := [], waiting := [],
               stalled := [] } ∧
    t.counters = { strayFetches := 0, lateWrites := 0, unplaced := 0, overBudget := 0, holdExpiries := 0, fetchOrder := 0 } ∧
    (∀ i, t.slot i = Slot.reset) ∧
    t.parser = { expected := 0, lastAccepted := none, openSheet := none, posted := [], retired := [], retireOverflow := 0 } ∧
    t.windows = [] ∧ t.nextWid = 0 ∧ t.flow = { pause := false, starveMs := 0, starvedPosted := false } ∧
    (∀ c, (t.ink.get c).unlined =
      { level := 0, reserved := 0, servicePart := 0, synced := false, low := true, lowFloat := Line.reset, fullFloat := Line.reset, presence := Line.reset,
        cart := .absent, emptyReason := none, declared := 0, estimate := 0, lot := 0, running := false, phase := .credited, strokes := 0, overrun := 0,
        limit := 0, stroke := none, endAfter := false, cal := .idle, measured := none, measCount := 0, counting := false }) ∧
    (∀ c, t.health.get c = { nozzles := List.replicate 1024 Nozzle.good, stage := .clear, reports := 0, lastReport := none }) ∧
    t.svc.unlined =
      { station := .capped, cap := .closed, resting := .closed, queue := [], steps := [], asking := false, callMs := 0, callRunning := false, motorMs := 0,
        toSuck := [], spit := SpitWork.none, stepEnd := StepEnd.normal, decap := PerChan.of fun _ => { ms := 0, expired := false, stale := false },
        spitOwed := ChanSet.empty, wipeVolume := 0, idleMs := 0, capWantedPosted := false, cappedLine := Line.reset, openLine := Line.reset,
        wiperLine := Line.reset, carriageLine := Line.reset } ∧
    t.media.unlined =
      { rollA := { st := .absent, remaining := none, lowPosted := false, presentLine := Line.reset, endLine := Line.reset },
        rollB := { st := .absent, remaining := none, lowPosted := false, presentLine := Line.reset, endLine := Line.reset },
        table := [], nextSid := 0, op := none, due := none, fault := false, feedPath := Line.reset, platen := Line.reset, cutterHome := Line.reset } ∧
    t.prof =
      { chan := PerChan.of fun _ =>
          { small := 4, medium := 7, large := 12, capacity := 24000, fullMark := 22000, lowMark := 6000, refillStart := 12000, nominal := 50,
            decapLimit := 20, spitPasses := 24, primeVolume := 1200, suctionTime := 8, compensation := true, cleanThreshold := 8 },
        mediaA := { width := 1118, kind := 0, correction := 0, tailLength := 1000, rollLow := 10 },
        mediaB := { width := 1118, kind := 0, correction := 0, tailLength := 1000, rollLow := 10 },
        flow := { starveLimit := 60, starveAction := .wait, release := .auto, idleCap := 120, wipeInterval := 60, midSheetWipe := false, spitPolicy := .any },
        stagedChan := PerChan.of fun _ => none, stagedA := none, stagedB := none, stagedFlow := none, lastExecuted := none, lastRefused := none } ∧
    t.mail = { body := List.replicate 192 0, lastTaken := none, seq := 0, kind := 0, result := none, detail := 0, count := 0 } ∧
    t.events = { recs := [{ kind := .powerUp, subject := 0xFF, d1 := v.toNat, d2 := 0, time := 0 }], overflow := 0, firstLoss := 0, masks := 1, suspend := false }

/-- R1, R2 and R6. The frame is the whole state. Then the first and fourth sentences of R15; LINK_RESTORED is seen where no read waits and the queue has room. -/
def Obligations.RequestsPassAndEndLinkLoss : Prop :=
  (∀ (s : State) (a : Addr) (n : Nat) (cls : ReqClass) (data : List WriteBeat) (mem : List Byte), Ready s →
    exec (.malformedRequest .write a n cls data mem) s =
      .next { s with out := { answers := [], forwarded := [.malformed .write a.toNat n cls data] }, link := { s.link with silence := 0 } }) ∧
  (∀ (s : State) (a : Addr) (n : Nat) (cls : ReqClass) (data : List WriteBeat) (mem : List Byte), Ready s → (cls = .fetch → NoReads s) →
    exec (.malformedRequest .read a n cls data mem) s =
      .next { s with out := { answers := [{ cls := cls, addr := a.toNat, data := mem }], forwarded := [.malformed .read a.toNat n cls data] },
                     link := { s.link with silence := 0 } }) ∧
  (∀ (s : State) (a : Addr) (ws : List WriteBeat), Ready s → ws ≠ [] → (∀ k < ws.length, s.classify (a.toNat + 64 * k) = .plain) →
    exec (.plainWrite a ws) s =
      .next { s with out := { answers := [], forwarded := [.write a.toNat ws] }, link := { s.link with silence := 0 } }) ∧
  (∀ (s : State) (a : Addr) (w0 w1 w2 : WriteBeat), Ready s → a.toNat = s.spanBase →
    exec (.plainWrite a [w0, w1, w2]) s =
      .next { s with out := { answers := [], forwarded := [.write a.toNat [w0, w1, w2]] }, link := { s.link with silence := 0 },
                     mail := { s.mail with body := mergeBeat (mergeBeat (mergeBeat s.mail.body 0 w0) 64 w1) 128 w2 } }) ∧
  ∀ (s : State) (dir : Direction) (a : Addr) (n : Nat) (cls : ReqClass) (data : List WriteBeat) (mem : List Byte), s.link.state = .lost →
    (dir = .read → cls = .fetch → NoReads s) →
    ∃ t, exec (.malformedRequest dir a n cls data mem) s = .next t ∧ t.link.state = .up ∧ t.link.silence = 0 ∧ t.flow.pause = s.flow.pause ∧
      (s.link.waiting = [] → s.link.stalled = [] → s.events.recs.length < 32 →
        { kind := .linkRestored, subject := 0xFF, d1 := min s.link.lostMs max32, d2 := 0, time := s.time.ms } ∈ t.events.recs)

/-- R14, with R99 and R111 for the refill runs and R152 for the station: `u` is the state that the loss itself leaves. The two cases exclude each other and meet at
the activity. -/
def Obligations.SilenceWhileActiveLosesTheLink : Prop :=
  (∀ s : State, s.link.state = .up → s.active = true → NoReads s →
    ∃ t, exec .linkLost s = .next t ∧ t.link.state = .lost ∧ t.link.silence = 5000 ∧ t.flow.pause = true ∧
      (s.events.recs.length < 32 →
        { kind := .linkLost, subject := 0xFF, d1 := s.activity, d2 := 5000, time := s.time.ms } ∈ t.events.recs)) ∧
  (∀ s : State, s.link.state = .up → s.active = true →
    ∃ u, exec .linkLost s = .next (settle settleFuel u) ∧ u.link.state = .lost ∧ u.flow.pause = true ∧
      (∀ c, (u.ink.get c).endAfter = (s.ink.get c).running) ∧
      ((s.svc.station = .capping ∨ s.svc.station = .uncapping ∨ s.svc.station = .wiping ∨ s.svc.station = .suction) → s.svc.stepEnd.outside = false →
        u.svc = { s.svc with stepEnd := { s.svc.stepEnd with returns := true, capAfter := true } }) ∧
      (∀ r rest, s.svc.queue = r :: rest → r.state = .running → (∀ q ∈ rest, q.state ≠ .running) → s.svc.stepEnd.dropFlow = false →
        (s.svc.station = .calling ∨ s.svc.station = .spitting) →
        u.running? = none ∧ u.svc.queue.head? = some { r with state := .queued } ∧ u.svc.asking = false ∧
        u.svc.station = (if s.svc.station = .calling ∧ s.svc.resting = .closed then .capped
          else if s.svc.carriageLine.filt = .active then .capping else .uncapped)) ∧
      (s.svc.station = .uncapped → s.running? = none → s.svc.carriageLine.filt = .active → u.svc.station = .capping ∧ u.svc.stepEnd.outside = true)) ∧
  ∀ s : State, s.agenda = [] → (s.link.state = .lost ∨ s.active = false) → exec .linkLost s = .next s.cleared

/-- R16 and the table of R17, with R83 and R56 for the ink of the swaths, R153 for the station and R176 for the sheets; that a request between two
steps returns at once is the model's reading (log 16). `u` is the state that the reset itself leaves, `t` the state after the reactions to it. A PRIME that the reset returns to the queue has not
ended, so R119 and R125 do nothing to it. -/
def Obligations.LinkResetClearsTheFlowOfWork : Prop :=
  ∀ s : State, ∃ u t, exec .linkReset s = .next t ∧ t = settle settleFuel u ∧
    (let inHand := fun i : SlotIx => (s.slot i).st = .admitted ∨ (s.slot i).st = .firing
     let need := fun c : Chan => (SlotIx.all.map fun i => if inHand i then (s.slot i).need.get c else 0).sum
     let fired := fun c : Chan =>
       (SlotIx.all.map fun i => if (s.slot i).st = .firing then min ((s.slot i).tally.volume.get c) ((s.slot i).need.get c) else 0).sum
     let goesOn := s.svc.station = .capping ∨ s.svc.station = .uncapping ∨ s.svc.station = .wiping ∨ s.svc.station = .suction
     let returns := ¬ goesOn ∧ s.running?.isSome = true
     let spit := fun c : Chan =>
       if returns ∧ s.svc.station = .spitting ∧ s.runningChans.get c = true then
         min (s.svc.spit.counted.get c * (s.chanProf c).large) (s.ink.get c).servicePart
       else 0
     (∀ c, (u.ink.get c).servicePart = (if returns then 0 else (s.ink.get c).servicePart) ∧
       (u.ink.get c).reserved = (s.ink.get c).reserved - need c - (if returns then (s.ink.get c).servicePart else 0) ∧
       (u.ink.get c).level = (s.ink.get c).level - fired c - spit c ∧ (u.svc.decap.get c).stale = (s.svc.decap.get c).stale) ∧
     (∀ i c, (s.slot i).st = .firing → (s.slot i).tally.volume.get c ≠ 0 → (u.svc.decap.get c).ms = 0 ∧ (u.svc.decap.get c).expired = false) ∧
     (goesOn → s.svc.stepEnd.outside = false → u.svc.stepEnd = { s.svc.stepEnd with returns := true, dropFlow := true }) ∧
     (goesOn → u.svc.steps = s.svc.steps ∧ u.svc.asking = s.svc.asking) ∧
     (returns → u.svc.steps = [] ∧ u.svc.asking = false ∧ (∀ q ∈ u.svc.queue, q.state ≠ .running) ∧
       ∀ r, s.running? = some r → r.flow = false → u.svc.queue.head? = some { r with state := .queued }) ∧
     (∀ q ∈ u.svc.queue, q.flow = true → goesOn ∧ q.state = .running) ∧ u.svc.cap = s.svc.cap ∧
     u.svc.station = (if returns ∧ s.svc.station = .spitting then .uncapped
       else if returns ∧ s.svc.station = .calling then (if s.svc.resting = .closed then .capped else .uncapped) else s.svc.station) ∧
     (∀ sid x, s.sheet? sid = some x → x.st ≠ .pending →
       { x with endCommitted := true, retired := x.swaths,
                spoil := if x.st = .done ∨ x.st = .spoiled then x.spoil else some (x.spoil.getD .linkReset) } ∈ u.media.table) ∧
     (∀ sid, (∀ y ∈ s.media.table, y.sid = sid → y.st = .pending) → ∀ y ∈ u.media.table, y.sid ≠ sid) ∧
     u.media.op = s.media.op ∧ u.media.fault = s.media.fault ∧ u.media.rollA = s.media.rollA ∧ u.media.rollB = s.media.rollB ∧
     u.prof = s.prof ∧ u.flow.starveMs = 0) ∧
    (∀ i, u.slot i = Slot.reset) ∧ u.parser.posted = [] ∧ u.parser.retired = [] ∧ u.windows = [] ∧ u.link.held = none ∧ u.link.gathered = [] ∧ u.health = s.health ∧
    t.parser.expected = 0 ∧ t.parser.lastAccepted = none ∧ t.parser.openSheet = none ∧
    (∀ i, (t.slot i).shadow = List.replicate 192 0 ∧ (t.slot i).lateHeaders = 0 ∧ (t.slot i).faults = 0) ∧
    t.link.waiting = [] ∧ t.link.stalled = [] ∧ t.link.state = .up ∧ t.link.silence = 0 ∧
    t.spanBase = s.spanBase ∧ t.flow.pause = s.flow.pause ∧
    t.mail = { s.mail with body := List.replicate 192 0, lastTaken := none } ∧
    t.time = s.time ∧ (∀ i, t.line i = s.line i) ∧ t.events.masks = s.events.masks ∧
    (∀ c, (t.ink.get c).cart = (s.ink.get c).cart ∧ (t.ink.get c).estimate = (s.ink.get c).estimate ∧ (t.ink.get c).synced = (s.ink.get c).synced) ∧
    (s.events.recs.length < 32 →
      { kind := .linkReset, subject := 0xFF, d1 := if s.link.state = .lost then 1 else 0, d2 := min s.parser.posted.length (2 ^ 48 - 1), time := s.time.ms } ∈
        t.events.recs)

/-- R19 and R20. A plane descriptor's bytes are its base and its present byte (log 27). -/
def Obligations.HeaderWriteByState : Prop :=
  ∀ (s : State) (i : SlotIx) (k : Fin 3) (w : WriteBeat), ∃ t, exec (.headerWrite i k w) s = .next t ∧
    let st := (s.cleared.arrived.slot i).st
    (s.link.state = .up → st = (s.slot i).st) ∧
    (∀ b : Nat, (t.slot i).shadow[b]? = (s.slot i).shadow[b]?.map fun old =>
      if 64 * k.val ≤ b ∧ b < 64 * k.val + 64 ∧ w.en (b - 64 * k.val) = true ∧
          (st = .free ∨ st = .opened ∧ geometryByte b = false)
        then w.data.getD (b - 64 * k.val) 0 else old) ∧
    (t.slot i).lateHeaders =
      (if st ≠ .free ∧ ∃ j < 64, w.en j = true ∧ (st = .opened → geometryByte (64 * k.val + j) = true)
        then min 15 ((s.slot i).lateHeaders + 1) else (s.slot i).lateHeaders) ∧
    (∀ j, j ≠ i → (t.slot j).shadow = (s.slot j).shadow ∧ (t.slot j).lateHeaders = (s.slot j).lateHeaders) ∧
    (Ready s → t = { s.afterWrite (s.spanBase + 0x1000 + 256 * i.val + 64 * k.val) w with slots := s.slots.set i (t.slot i) } ∧
      t.slot i = { s.slot i with shadow := (t.slot i).shadow, lateHeaders := (t.slot i).lateHeaders })

/-- The table of R22; the detail 0 where the table gives none is the model's choice (log 30). -/
def Obligations.OpenChecksInOrder : Prop :=
  ∀ (s : State) (h : List Byte),
    let planes := (geometryOf h).present
    let len := leAt h 2 2 * 256
    let fits := fun p : Chan × Nat => p.2 % 64 = 0 ∧ p.2 + len ≤ 2 ^ 40
    let meets := fun (p : Chan × Nat) (b l : Nat) => p.2 < b + l ∧ b < p.2 + len
    let clash := fun p : Chan × Nat =>
      meets p s.spanBase 65536 ∨ (∃ w ∈ s.windows, meets p w.base w.len) ∨ ∃ q ∈ planes, q.1 ≠ p.1 ∧ meets p q.2 len
    (byteAt h 0 ≠ 1 → s.openError h = some (.kind, byteAt h 0)) ∧
    (byteAt h 0 = 1 → leAt h 2 2 = 0 → s.openError h = some (.noColumns, 0)) ∧
    (byteAt h 0 = 1 → leAt h 2 2 ≠ 0 → planes = [] → s.openError h = some (.noPlane, 0)) ∧
    (byteAt h 0 = 1 → leAt h 2 2 ≠ 0 → planes ≠ [] →
      (∀ p, planes.find? (fun q => decide (¬ fits q)) = some p → s.openError h = some (.planeRange, p.1.num)) ∧
      ((∀ p ∈ planes, fits p) →
        (16 ≤ s.countSlots Slot.holdsWindows → s.openError h = some (.swathsFull, 0)) ∧
        (s.countSlots Slot.holdsWindows < 16 → 60 < s.windows.length + planes.length →
          s.openError h = some (.windowsFull, s.windows.length)) ∧
        (s.countSlots Slot.holdsWindows < 16 → s.windows.length + planes.length ≤ 60 →
          (∀ l p r, planes = l ++ p :: r → clash p → (∀ q ∈ l, ¬ clash q) → s.openError h = some (.overlap, p.1.num)) ∧
          ((∀ p ∈ planes, ¬ clash p) → s.openError h = none))))

/-- R22 and R23, each case with the whole state; then R6 and R21 of one beat with both words, `u` being the state after the steps of R28. -/
def Obligations.OpenWordTaken : Prop :=
  (∀ (s : State) (i : SlotIx) (w : WriteBeat), Ready s → w.hasOpen = true → w.touchesWord1 = false →
    let a := s.afterWrite (s.spanBase + 0x1000 + 256 * i.val + 0xC0) w
    let k := s.slot i
    let g := geometryOf k.shadow
    (k.st ≠ .free → exec (.openWord i w) s =
      .next { a with slots := s.slots.set i { k with faults := min 15 (k.faults + 1) },
                     events := s.posted .slotProtocol i.val (1 + 256 * k.st.code) 0 }) ∧
    (∀ r d, k.st = .free → s.openError k.shadow = some (r, d) → exec (.openWord i w) s =
      .next { a with slots := s.slots.set i { k with reason := some r, detail := d } }) ∧
    (k.st = .free → s.openError k.shadow = none → ∃ ws : List Window, exec (.openWord i w) s =
        .next { a with
          windows := s.windows ++ ws, nextWid := s.nextWid + ws.length,
          slots := s.slots.set i
            { k with st := .opened, kind := some .swath, geometry := some g, seq := none, outcome := none, reason := none, detail := 0,
                     lateHeaders := 0, faults := 0, capVolume := PerChan.of fun _ => 0, capUnplaced := 0, capOverBudget := 0,
                     tally := Tally.zero, sheet := none } } ∧
      ws.map (fun x => (x.chan, x.base)) = g.present ∧
      ∀ x ∈ ws, x.slot = i ∧ x.len = g.columns * 256 ∧ x.mark = 0)) ∧
  ∀ (s : State) (i : SlotIx) (w : WriteBeat), Ready s → w.hasOpen = true → w.hasCommit = true → (s.slot i).st = .free →
    s.parser.lastAccepted ≠ some w.commitSeq →
    let a := s.afterWrite (s.spanBase + 0x1000 + 256 * i.val + 0xC0) w
    let k := s.slot i
    let g := geometryOf k.shadow
    (∀ r d, s.openError k.shadow = some (r, d) → byteAt k.shadow 0 = 1 → exec (.openWord i w) s =
      .next { a with slots := s.slots.set i { k with reason := some r, detail := d, faults := min 15 (k.faults + 1) },
                     events := s.posted .slotProtocol i.val 2 w.commitSeq.toNat }) ∧
    (s.openError k.shadow = none → w.commitSeq = s.parser.expected → s.sequenceStands w.commitSeq = false → HeaderGood k.shadow →
      sheetStartFlag k.shadow = true → s.parser.openSheet = none → s.media.table.length < 4 → (∀ v ∈ s.media.table, v.sid < s.media.nextSid) →
      ∃ (u : State) (ws : List Window), exec (.openWord i w) s = .next (settle settleFuel u) ∧
        u.parser.posted = s.parser.posted ++ [i] ∧ u.parser.expected = s.parser.expected + 1 ∧ (u.slot i).st = .posted ∧
        (u.slot i).kind = some .swath ∧ (u.slot i).geometry = some g ∧ (u.slot i).seq = some w.commitSeq ∧ (u.slot i).shadow = k.shadow ∧
        u.windows = s.windows ++ ws ∧ ws.map (fun x => (x.chan, x.base)) = g.present)

/-- The third case of R21, the first and third case of R24. -/
def Obligations.CommitRepeatsAndFaults : Prop :=
  (∀ (s : State) (i : SlotIx) (w : WriteBeat), Ready s → w.hasOpen = false → w.hasCommit = false → w.touchesWord1 = true →
    exec (.partialCommit i w) s =
      .next { s.afterWrite (s.spanBase + 0x1000 + 256 * i.val + 0xC0) w with
        slots := s.slots.set i { s.slot i with faults := min 15 ((s.slot i).faults + 1) },
        events := s.posted .slotProtocol i.val (3 + 256 * (s.slot i).st.code) 0 }) ∧
  ∀ (s : State) (i : SlotIx) (w : WriteBeat), Ready s → w.hasOpen = false → w.hasCommit = true →
    let a := s.afterWrite (s.spanBase + 0x1000 + 256 * i.val + 0xC0) w
    (s.parser.lastAccepted = some w.commitSeq → exec (.commitWord i w) s = .next a) ∧
    (s.parser.lastAccepted ≠ some w.commitSeq →
      ((s.slot i).st = .free ∧ byteAt (s.slot i).shadow 0 = 1 ∨ (s.slot i).st ≠ .free ∧ (s.slot i).st ≠ .opened) →
      exec (.commitWord i w) s =
        .next { a with slots := s.slots.set i { s.slot i with faults := min 15 ((s.slot i).faults + 1) },
                       events := s.posted .slotProtocol i.val (2 + 256 * (s.slot i).st.code) w.commitSeq.toNat })

/-- The first case of R25, with the retirement of R35 and R36. -/
def Obligations.CommitOutOfTurnIsRejected : Prop :=
  ∀ (s : State) (i : SlotIx) (w : WriteBeat), s.link.state = .up → NoReads s → w.hasOpen = false → w.hasCommit = true →
    s.parser.lastAccepted ≠ some w.commitSeq → (s.slot i).takesCommit = true → w.commitSeq ≠ s.parser.expected →
    s.parser.retired.length < 64 → s.events.recs.length < 32 →
    ∃ t, exec (.commitWord i w) s = .next t ∧ t.parser.expected = s.parser.expected ∧ t.parser.lastAccepted = s.parser.lastAccepted ∧
      t.parser.openSheet = s.parser.openSheet ∧
      { seq := some w.commitSeq, slot := i, outcome := .rejected, reason := some .sequence } ∈ t.parser.retired ∧
      ((s.slot i).commitKind = some .swath →
        { kind := .swathRejected, subject := i.val, d1 := 0x30, d2 := w.commitSeq.toNat, time := s.time.ms } ∈ t.events.recs)

/-- R26 and rows 1 to 4 of R27; the detail 0 of SHEET_TABLE_FULL is the model's choice (log 30). -/
def Obligations.CommitInTurnContentChecks : Prop :=
  ∀ (s : State) (i : SlotIx) (w : WriteBeat), s.link.state = .up → NoReads s → w.hasOpen = false → w.hasCommit = true →
    s.parser.lastAccepted ≠ some w.commitSeq → (s.slot i).takesCommit = true → w.commitSeq = s.parser.expected →
    s.sequenceStands w.commitSeq = false → s.parser.retired.length < 64 →
    let h := (s.slot i).shadow
    let swath := (s.slot i).commitKind = some .swath
    let good := HeaderGood h
    let rejected := fun r : Reason => ∃ t, exec (.commitWord i w) s = .next t ∧ t.parser.expected = s.parser.expected + 1 ∧
      t.parser.lastAccepted = some w.commitSeq ∧ t.parser.openSheet = s.parser.openSheet ∧
      { seq := some w.commitSeq, slot := i, outcome := .rejected, reason := some r } ∈ t.parser.retired
    ((s.slot i).commitKind = none → rejected .kind) ∧
    (swath → ¬ good → rejected .header) ∧
    (swath → good → sheetStartFlag h = true → s.parser.openSheet.isSome → rejected .sheetOpen) ∧
    (swath → good → sheetStartFlag h = false → s.parser.openSheet = none → rejected .noSheet) ∧
    (∀ o, swath → good → sheetStartFlag h = false → s.parser.openSheet = some o → leAt h 4 2 ≠ o.number → rejected .sheetNumber) ∧
    (swath → good → sheetStartFlag h = true → s.parser.openSheet = none → 4 ≤ s.media.table.length → s.agenda = [] →
      exec (.commitWord i w) s = .next { s.afterWrite (s.spanBase + 0x1000 + 256 * i.val + 0xC0) w with
        slots := s.slots.set i { s.slot i with reason := some .sheetTableFull, detail := 0 } })

/-- R28: `u` is the state after the eight steps, `t` the state after the reactions to them (R30, R59). Then R30, R31, R33, R34 and R181 of a directive on an empty list,
`u` being the state after its execution, and R182 and R183 of the staging and the quiet point. The detail 0 of a MARK, of a SERVICE that is
DONE and of QUEUE_FULL is the model's choice (log 30), and so is the test of a SERVICE's level before its channel set (log 39). -/
def Obligations.CommitAccepted : Prop :=
  (∀ (s : State) (i : SlotIx) (w : WriteBeat), s.link.state = .up → w.hasOpen = false → w.hasCommit = true →
    s.parser.lastAccepted ≠ some w.commitSeq → (s.slot i).takesCommit = true → w.commitSeq = s.parser.expected →
    s.sequenceStands w.commitSeq = false →
    let h := (s.slot i).shadow
    let k := (s.slot i).commitKind
    let posts := fun f : State → State → Prop => ∃ u t, exec (.commitWord i w) s = .next t ∧ t = settle settleFuel u ∧
      u.parser.posted = s.parser.posted ++ [i] ∧ (u.slot i).st = .posted ∧ (u.slot i).seq = some w.commitSeq ∧ (u.slot i).reason = none ∧
      t.parser.expected = s.parser.expected + 1 ∧ t.parser.lastAccepted = some w.commitSeq ∧ (t.slot i).shadow = h ∧ f u t
    (k ≠ none → k ≠ some .swath → posts fun u t => t.parser.openSheet = s.parser.openSheet ∧ u.media.table = s.media.table ∧
      ((s.slot i).st = .free → (u.slot i).kind = k ∧ (u.slot i).outcome = none ∧ (u.slot i).lateHeaders = 0 ∧ (u.slot i).faults = 0)) ∧
    (k = some .swath → HeaderGood h → sheetStartFlag h = true → s.parser.openSheet = none → s.media.table.length < 4 →
      (∀ v ∈ s.media.table, v.sid < s.media.nextSid) →
      posts fun u t => u.media.table.length = s.media.table.length + 1 ∧
        (∃ v, u.media.table.getLast? = some v ∧ v.number = leAt h 4 2 ∧ v.st = .pending ∧ v.swaths = 1 ∧ v.firstSeq = w.commitSeq ∧
          (u.slot i).sheet = some v.sid) ∧
        (if sheetEndFlag h = true then t.parser.openSheet = none
         else t.parser.openSheet = some { number := leAt h 4 2, sid := s.media.nextSid })) ∧
    ∀ o v, k = some .swath → HeaderGood h → sheetStartFlag h = false → s.parser.openSheet = some o → leAt h 4 2 = o.number →
      s.sheet? o.sid = some v → v.spoil = none →
      posts fun u t => (u.slot i).sheet = some o.sid ∧ u.media.table.length = s.media.table.length ∧
        t.parser.openSheet = if sheetEndFlag h = true then none else some o) ∧
  (∀ (s : State) (i : SlotIx) (w : WriteBeat), Ready s → w.hasOpen = false → w.hasCommit = true → s.parser.lastAccepted ≠ some w.commitSeq →
    (s.slot i).takesCommit = true → w.commitSeq = s.parser.expected → s.parser.posted = [] → s.parser.retired.length < 64 →
    let h := (s.slot i).shadow
    let k := (s.slot i).commitKind
    let runs := fun (o : SlotOutcome) (r : Option Reason) (d : Nat) (f : State → Prop) =>
      ∃ u, exec (.commitWord i w) s = .next (settle (settleFuel - 1) u) ∧ u.parser.posted = [] ∧ (u.slot i).outcome = some o ∧
        (u.slot i).reason = r ∧ (u.slot i).detail = d ∧ f u
    (k = some .mark → runs .done none 0 fun u =>
      u.events = s.posted .markReached w.commitSeq.toNat (leAt h 4 4) (s.countSlots Slot.past)) ∧
    (k = some .service → Level.ofCode? (byteAt h 1) = none → runs .refused (some .field) 1 fun u => u.svc = s.svc) ∧
    (∀ l, k = some .service → Level.ofCode? (byteAt h 1) = some l → (byteAt h 2 = 0 ∨ 31 < byteAt h 2) →
      runs .refused (some .field) 2 fun u => u.svc = s.svc) ∧
    (∀ l, k = some .service → Level.ofCode? (byteAt h 1) = some l → byteAt h 2 ≠ 0 → byteAt h 2 ≤ 31 → s.apart l →
      (s.svc.queue.length < 8 → runs .done none 0 fun u =>
        u.svc.queue = s.svc.queue ++ [{ level := l, chans := ChanSet.ofMask (byteAt h 2), flow := false, started := false, state := .queued }]) ∧
      (s.svc.queue.length = 8 → runs .refused (some .queueFull) 0 fun u => u.svc.queue = s.svc.queue ∧
        u.events = s.posted .serviceQueueFull (ChanSet.ofMask (byteAt h 2)).subject l.code (byteAt h 2))) ∧
    (∀ code, k = some .profile → profileError h = some code → runs .refused (some .field) code fun u =>
      u.prof = { s.prof with lastRefused := some (w.commitSeq, code) }) ∧
    (k = some .profile → profileError h = none → runs .done none (leAt h 2 2) fun u => u.prof.lastExecuted = some w.commitSeq)) ∧
  (∀ (s : State) (c : Chan) (new : ChanProfile),
    let now := { s.chanProf c with decapLimit := new.decapLimit }
    (s.stageChan c new).chanProf c = now ∧ (s.stageChan c new).prof.stagedChan.get c = if new = now then none else some new) ∧
  (∀ (s : State) (new : FlowProfile),
    let now := { s.prof.flow with starveLimit := new.starveLimit, starveAction := new.starveAction, idleCap := new.idleCap, spitPolicy := new.spitPolicy }
    (s.stageFlow new).prof.flow = now ∧ (s.stageFlow new).prof.stagedFlow = if new = now then none else some new) ∧
  (∀ (s : State) (r : Roll) (new : MediaProfile), (s.stageMedia r new false).mediaProf r = s.mediaProf r ∧
    (s.stageMedia r new false).stagedMedia r = if new = s.mediaProf r then none else some { profile := new, declared := false }) ∧
  ∀ s : State,
    ((s.quietPoint = false ∨ s.prof.stagedMask = 0) → s.quietTest = s) ∧
    (s.quietPoint = true → s.prof.stagedMask ≠ 0 →
      (∀ c, s.quietTest.chanProf c = (match s.prof.stagedChan.get c with
        | some p => { p with decapLimit := (s.chanProf c).decapLimit }
        | none => s.chanProf c)) ∧
      (∀ r, s.quietTest.mediaProf r = (match s.stagedMedia r with | some m => m.profile | none => s.mediaProf r)) ∧
      s.quietTest.prof.flow = (match s.prof.stagedFlow with
        | some f => { f with starveLimit := s.prof.flow.starveLimit, starveAction := s.prof.flow.starveAction, idleCap := s.prof.flow.idleCap,
                             spitPolicy := s.prof.flow.spitPolicy }
        | none => s.prof.flow) ∧
      s.quietTest.prof.stagedMask = 0 ∧
      (∀ r ∈ [Reaction.refill, .walk, .sheetStart], r ∈ s.quietTest.agenda) ∧ (s.quietTest.evaluates = true → .evalFront ∈ s.quietTest.agenda) ∧
      (s.room 9 → ∃ d2, { kind := .profileApplied, subject := 0xFF, d1 := s.prof.stagedMask, d2 := d2, time := s.time.ms } ∈ s.quietTest.events.recs))

/-- R36, R37 and the layout of section 11.4. -/
def Obligations.RetirementBeatRemovesTheOldest : Prop :=
  (∀ (s : State) (cls : ReqClass) (mem : List Byte), Ready s → (cls = .fetch → NoReads s) →
    exec (.retirementBeatRead cls mem) s =
      .next { s.afterRead cls (s.spanBase + 0x180) (retirementBeat s.parser.retired.head? s.parser.retireOverflow) with
        parser := { s.parser with retired := s.parser.retired.tail, retireOverflow := 0 } }) ∧
  (∀ (e : RetireEntry) (n : Nat), (∀ q, e.seq = some q → leAt (retirementBeat (some e) n) 0 2 = q.toNat) ∧
    byteAt (retirementBeat (some e) n) 2 = e.slot.val ∧ byteAt (retirementBeat (some e) n) 3 = e.outcome.code ∧
    byteAt (retirementBeat (some e) n) 4 = (e.reason.map Reason.code).getD 0 ∧ leAt (retirementBeat (some e) n) 8 4 = min n max32) ∧
  ∀ n : Nat, byteAt (retirementBeat none n) 2 = 0xFF ∧ leAt (retirementBeat none n) 0 2 = 0 ∧ byteAt (retirementBeat none n) 3 = 0 ∧
    byteAt (retirementBeat none n) 4 = 0 ∧ leAt (retirementBeat none n) 8 4 = min n max32

/-- R39; that the captured kind and geometry, which R39 does not name, are kept is the model's choice (log 35), and the details 0 are log 28's. -/
def Obligations.ReleaseSlotFreesARetiredSlot : Prop :=
  ∀ (s : State) (w : WriteBeat), s.takesTrigger w →
    (∀ i : SlotIx, s.link.state = .up → byteAt s.mail.body 0 = i.val → (s.slot i).st = .retired →
      Effects (.releaseSlot w) s { s.afterDirective w 13 .done 0 with
        slots := s.slots.set i { s.slot i with st := .free, seq := none } }) ∧
    (∀ i : SlotIx, Ready s → byteAt s.mail.body 0 = i.val → (s.slot i).st ≠ .retired →
      exec (.releaseSlot w) s = .next (s.afterDirective w 13 .state (s.slot i).st.code)) ∧
    (Ready s → 63 < byteAt s.mail.body 0 → exec (.releaseSlot w) s = .next (s.afterDirective w 13 .invalid 0))

/-- R36, of the one operation that offers entries. That the list never holds more than 64 is a clause of `EveryStepKeepsTheBounds`. -/
def Obligations.RetirementListHolds64 : Prop :=
  ∀ (s : State) (e : RetireEntry),
    (s.parser.retired.length < 64 → s.enterRetired e = { s with parser := { s.parser with retired := s.parser.retired ++ [e] } }) ∧
    (64 ≤ s.parser.retired.length → s.enterRetired e =
      { s with parser := { s.parser with retireOverflow := s.parser.retireOverflow + 1 },
               events := if s.parser.retireOverflow = 0 then s.posted .retireOverflow e.slot.val ((e.seq.map BitVec.toNat).getD 0) 0 else s.events })

/-- R35, R45 and R56, of the one operation through which every slot retires. That the captured kind stands where the slot becomes FREE, in release
mode AUTO, is the model's choice (log 35). -/
def Obligations.RetirementOfASlot : Prop :=
  ∀ (s : State) (i : SlotIx) (o : SlotOutcome) (r : Option Reason) (d : Nat),
    let t := s.retire i o r d
    i ∉ t.parser.posted ∧ (∀ w ∈ t.windows, w.slot ≠ i) ∧ (∀ w ∈ s.windows, w.slot ≠ i → w ∈ t.windows) ∧
    (t.slot i).outcome = some o ∧ (t.slot i).reason = r ∧ (t.slot i).detail = d ∧ (t.slot i).tally = Tally.zero ∧
    (t.slot i).capVolume = (s.slot i).capVolume ∧ (t.slot i).kind = (s.slot i).kind ∧
    (t.slot i).st = (if s.prof.flow.release = .auto then .free else .retired) ∧
    ∀ j, j ≠ i → t.slot j = s.slot j

/-- R47, with R46's reading of a byte. -/
def Obligations.PlaneWritesCountWhileOpen : Prop :=
  ∀ (s : State) (a : Addr) (w : WriteBeat) (win : Window), Ready s → s.classify a.toNat = .plane win → (s.slot win.slot).st = .opened →
    let old := (s.slot win.slot).tally.written.get win.chan
    let found := fun code : Nat => ((List.range 64).map fun j =>
      if w.en j = true then ((List.range 4).countP fun n => decide (w.byte j / 4 ^ n % 4 = code)) else 0).sum
    let new : Drops := ⟨min (old.small + found 1) max32, min (old.medium + found 2) max32, min (old.large + found 3) max32⟩
    (beatWrites w → exec (.planeWrite a w) s = .next { s.afterWrite a.toNat w with
      slots := s.slots.set win.slot { s.slot win.slot with
        tally := { (s.slot win.slot).tally with written := (s.slot win.slot).tally.written.set win.chan new } } }) ∧
    (¬ beatWrites w → exec (.planeWrite a w) s = .next (s.afterWrite a.toNat w))

/-- R48. -/
def Obligations.LateWrites : Prop :=
  ∀ (s : State) (a : Addr) (w : WriteBeat) (win : Window), s.link.state = .up → NoReads s → s.classify a.toNat = .plane win → beatWrites w →
    s.counters.lateWrites < max32 →
    let k := s.slot win.slot
    ((k.st = .posted ∨ k.st = .held ∨ k.st = .admitted) → s.parser.retired.length < 64 →
      ∃ t, exec (.planeWrite a w) s = .next t ∧ t.counters = { s.counters with lateWrites := s.counters.lateWrites + 1 } ∧
        { seq := k.seq, slot := win.slot, outcome := .rejected, reason := some .lateWrite } ∈ t.parser.retired) ∧
    ((k.st = .firing ∨ k.st = .advancing) → s.agenda = [] →
      exec (.planeWrite a w) s = .next { s.afterWrite a.toNat w with
        counters := { s.counters with lateWrites := s.counters.lateWrites + 1 },
        slots := if k.tally.lateWritePosted = true then s.slots else s.slots.set win.slot { k with tally := { k.tally with lateWritePosted := true } },
        events := if k.tally.lateWritePosted = true then s.events
          else s.posted .lateWrite win.slot.val (win.chan.num + 256 * (a.toNat - win.base)) k.st.code })

/-- R1, R3, R7, R45, R49, R51, R52; the wrap of a counter is R57's own statement. Then the result beat (R180) and the status beats (R109, R127, R151, R177, R185, R193);
that PLANE_FETCH_READ is the row of these reads and what the hold reason of a sheet shows are log 22's, that a RASTER or GENERAL read is answered within its command
is log 5's, the codes of the empty reason log 31's, and the 0 of an absent item to which section 11.5 gives no value log 40's. -/
def Obligations.FetchReadsThatDoNotCount : Prop :=
  (∀ (s : State) (a : Addr) (mem : List Byte), Ready s → NoReads s →
    (s.classify a.toNat = .plain → exec (.planeFetchRead .fetch a [mem]) s = .next (s.afterRead .fetch a.toNat mem)) ∧
    (∀ i k, s.classify a.toNat = .header i k → exec (.planeFetchRead .fetch a [mem]) s = .next (s.afterRead .fetch a.toNat mem)) ∧
    (∀ o b, s.classify a.toNat = .control o → (s.afterRead .fetch a.toNat mem).statusBeat? o = some b →
      exec (.planeFetchRead .fetch a [mem]) s = .next (s.afterRead .fetch a.toNat b)) ∧
    ∀ win : Window, s.classify a.toNat = .plane win → (s.windows.find? fun v => v.wid == win.wid) = some win →
      let k := s.slot win.slot
      let o := a.toNat - win.base
      (k.st ≠ .firing → (k.st = .admitted → k.armed = false) → s.counters.strayFetches < max32 →
        exec (.planeFetchRead .fetch a [mem]) s = .next { s.afterRead .fetch a.toNat zeroBeat with
          counters := { s.counters with strayFetches := s.counters.strayFetches + 1 } }) ∧
      (k.st = .firing → win.mark < o → s.counters.fetchOrder < max32 →
        exec (.planeFetchRead .fetch a [mem]) s = .next { s.afterRead .fetch a.toNat zeroBeat with
          counters := { s.counters with fetchOrder := s.counters.fetchOrder + 1 },
          slots := if k.tally.fetchOrderPosted = true then s.slots else s.slots.set win.slot { k with tally := { k.tally with fetchOrderPosted := true } },
          events := if k.tally.fetchOrderPosted = true then s.events else s.posted .fetchOrder win.slot.val (win.chan.num + 256 * o) win.mark }) ∧
      (k.st = .firing → o < win.mark → ∃ data, exec (.planeFetchRead .fetch a [mem]) s = .next (s.afterRead .fetch a.toNat data))) ∧
  (∀ (s : State) (cls : ReqClass) (a : Addr) (mems : List (List Byte)), Ready s → cls ≠ .fetch →
    (∀ k < mems.length, s.classify (a.toNat + 64 * k) ≠ .event ∧ s.classify (a.toNat + 64 * k) ≠ .retirement ∧
      ∀ i, s.classify (a.toNat + 64 * k) ≠ .exchange i) →
    exec (.planeFetchRead cls a mems) s =
      .next { s with link := { s.link with silence := 0 },
                     out := { forwarded := [.read a.toNat mems.length cls],
                              answers := mems.zipIdx.map fun m =>
                                { cls := cls, addr := a.toNat + 64 * m.2,
                                  data := match s.classify (a.toNat + 64 * m.2) with
                                    | .control o => (({ s with link := { s.link with silence := 0 } }).statusBeat? o).getD m.1
                                    | _ => m.1 } } }) ∧
  let flag := fun (b : Bool) (v : Nat) => if b = true then v else 0
  ∀ s : State,
    (∃ b, s.statusBeat? 0x100 = some b ∧ Shows b
      [(0, 2, s.mail.seq.toNat), (2, 1, s.mail.kind), (3, 1, (s.mail.result.map ResultCode.code).getD 0), (4, 2, s.mail.detail),
       (6, 2, s.mail.count.toNat)]) ∧
    (∃ b, s.statusBeat? 0x1C0 = some b ∧ Shows b
      [(0, 4, s.time.ms.toNat), (4, 1, flag s.flow.pause 1), (5, 1, if s.link.state = .up then 0 else 1), (6, 2, s.link.silence),
       (8, 1, s.svc.station.code), (9, 1, flag s.media.fault 1), (10, 1, s.admittedCount), (11, 1, s.parser.posted.length),
       (12, 1, (s.front?.map Fin.val).getD 0xFF), (13, 1, (s.armedOrFiringSlot.map Fin.val).getD 0xFF), (14, 2, s.parser.expected.toNat),
       (16, 2, (s.parser.lastAccepted.map BitVec.toNat).getD 0xFFFF),
       (18, 1, flag s.parser.lastAccepted.isSome 1 + flag s.events.suspend 2 + flag s.events.attention 4), (19, 1, s.events.masks.toNat), (20, 1, s.events.recs.length),
       (24, 4, s.events.overflow)]) ∧
    (∀ c : Chan, ∃ b, s.statusBeat? (0x200 + 64 * c.num) = some b ∧ Shows b
      [(0, 6, (s.ink.get c).level), (6, 6, (s.ink.get c).reserved), (12, 6, (s.ink.get c).servicePart),
       (18, 1, flag (s.ink.get c).synced 1), (19, 1, flag (s.ink.get c).low 1),
       (20, 1, (s.ink.get c).lowFloat.filt.code), (21, 1, (s.ink.get c).fullFloat.filt.code), (22, 1, (s.ink.get c).presence.filt.code),
       (23, 1, (s.ink.get c).cart.code), (24, 1, ((s.ink.get c).emptyReason.map EmptyReason.code).getD 0), (28, 4, (s.ink.get c).declared),
       (32, 8, (s.ink.get c).estimate), (40, 4, (s.ink.get c).lot.toNat), (44, 1, flag (s.ink.get c).running 1),
       (45, 1, (s.ink.get c).phase.code), (46, 2, (s.ink.get c).strokes), (48, 1, (s.ink.get c).overrun), (49, 1, (s.ink.get c).cal.code),
       (50, 2, (s.ink.get c).measCount), (56, 6, (s.ink.get c).measured.getD 0)]) ∧
    (∀ c : Chan, ∃ b, s.statusBeat? (0x340 + 64 * c.num) = some b ∧ Shows b
      [(0, 2, (s.health.get c).countState .good), (2, 2, (s.health.get c).countState .weak), (4, 2, (s.health.get c).countState .missing),
       (6, 2, (s.health.get c).countState .retired), (8, 2, (s.health.get c).deadCount), (10, 2, (s.health.get c).uncoveredCount),
       (12, 2, (s.health.get c).lowestUncovered), (14, 2, (s.health.get c).pendingCount), (16, 1, (s.health.get c).stage.code),
       (17, 1, flag (s.chanProf c).compensation 1), (18, 1, (s.chanProf c).cleanThreshold), (19, 1, flag (s.health.get c).lastReport.isSome 1), (20, 4, (s.health.get c).reports.toNat),
       (24, 2, ((s.health.get c).lastReport.map BitVec.toNat).getD 0)]) ∧
    (∀ r : Roll, ∃ b, s.statusBeat? (0x480 + 64 * r.num) = some b ∧ Shows b
      [(0, 1, (s.roll r).st.code), (1, 1, flag (s.stagedMedia r).isSome 1), (2, 1, flag (s.roll r).remaining.isSome 1),
       (3, 1, flag (s.roll r).lowPosted 1), (4, 1, (s.roll r).presentLine.filt.code), (5, 1, (s.roll r).endLine.filt.code),
       (8, 6, (s.roll r).remaining.getD 0), (16, 2, (s.mediaProf r).width), (18, 1, (s.mediaProf r).kind), (20, 2, ((s.mediaProf r).correction % 65536).toNat), (22, 2, (s.mediaProf r).tailLength),
       (24, 1, (s.mediaProf r).rollLow)]) ∧
    (s.svc.queue.length ≤ 8 → ∃ b, s.statusBeat? 0x540 = some b ∧ Shows b
      ([(0, 1, s.svc.station.code), (1, 1, if s.svc.cap = .closed then 0 else 1), (2, 1, if s.svc.resting = .closed then 0 else 1),
       (3, 1, s.svc.queue.length), (4, 2, s.svc.callMs), (6, 1, if s.svc.station = .spitting then s.svc.spit.passes else 0),
       (7, 1, if s.svc.station = .spitting then s.svc.spit.mark / 64 else 0), (34, 1, (Chan.all.map fun c => flag (s.svc.decap.get c).stale (2 ^ c.num)).sum),
       (35, 1, s.svc.cappedLine.filt.code + 4 * s.svc.openLine.filt.code + 16 * s.svc.wiperLine.filt.code + 64 * s.svc.carriageLine.filt.code),
       (36, 6, s.svc.wipeVolume), (42, 4, s.svc.idleMs)] ++ Chan.all.map fun c => (24 + 2 * c.num, 2, (s.svc.decap.get c).ms / 10)) ∧
      ∀ j < 8, leAt b (8 + 2 * j) 2 = (match s.svc.queue[j]? with
        | some r => r.level.code + 8 * r.state.code + flag r.flow 32 + flag r.started 64 + 256 * r.chans.mask
        | none => 0)) ∧
    (∃ b, s.statusBeat? 0x580 = some b ∧ Shows b
      [(0, 4, s.time.ms.toNat), (4, 4, s.counters.strayFetches), (8, 4, s.counters.lateWrites), (12, 4, s.counters.unplaced),
       (16, 4, s.counters.overBudget), (20, 4, s.counters.holdExpiries), (24, 4, s.counters.fetchOrder)]) ∧
    (∃ b, s.statusBeat? 0x5C0 = some b ∧ Shows b
      [(0, 1, s.prof.stagedMask), (1, 1, flag s.quietPoint 1), (2, 1, flag s.prof.lastExecuted.isSome 1 + flag s.prof.lastRefused.isSome 2),
       (4, 2, s.prof.flow.starveLimit), (6, 1, if s.prof.flow.starveAction = .wait then 0 else 1), (7, 1, if s.prof.flow.release = .auto then 0 else 1),
       (12, 1, flag s.prof.flow.midSheetWipe 1), (13, 1, if s.prof.flow.spitPolicy = .any then 0 else 1), (8, 2, s.prof.flow.idleCap), (10, 2, s.prof.flow.wipeInterval),
       (16, 2, (s.prof.lastExecuted.map BitVec.toNat).getD 0), (18, 2, (s.prof.lastRefused.map fun r => r.1.toNat).getD 0),
       (20, 2, (s.prof.lastRefused.map Prod.snd).getD 0)]) ∧
    (∃ b, s.statusBeat? 0x500 = some b ∧ (∀ u, s.shownSheet? = some u → Shows b
      ([(0, 1, 1), (1, 1, u.st.code), (2, 1, (u.start.map StartStep.code).getD 0), (3, 1, s.shownHold u), (4, 2, u.number), (6, 2, u.firstSeq.toNat),
        (8, 1, u.choice.code), (9, 1, (u.roll.map Roll.num).getD 0xFF),
        (10, 1, flag u.spoil.isSome 1 + flag u.endCommitted 2 + flag u.inkShort 4 + flag u.expected.isSome 8 + flag u.trailing.isSome 16 +
          flag s.media.fault 32), (11, 1, (u.spoil.map Reason.code).getD 0), (12, 2, u.leading), (14, 2, u.trailing.getD 0), (16, 4, u.expected.getD 0),
        (20, 2, u.swaths), (22, 2, u.retired), (24, 6, u.fed), (44, 1, (Chan.all.map fun c => flag (u.inkEst.get c).isSome (2 ^ c.num)).sum)] ++
       Chan.all.map fun c => (48 + 3 * c.num, 3, (u.inkEst.get c).getD 0 / 1000000))) ∧
      (s.shownSheet? = none → Shows b [(0, 1, 0), (9, 1, 0xFF), (10, 1, flag s.media.fault 32)]) ∧
      Shows b [(30, 1, s.media.feedPath.filt.code + 4 * s.media.platen.filt.code + 16 * s.media.cutterHome.filt.code), (31, 1, s.media.table.length)] ∧
      ∀ o, s.media.op = some o → Shows b [(32, 1, o.kind.code), (33, 1, o.roll.num), (34, 2, o.ms), (36, 4, o.target), (40, 4, o.progress)])

/-- R12, R49, R50, R53, R54, R70, R71; then R55, R72 and R73 of the last beat, `u` being the state before the reactions to it. -/
def Obligations.CountedBeatAdvancesTheMark : Prop :=
  ∀ (s : State) (a : Addr) (mem : List Byte) (win : Window), Ready s → NoReads s →
    s.classify a.toNat = .plane win → (s.windows.find? fun v => v.wid == win.wid) = some win → a.toNat - win.base = win.mark →
    let k := s.slot win.slot
    let c := win.chan
    let p := s.chanProf c
    let codes := if k.cancel.isSome then List.replicate 256 0 else codesOf mem
    let moved := s.stageCompensate c win.mark codes
    let kept := clip p (k.need.get c) (k.tally.volume.get c) moved.1
    let drops := countDrops kept.1
    let tally : Tally :=
      { k.tally with fired := k.tally.fired.set c ((k.tally.fired.get c).add drops),
                     volume := k.tally.volume.set c (k.tally.volume.get c + dropsVolume p drops),
                     unplaced := k.tally.unplaced + moved.2, overBudget := k.tally.overBudget + kept.2,
                     budgetPosted := k.tally.budgetPosted || decide (kept.2 ≠ 0) }
    let windows := s.windows.map (fun v => if v.wid = win.wid then { v with mark := v.mark + 64 } else v)
    let last := ∀ v ∈ windows, v.slot = win.slot → v.mark = v.len
    (k.st = .firing ∨ k.st = .admitted ∧ k.armed = true) → s.counters.unplaced + moved.2 ≤ max32 → s.counters.overBudget + kept.2 ≤ max32 →
    (¬ last → exec (.planeFetchRead .fetch a [mem]) s =
      .next { s.afterRead .fetch a.toNat (bytesOf kept.1) with
        slots := s.slots.set win.slot { k with st := .firing, armed := if k.st = .firing then k.armed else false, tally := tally }, windows := windows,
        counters := { s.counters with unplaced := s.counters.unplaced + moved.2, overBudget := s.counters.overBudget + kept.2 },
        events := if kept.2 ≠ 0 ∧ k.tally.budgetPosted = false then s.posted .budgetExceeded win.slot.val c.num (k.need.get c) else s.events }) ∧
    (k.cancel.isSome → bytesOf kept.1 = zeroBeat ∧ kept.2 = 0 ∧ moved.2 = 0 ∧ drops = Drops.none) ∧
    (last → s.parser.retired.length < 64 →
      let ends := fun (o : SlotOutcome) (r : Option Reason) (u : State) =>
        (u.slot win.slot).outcome = some o ∧ (u.slot win.slot).reason = r ∧ win.slot ∉ u.parser.posted ∧ (∀ v ∈ u.windows, v.slot ≠ win.slot) ∧
        { seq := k.seq, slot := win.slot, outcome := o, reason := r } ∈ u.parser.retired
      ∃ u data, exec (.planeFetchRead .fetch a [mem]) s = .next (settle settleFuel u) ∧
        u.out.answers = [{ cls := .fetch, addr := a.toNat, data := data }] ∧ data = bytesOf kept.1 ∧
        (u.slot win.slot).capVolume = tally.volume ∧ (u.slot win.slot).capUnplaced = tally.unplaced ∧
        (u.slot win.slot).capOverBudget = tally.overBudget ∧ (∀ d, (u.slot win.slot).need.get d = 0) ∧
        (∀ d, (u.ink.get d).reserved = (s.ink.get d).reserved - k.need.get d ∧
          (u.ink.get d).level = (s.ink.get d).level - min (tally.volume.get d) (k.need.get d)) ∧
        (∀ r, k.cancel = some r → ends .cancelled (some r) u) ∧
        (k.cancel = none → (sheetEndFlag k.shadow = true ∨ leAt k.shadow 8 4 = 0) → ends .printed none u) ∧
        (k.cancel = none → sheetEndFlag k.shadow = false → leAt k.shadow 8 4 ≠ 0 → (u.slot win.slot).st = .advancing ∧
          ∀ v, s.sheetOfSlot win.slot = some v → s.opMayStart = true → ∃ o, u.media.op = some o ∧ o.kind = .advance ∧ o.sheet = some v.sid ∧
            o.slot = some win.slot ∧ o.dist = leAt k.shadow 8 4 ∧ o.progress = 0 ∧
            o.target = feedTarget (leAt k.shadow 8 4) (s.mediaProf (v.roll.getD .a)).correction))

/-- R53. -/
def Obligations.ClippingKeepsWithinTheNeed : Prop :=
  ∀ (p : ChanProfile) (need used : Nat) (codes : List Nat), used ≤ need →
    let kept := (clip p need used codes).1
    kept.length = codes.length ∧
    used + (kept.map (dropVolume p)).sum ≤ need ∧
    (∀ (j : Nat) (h : j < codes.length) (g : j < kept.length),
      kept[j] = if used + ((kept.take j).map (dropVolume p)).sum + dropVolume p codes[j] ≤ need then codes[j] else 0) ∧
    (clip p need used codes).2 = (codes.zip kept).countP fun x => decide (x.1 ≠ 0 ∧ x.2 = 0)

/-- The second paragraph of R57, of the one operation through which every part-wide counter is incremented. -/
def Obligations.CountersWrapPast32Bits : Prop :=
  ∀ (s : State) (i : CounterId) (n : Nat),
    (s.counters.get i + n ≤ 4294967295 → s.count i n = { s with counters := s.counters.set i (s.counters.get i + n) }) ∧
    (4294967295 < s.counters.get i + n → s.count i n =
      { s with counters := s.counters.set i ((s.counters.get i + n) % 4294967296),
               events := s.posted .counterWrap i.num ((s.counters.get i + n) % 4294967296) 0 })

/-- R58. -/
def Obligations.CountersClear : Prop :=
  ∀ (s : State) (w : WriteBeat), s.takesTrigger w →
    (∃ u t, exec (.countersClear w) s = .next t ∧ t = settle settleFuel u ∧ u.counters = ⟨0, 0, 0, 0, 0, 0⟩ ∧ (s.link.state = .up → u.slots = s.slots) ∧
      t.mail = s.mail.answered w 15 .done 0 ∧ (s.link.waiting = [] → s.link.stalled = [] → t.counters = ⟨0, 0, 0, 0, 0, 0⟩)) ∧
    (Ready s → exec (.countersClear w) s = .next { s.afterDirective w 15 .done 0 with counters := ⟨0, 0, 0, 0, 0, 0⟩ })

/-- R9 and R69, and of R3 that a response returns when it is complete. -/
def Obligations.GoWordReads : Prop :=
  (∀ (s : State) (i : SlotIx) (mem : List Byte), Ready s →
    let addr := s.spanBase + 0x1000 + 256 * i.val + 0xC0
    (∀ cls, cls ≠ .fetch → exec (.goWordRead cls i mem) s = .next (s.afterRead cls addr (s.exchangeBeat i))) ∧
    (NoReads s → s.disposition i ≠ .wait → exec (.goWordRead .fetch i mem) s = .next { s.afterRead .fetch addr (s.exchangeBeat i) with
      slots := if s.disposition i = .print ∧ (s.slot i).st = .admitted then s.slots.set i { s.slot i with armed := true } else s.slots }) ∧
    (NoReads s → s.disposition i = .wait → exec (.goWordRead .fetch i mem) s =
      .next { s with out := { answers := [], forwarded := [.read addr 1 .fetch] },
                     link := { s.link with silence := 0, held := some i, holdMs := 0 } })) ∧
  (∀ (s : State) (a : Addr) (i : SlotIx) (m n : List Byte), Ready s → NoReads s → s.classify a.toNat = .header i 2 → s.disposition i = .wait →
    exec (.planeFetchRead .fetch a [m, n]) s =
      .next { s with out := { answers := [], forwarded := [.read a.toNat 2 .fetch] },
                     link := { s.link with silence := 0, held := some i, holdMs := 0, gathered := [{ cls := .fetch, addr := a.toNat, data := m }] } }) ∧
  (∀ (s : State) (i : SlotIx), s.agenda = [] → s.link.held = some i → s.link.waiting = [] → s.link.stalled = [] → s.disposition i = .wait →
    s.counters.holdExpiries < max32 →
    exec .goWordHoldExpiry s =
      .next { s with out := { answers := s.link.gathered ++ [{ cls := .fetch, addr := s.spanBase + 0x1000 + 256 * i.val + 0xC0, data := s.exchangeBeat i }],
                              forwarded := [] },
                     link := { s.link with held := none, holdMs := 0, gathered := [] },
                     counters := { s.counters with holdExpiries := s.counters.holdExpiries + 1 } }) ∧
  ∀ s : State, s.agenda = [] → s.link.held = none → exec .goWordHoldExpiry s = .next s.cleared

/-- The table of R65 with R66 and R67; then R40 with the layout of section 11.4 and R198. That an absent committed sequence reads 0 in a slot that is
no swath slot is the model's choice (log 40). -/
def Obligations.GoWordDisposition : Prop :=
  ∀ (s : State) (i : SlotIx),
    let k := s.slot i
    let isNext := s.nextSwath? = some i
    let prints := s.flow.pause = false ∧ s.media.op = none ∧ s.svc.station = .uncapped ∧ ∃ t, s.sheetOfSlot i = some t ∧ t.st = .printing
    ((k.st = .free ∨ k.st = .opened ∨ k.st = .advancing) → s.disposition i = .wait) ∧
    ((k.st = .posted ∨ k.st = .held) → (isNext ∧ s.svc.asking = true → s.disposition i = .service) ∧
      (¬ (isNext ∧ s.svc.asking = true) → s.disposition i = .wait)) ∧
    (k.st = .posted → k.kind ≠ some .swath → s.disposition i = .wait) ∧
    (k.st = .admitted → k.armed = true → s.disposition i = .print) ∧
    (k.st = .firing → s.disposition i = .print) ∧
    (k.st = .admitted → k.armed = false →
      (¬ isNext → s.disposition i = .wait) ∧
      (isNext → s.svc.asking = true → s.disposition i = .service) ∧
      (isNext → s.svc.asking = false → prints → s.disposition i = .print) ∧
      (isNext → s.svc.asking = false → ¬ prints → s.disposition i = .wait)) ∧
    (k.st = .retired → (k.outcome = some .skipped ∨ k.outcome = some .cancelled ∨ k.outcome = some .rejected) → s.disposition i = .skip) ∧
    (k.st = .retired → (k.outcome = some .printed ∨ k.outcome = some .done ∨ k.outcome = some .refused) → s.disposition i = .wait) ∧
    byteAt (s.exchangeBeat i) 0 = (match s.disposition i with | .wait => 0 | .print => 1 | .service => 2 | .skip => 3) ∧
    Shows (s.exchangeBeat i)
      ([(1, 1, if s.disposition i = .service then s.calledPasses else 0), (8, 1, k.st.code + 16 * (k.outcome.map SlotOutcome.code).getD 0),
        (9, 1, (k.kind.map SlotKind.code).getD 0), (10, 1, (k.reason.map Reason.code).getD 0), (11, 1, k.lateHeaders + 16 * k.faults),
        (12, 2, (k.seq.map BitVec.toNat).getD 0), (14, 2, k.detail)] ++
       (Chan.all.map fun c => (16 + 8 * c.num, 6, k.capVolume.get c)) ++ [(56, 4, k.capUnplaced), (60, 4, k.capOverBudget)])

/-- R60 (but for the cap), R61 conditions 1, 3 and 5, R64, R86. -/
def Obligations.FrontIsHeldOrAdmitted : Prop :=
  ∀ (s : State) (i : SlotIx), s.admittedCount < 2 → s.front? = some i → (s.slot i).kind = some .swath →
    let k := s.slot i
    let need := fun c => (k.tally.written.get c).small * (s.chanProf c).small + (k.tally.written.get c).medium * (s.chanProf c).medium +
      (k.tally.written.get c).large * (s.chanProf c).large
    let inSet := fun c => ¬ ((k.tally.written.get c).small = 0 ∧ (k.tally.written.get c).medium = 0 ∧ (k.tally.written.get c).large = 0)
    let fits := fun c => need c = 0 ∨ (s.ink.get c).reserved + need c + 500000000 ≤ (s.ink.get c).level
    let first := fun (p : Chan → Prop) (c : Chan) => p c ∧ ∀ d : Chan, d.num < c.num → ¬ p d
    (∀ c, need c ≤ 2000000000) →
    (s.flow.pause = true → (s.evaluate.slot i).st = .held ∧ (s.evaluate.slot i).reason = some .pause) ∧
    ∀ t, s.flow.pause = false → s.sheetOfSlot i = some t → t.st = .printing →
      (∀ c, first (fun d => inSet d ∧ (s.ink.get d).synced = false) c →
        (s.evaluate.slot i).st = .held ∧ (s.evaluate.slot i).reason = some .sync ∧ (s.evaluate.slot i).detail = c.num) ∧
      ((∀ c, inSet c → (s.ink.get c).synced = true ∧ (s.svc.decap.get c).stale = false) → s.svc.station ≠ .fault →
        (∀ c, first (fun d => ¬ fits d) c → (s.evaluate.slot i).st = .held ∧ (s.evaluate.slot i).reason = some .ink ∧
          (s.evaluate.slot i).detail = c.num ∧ s.evaluate.ink = s.ink) ∧
        ((∀ c, fits c) → (s.evaluate.slot i).st = .admitted ∧ ∀ c, (s.evaluate.slot i).need.get c = need c ∧
          (s.evaluate.ink.get c).reserved = (s.ink.get c).reserved + need c ∧ (s.evaluate.ink.get c).level = (s.ink.get c).level))

/-- R77 and R78: the flag, the results and the timer; `u` is the directive's own effect before the reactions to it. -/
def Obligations.PauseAndResume : Prop :=
  ∀ (s : State) (w : WriteBeat), s.takesTrigger w →
    (∃ t, exec (.pause w) s = .next t ∧ t.flow.pause = true ∧ t.mail = s.mail.answered w 1 .done (if s.flow.pause = true then 1 else 0)) ∧
    (∃ u t, exec (.resume w) s = .next t ∧ t = settle settleFuel u ∧ t.flow.pause = false ∧
      t.mail = s.mail.answered w 2 .done (if s.flow.pause = true then 1 else 0) ∧ (s.flow.pause = true → u.flow.starveMs = 0)) ∧
    (Ready s → s.flow.pause = true → exec (.pause w) s = .next (s.afterDirective w 1 .done 1)) ∧
    (Ready s → s.flow.pause = false → exec (.resume w) s = .next (s.afterDirective w 2 .done 0))

/-- R80; the detail 0 of the refusal is the model's choice (log 28). -/
def Obligations.CancelSheetSpoilsTheCurrentSheet : Prop :=
  ∀ (s : State) (w : WriteBeat), s.takesTrigger w →
    let ended := fun v : Sheet => v.st = .done ∨ v.st = .spoiled ∨ v.spoil.isSome
    (∀ v before after, s.link.state = .up → s.media.table = before ++ v :: after → (∀ x ∈ before, ended x) → ¬ ended v →
      (∀ x ∈ before, x.sid ≠ v.sid) →
      ∃ t, exec (.cancelSheet w) s = .next t ∧ t.mail = s.mail.answered w 3 .done v.number ∧
        (∀ x ∈ t.media.table, x.sid = v.sid → x.spoil.isSome) ∧ t.parser.expected = s.parser.expected ∧
        t.parser.lastAccepted = s.parser.lastAccepted ∧ t.parser.openSheet = s.parser.openSheet) ∧
    (Ready s → (∀ x ∈ s.media.table, ended x) → exec (.cancelSheet w) s = .next (s.afterDirective w 3 .state 0))

/-- R81: `u` is the state the directive itself leaves, `t` the state after the reactions to it. -/
def Obligations.CancelAllRetiresWhatWaits : Prop :=
  ∀ (s : State) (w : WriteBeat), s.takesTrigger w → s.link.state = .up →
    let open3 := fun k : Slot => k.st = .posted ∨ k.st = .held ∨ k.st = .admitted
    ∃ u t, exec (.cancelAll w) s = .next t ∧ t = settle settleFuel u ∧
      t.mail = s.mail.answered w 4 .done ((s.parser.posted.countP fun i => (s.slot i).waits || (s.slot i).st == .admitted)) ∧
      (∀ i ∈ u.parser.posted, i ∈ s.parser.posted ∧ ¬ open3 (u.slot i)) ∧ (∀ i, (u.slot i).st = .firing → (u.slot i).cancel.isSome) ∧
      (∀ x ∈ t.media.table, x.st ≠ .pending) ∧ t.parser.expected = s.parser.expected ∧ t.parser.lastAccepted = s.parser.lastAccepted ∧
      t.parser.openSheet = s.parser.openSheet ∧ ∀ i, (t.slot i).shadow = (s.slot i).shadow

/-- R76. -/
def Obligations.StarvedAction : Prop :=
  ∀ s : State,
    (∀ i v, s.front? = some i → s.printing? = some v → (s.slot i).st = .held → (s.slot i).reason = some .ink → (s.slot i).sheet = some v.sid →
      s.starveCounts = true →
      let ms := max s.flow.starveMs (s.prof.flow.starveLimit * 1000)
      let e := if s.flow.starvedPosted = true then s.events else s.posted .starved i.val (s.slot i).detail ms
      (s.agenda = [] → s.prof.flow.starveAction = .wait → exec .starved s =
        .next { s.cleared with flow := { s.flow with starveMs := ms, starvedPosted := true }, events := e }) ∧
      (s.prof.flow.starveAction = .spoil → s.sheet? v.sid = some v → v.spoil = none → ∃ t, exec .starved s = .next t ∧
        (NoReads s → e.recs <+: t.events.recs) ∧ ∀ x ∈ t.media.table, x.sid = v.sid → x.spoil.isSome)) ∧
    (s.agenda = [] → s.inkHeld? = none → exec .starved s = .next s.cleared)

/-- The tests, the grant and the refusal of R86; R87 and R88. -/
def Obligations.ReservationDebitAndRelease : Prop :=
  (∀ (s : State) (service : Bool) (vols : PerChan Nat),
    let passes := fun c => vols.get c = 0 ∨ (s.ink.get c).synced = true ∧ (s.ink.get c).reserved + vols.get c + 500000000 ≤ (s.ink.get c).level ∧
      (service = true → (s.ink.get c).servicePart = 0 ∧ vols.get c ≤ 2000000000)
    ((∀ c, passes c) → (s.reserve service vols).1 = none ∧
      ∀ c, ((s.reserve service vols).2.ink.get c) = { s.ink.get c with
        reserved := (s.ink.get c).reserved + vols.get c,
        servicePart := if service = true then (s.ink.get c).servicePart + vols.get c else (s.ink.get c).servicePart }) ∧
    ∀ c, ¬ passes c → (∀ d : Chan, d.num < c.num → passes d) → s.reserve service vols = (some c, s)) ∧
  (∀ (k : InkChan) (service : Bool) (used ended : Nat),
    debitChan k service used ended = { k with
      reserved := k.reserved - ended, level := k.level - (if used ≤ ended then used else ended),
      servicePart := if service = true then k.servicePart - ended else k.servicePart }) ∧
  ∀ (s : State) (vols : PerChan Nat) (c : Chan),
    (s.releaseNeed vols).ink.get c = { s.ink.get c with reserved := (s.ink.get c).reserved - vols.get c }

/-- R90. -/
def Obligations.LowFlagAndLowEvent : Prop :=
  ∀ (s : State) (c : Chan),
    let k := s.ink.get c
    let low := decide (k.level ≤ (s.chanProf c).lowMark * 1000000)
    s.evalLow c = { s with
      ink := s.ink.set c { k with low := low },
      events := if low = true ∧ k.low = false ∧ k.synced = true then s.posted .low c.num 0 k.level else s.events }

/-- R91, R92, R93 and the count of R106. That LOW is posted at a deassertion is the model's choice (log 19). A line's record after a command that names its change is log 3's. -/
def Obligations.LowFloatChanges : Prop :=
  ∀ (s : State) (c : Chan),
    let k := s.ink.get c
    let mark := (s.chanProf c).lowMark * 1000000
    let measuring := k.running = true ∧ k.phase = .measuring
    let low := fun e : EventQueue => if k.synced = true ∧ k.low = false then e.enter (s.record .low c.num 0 mark) else e
    (k.lowFloat.filt = .inactive → Effects (.lowFloatAssert c) s { s.cleared with
      ink := s.ink.set c { k with
        lowFloat := Line.take true, level := mark, low := true,
        measCount := if measuring then 0 else k.measCount, counting := if measuring then false else k.counting },
      events := low (if k.synced = true then s.posted .resync c.num (k.level / 1000000) mark else s.events) }) ∧
    (k.lowFloat.filt = .active → Effects (.lowFloatDeassert c) s { s.cleared with
      ink := s.ink.set c { k with
        lowFloat := Line.take false, level := mark, low := true,
        measCount := if measuring then 0 else k.measCount, counting := if measuring then true else k.counting,
        limit := if measuring then (s.chanProf c).capacity * 1000000 / ((s.chanProf c).nominal * 1000000) + 10 else k.limit },
      events := low s.events }) ∧
    (s.agenda = [] → k.lowFloat.filt ≠ .inactive → exec (.lowFloatAssert c) s =
      .next { s.cleared with ink := s.ink.set c { k with lowFloat := Line.take true } }) ∧
    (s.agenda = [] → k.lowFloat.filt ≠ .active → exec (.lowFloatDeassert c) s =
      .next { s.cleared with ink := s.ink.set c { k with lowFloat := Line.take false } })

/-- R91, R94, R95, R99 (first row), R107. -/
def Obligations.FullFloatChanges : Prop :=
  ∀ (s : State) (c : Chan),
    let k := s.ink.get c
    let full := (s.chanProf c).fullMark * 1000000
    let nominal := (s.chanProf c).nominal * 1000000
    let n := k.measCount + (if k.stroke.isSome then 1 else 0)
    let m := ((s.chanProf c).fullMark - (s.chanProf c).lowMark) * 1000000 / n
    (k.fullFloat.filt ≠ .active → ∃ u t, exec (.fullFloatAssert c) s = .next t ∧ t = settle settleFuel u ∧
      (t.ink.get c).synced = true ∧ (t.ink.get c).fullFloat = Line.take true ∧ (t.ink.get c).estimate = k.estimate ∧
      (u.ink.get c).level = full ∧ (u.ink.get c).running = false ∧ (k.running = true → (u.ink.get c).stroke = none) ∧
      (u.ink.get c).reserved = k.reserved ∧ (∀ d, d ≠ c → u.ink.get d = s.ink.get d) ∧
      u.slots = s.slots ∧ u.svc = s.svc ∧ u.media = s.media ∧ u.health = s.health ∧ u.parser = s.parser ∧
      (s.room 1 → (if k.synced = true then s.record .resync c.num (k.level / 1000000) full else s.record .synced c.num 0 full) ∈ u.events.recs) ∧
      (k.running = true → k.phase = .measuring → k.counting = true →
        (75 * nominal ≤ 100 * m → 100 * m ≤ 125 * nominal → (u.ink.get c).cal = .done ∧ (u.ink.get c).measured = some m) ∧
        (¬ (75 * nominal ≤ 100 * m ∧ 100 * m ≤ 125 * nominal) → (u.ink.get c).cal = .bad ∧ (u.ink.get c).measured = none))) ∧
    (k.fullFloat.filt ≠ .inactive → Effects (.fullFloatDeassert c) s { s.cleared with ink := s.ink.set c { k with fullFloat := Line.take false } })

/-- R101. -/
def Obligations.PresenceLineChanges : Prop :=
  ∀ (s : State) (c : Chan),
    let k := s.ink.get c
    (k.presence.filt ≠ .active → k.cart = .absent → ∃ t, exec (.presenceActive c) s = .next t ∧ (t.ink.get c).cart = .present ∧
      (t.ink.get c).estimate = k.estimate ∧ (t.ink.get c).synced = k.synced ∧ (∀ d, d ≠ c → (t.ink.get d).cart = (s.ink.get d).cart) ∧
      (NoReads s → s.room 1 → s.record .cartridgePresent c.num 0 0 ∈ t.events.recs)) ∧
    (k.presence.filt ≠ .inactive → k.cart ≠ .absent → ∃ u t, exec (.presenceInactive c) s = .next t ∧ t = settle settleFuel u ∧
      (t.ink.get c).cart = .absent ∧ (t.ink.get c).estimate = k.estimate ∧ (t.ink.get c).synced = k.synced ∧
      (u.ink.get c).level = k.level ∧ (u.ink.get c).reserved = k.reserved ∧ (u.ink.get c).running = false ∧
      (∀ d, d ≠ c → u.ink.get d = s.ink.get d) ∧
      (s.room 1 → s.record .cartridgeRemoved c.num (match k.cart with | .absent => 0 | .present => 1 | .active => 2 | .empty => 3) k.estimate ∈ u.events.recs)) ∧
    (s.agenda = [] → k.presence.filt = .unknown → k.cart = .absent → exec (.presenceInactive c) s =
      .next { s.cleared with ink := s.ink.set c { k with presence := Line.take false } })

/-- R97, R98, R102, R106; that the stop test applies again to a MEASURING run whose count was set back is the model's choice (log 32), and
so is the phase OVERRUN that such a run keeps where it ends with this stroke (log 42). `u` is the stroke's own effect. A count past 65,535 is a free value (log 11) and is shut out by the bound on the strokes alone. -/
def Obligations.StrokeCompletes : Prop :=
  ∀ (s : State) (c : Chan),
    let k := s.ink.get c
    let p := s.chanProf c
    let v := if k.cal = .done ∧ k.measured.isSome then k.measured.getD 0 else p.nominal * 1000000
    let lvl := min (k.level + v) (p.capacity * 1000000)
    let dry := fun u : State => (u.ink.get c).emptyReason = some .dry ∧ (u.ink.get c).running = false
    (k.running = true → k.stroke.isSome → ∃ u t, exec (.strokeComplete c) s = .next t ∧ t = settle settleFuel u ∧
      (t.ink.get c).estimate = k.estimate - v ∧ (u.ink.get c).reserved = k.reserved ∧ (∀ d, d ≠ c → u.ink.get d = s.ink.get d) ∧
      (k.strokes < 65535 → (u.ink.get c).strokes = k.strokes + 1) ∧
      (k.phase = .credited → (u.ink.get c).level = lvl) ∧
      ((k.phase = .overrun ∨ k.phase = .uncredited) → (u.ink.get c).level = k.level) ∧
      (k.estimate ≤ v → (t.ink.get c).cart = .empty ∧ (t.ink.get c).emptyReason = some .estimate ∧ (u.ink.get c).running = false) ∧
      (k.phase = .measuring → (u.ink.get c).level = if k.synced = true then lvl else k.level) ∧
      (v < k.estimate → k.phase = .credited → (t.ink.get c).cart = k.cart ∧
        (u.ink.get c).overrun = (if p.fullMark * 1000000 ≤ lvl then 0 else k.overrun) ∧
        (k.endAfter = false → (u.ink.get c).running = true ∧ (u.ink.get c).stroke = some 0 ∧
          (u.ink.get c).phase = if p.fullMark * 1000000 ≤ lvl then .overrun else .credited)) ∧
      (v < k.estimate → k.phase = .overrun → (t.ink.get c).cart = (if 10 ≤ k.overrun + 1 then .empty else k.cart) ∧
        (u.ink.get c).overrun = k.overrun + 1 ∧ (10 ≤ k.overrun + 1 → dry u)) ∧
      (v < k.estimate → k.phase = .uncredited → k.strokes < 65535 →
        (t.ink.get c).cart = (if k.limit ≤ k.strokes + 1 then .empty else k.cart) ∧ (k.limit ≤ k.strokes + 1 → dry u)) ∧
      (v < k.estimate → k.phase = .measuring → k.counting = true → k.measCount < 65535 →
        (t.ink.get c).cart = (if k.limit ≤ k.measCount + 1 then .empty else k.cart) ∧ (k.limit ≤ k.measCount + 1 → dry u) ∧
        (k.measCount + 1 < k.limit → k.endAfter = false → (u.ink.get c).phase = .measuring ∧ (u.ink.get c).measCount = k.measCount + 1)) ∧
      (v < k.estimate → k.phase = .measuring → k.counting = false → (t.ink.get c).cart = k.cart ∧
        (k.synced = true → p.fullMark * 1000000 ≤ lvl → (u.ink.get c).phase = .overrun ∧ (u.ink.get c).overrun = 0 ∧
          (k.cal = .measuring → (u.ink.get c).cal = .armed)) ∧
        ((k.synced = false ∨ lvl < p.fullMark * 1000000) → k.endAfter = false → (u.ink.get c).phase = .measuring ∧
          (u.ink.get c).measCount = k.measCount))) ∧
    (s.agenda = [] → (k.running = false ∨ k.stroke = none) → exec (.strokeComplete c) s = .next s.cleared)

/-- The table of R103. -/
def Obligations.CartridgeInstalled : Prop :=
  ∀ (s : State) (w : WriteBeat), Ready s → s.takesTrigger w →
    let b := s.mail.body
    let vol := leAt b 4 4
    let good := 10000 ≤ vol ∧ vol ≤ 2000000
    (4 < byteAt b 0 → exec (.cartridgeInstalled w) s = .next (s.afterDirective w 5 .invalid 1)) ∧
    ∀ c : Chan, byteAt b 0 = c.num →
      (¬ good → exec (.cartridgeInstalled w) s = .next (s.afterDirective w 5 .invalid 2)) ∧
      (good → (s.ink.get c).cart = .absent → exec (.cartridgeInstalled w) s = .next (s.afterDirective w 5 .state 0)) ∧
      (good → (s.ink.get c).cart = .active → exec (.cartridgeInstalled w) s = .next (s.afterDirective w 5 .state 2)) ∧
      (good → (s.ink.get c).cart = .empty → exec (.cartridgeInstalled w) s = .next (s.afterDirective w 5 .state 3)) ∧
      (good → (s.ink.get c).cart = .present → ∃ t, exec (.cartridgeInstalled w) s = .next t ∧ t.mail = s.mail.answered w 5 .done 0 ∧
        (t.ink.get c).cart = .active ∧ (t.ink.get c).declared = vol ∧ (t.ink.get c).estimate = vol * 1000000 ∧
        (t.ink.get c).lot = BitVec.ofNat 32 (leAt b 8 4) ∧ (t.ink.get c).synced = (s.ink.get c).synced ∧
        ∀ d, d ≠ c → (t.ink.get d).cart = (s.ink.get d).cart ∧ (t.ink.get d).estimate = (s.ink.get d).estimate)

/-- The table of R104. -/
def Obligations.CalibratePump : Prop :=
  ∀ (s : State) (w : WriteBeat), Ready s → s.takesTrigger w →
    (4 < byteAt s.mail.body 0 → exec (.calibratePump w) s = .next (s.afterDirective w 6 .invalid 1)) ∧
    ∀ c : Chan, byteAt s.mail.body 0 = c.num →
      let k := s.ink.get c
      let arm := s.ink.set c { k with cal := .armed, measured := none }
      (k.cal = .measuring → exec (.calibratePump w) s = .next (s.afterDirective w 6 .busy 0)) ∧
      (k.cal = .armed → exec (.calibratePump w) s = .next (s.afterDirective w 6 .done 1)) ∧
      (k.cal = .idle → exec (.calibratePump w) s = .next { s.afterDirective w 6 .done 0 with ink := arm }) ∧
      (k.cal = .done → exec (.calibratePump w) s = .next { s.afterDirective w 6 .done 3 with ink := arm }) ∧
      (k.cal = .bad → exec (.calibratePump w) s = .next { s.afterDirective w 6 .done 4 with ink := arm })

/-- R115, R116, R120 and the counts of R117. -/
def Obligations.ReportJudgesNozzles : Prop :=
  (∀ n : Nozzle, (∀ v, n.st = .retired → n.judged v = n) ∧ n.judged .none = n ∧
    (n.st = .good → n.judged .fail = { n with st := .weak, fails := min 3 (n.fails + 1), passes := 0 } ∧
      n.judged .pass = { n with passes := min 3 (n.passes + 1), fails := 0 }) ∧
    (n.st = .weak → n.judged .pass = Nozzle.good ∧
      (n.pending = false → n.judged .fail = { n with st := .missing, fails := min 3 (n.fails + 1), passes := 0 })) ∧
    (n.st = .missing → 2 ≤ n.passes → n.judged .pass = Nozzle.good) ∧
    (n.st = .missing → n.pending = false → n.judged .fail = { n with fails := min 3 (n.fails + 1), passes := 0 } ∧
      (n.passes < 2 → n.judged .pass = { n with passes := n.passes + 1, fails := 0 })) ∧
    (n.st = .missing → n.pending = true → ∀ v, v ≠ .none → (v = .pass → n.passes < 2) →
      (n.judged v).pending = false ∧ (n.judged v).survived = min 2 (n.survived + 1) ∧
        (n.judged v).st = if 1 ≤ n.survived then .retired else .missing)) ∧
  ∀ (s : State) (h : List Byte) (q : Option Seq) (c : Chan),
    let was := s.health.get c
    let now := (s.takeReport h q).health.get c
    let listed := fun k : Nat => (List.range (entryCount h)).any fun i => reportEntry h i == (c.num, k)
    let verdict := fun k : Nat => if listed k = true then Verdict.fail else if hasBit (byteAt h 2) c.num = true then .none else .pass
    if hasBit (byteAt h 1) c.num = true then
      (∀ k : Nat, now.nozzles[k]? = (was.nozzles[k]?).map (Nozzle.judged (verdict k))) ∧ now.reports = was.reports + 1 ∧ now.lastReport = q
    else now.nozzles = was.nozzles ∧ now.reports = was.reports ∧ now.lastReport = was.lastReport

/-- R122, and the sentence under it that no dead nozzle is given a drop. -/
def Obligations.CompensationByPairs : Prop :=
  (∀ n : Nozzle, n.dead = true ↔ n.st = .missing ∨ n.st = .retired) ∧
  (∀ (da db : Bool) (ds : List Bool) (a b : Nat) (cs : List Nat),
    let rest := compensate ds cs
    compensate (da :: db :: ds) (a :: b :: cs) =
      (match da, db with
       | false, false => (a :: b :: rest.1, rest.2)
       | true, false => (0 :: max a b :: rest.1, rest.2)
       | false, true => (max a b :: 0 :: rest.1, rest.2)
       | true, true => (0 :: 0 :: rest.1, rest.2 + (if a ≠ 0 then 1 else 0) + (if b ≠ 0 then 1 else 0)))) ∧
  ∀ (ds : List Bool) (cs : List Nat) (m : Nat), ds.length = 2 * m → cs.length = 2 * m → ∀ k : Nat, ds[k]? = some true → (compensate ds cs).1[k]? = some 0

/-- The table of R126. -/
def Obligations.HeadReplaced : Prop :=
  ∀ (s : State) (w : WriteBeat), Ready s → s.takesTrigger w →
    let m := byteAt s.mail.body 0
    ((m = 0 ∨ 31 < m) → exec (.headReplaced w) s = .next (s.afterDirective w 12 .invalid 1)) ∧
    (m ≠ 0 → m ≤ 31 → ∃ t, exec (.headReplaced w) s = .next t ∧ t = { s.afterDirective w 12 .done m with health := t.health } ∧
      ∀ c : Chan, t.health.get c =
        if hasBit m c.num = true then { s.health.get c with nozzles := List.replicate (s.health.get c).nozzles.length Nozzle.good, stage := .clear }
        else s.health.get c)

/-- R131 and R142: `u` is the event's own effect. -/
def Obligations.CapLines : Prop :=
  ∀ s : State,
    let fresh := fun u : State => ∀ c, (u.svc.decap.get c).ms = 0 ∧ (u.svc.decap.get c).expired = false ∧ (u.svc.decap.get c).stale = (s.svc.decap.get c).stale
    let off := fun l : Line => if l.filt = .active then Line.take false else l
    (s.svc.cappedLine.filt = .unknown →
      Effects (.stationInitialCapState true) s { s.cleared with svc := { s.svc with cappedLine := Line.take true } } ∧
      ∀ cmd, cmd = .stationInitialCapState false ∨ cmd = .cappedLineActive false →
        ∃ u, Effects cmd s u ∧ u.svc.station = .uncapped ∧ u.svc.cap = .opened ∧ fresh u ∧
          u.svc.cappedLine = Line.take false ∧ u.svc.queue = s.svc.queue ∧ u.slots = s.slots ∧ u.ink = s.ink ∧ u.media = s.media) ∧
    (s.agenda = [] → s.svc.cappedLine.filt ≠ .unknown → ∀ b, exec (.stationInitialCapState b) s = .next s.cleared) ∧
    (s.agenda = [] → s.svc.cappedLine.filt ≠ .unknown → exec (.cappedLineActive false) s =
      .next { s.cleared with svc := { s.svc with cappedLine := Line.take false } }) ∧
    (s.agenda = [] → exec (.openLineActive false) s = .next { s.cleared with svc := { s.svc with openLine := Line.take false } }) ∧
    (s.svc.cappedLine.filt ≠ .unknown → s.svc.station = .capping → ∃ u, Effects .cappedLineActive s u ∧ u.svc.station = .capped ∧ u.svc.cap = .closed ∧
      fresh u ∧ u.svc.cappedLine = Line.take true ∧ u.svc.openLine = off s.svc.openLine) ∧
    (s.svc.station ≠ .capping → Effects .cappedLineActive s { s.cleared with
      svc := { s.svc with cappedLine := Line.take true, openLine := off s.svc.openLine } }) ∧
    (s.svc.station = .uncapping → ∃ u, Effects .openLineActive s u ∧ u.svc.cap = .opened ∧ fresh u ∧
      (s.svc.stepEnd.capAfter = false → u.svc.station = .uncapped) ∧ u.svc.openLine = Line.take true ∧ u.svc.cappedLine = off s.svc.cappedLine) ∧
    (s.svc.station ≠ .uncapping → Effects .openLineActive s { s.cleared with
      svc := { s.svc with openLine := Line.take true, cappedLine := off s.svc.cappedLine } })

/-- R150 with the steps of R133 that these queues take; `State.apart` holds of queues of every length up to 8. -/
def Obligations.ServiceNow : Prop :=
  ∀ (s : State) (w : WriteBeat), s.link.state = .up → s.takesTrigger w →
    let b := s.mail.body
    (s.agenda = [] → (byteAt b 0 = 0 ∨ 6 < byteAt b 0) → exec (.serviceNow w) s = .next (s.afterDirective w 10 .invalid 1)) ∧
    ∀ level : Level, byteAt b 0 = level.code →
      let cs := ChanSet.ofMask (byteAt b 1)
      let good := byteAt b 1 ≠ 0 ∧ byteAt b 1 ≤ 31
      let new : ServiceReq := { level := level, chans := cs, flow := false, started := false, state := .queued }
      let takes := fun (d : Nat) (q : List ServiceReq) => Effects (.serviceNow w) s { s.afterDirective w 10 .done d with svc := { s.svc with queue := q } }
      (s.agenda = [] → ¬ good → exec (.serviceNow w) s = .next (s.afterDirective w 10 .invalid 2)) ∧
      (good → s.apart level →
        (s.svc.queue.length < 8 → takes 0 (s.svc.queue ++ [new])) ∧
        (s.agenda = [] → 8 ≤ s.svc.queue.length → exec (.serviceNow w) s = .next { s.afterDirective w 10 .busy 8 with
          events := s.posted .serviceQueueFull cs.subject level.code (byteAt b 1) })) ∧
      (∀ r, good → s.svc.queue = [r] → r.state = .queued →
        (r.level = level → r.started = false → takes 1 [{ r with chans := r.chans.union cs, flow := false }]) ∧
        (r.level = .prime → (level = .spit ∨ level = .light ∨ level = .wipe) → (level = .wipe ∨ ∀ c, cs.get c = true → r.chans.get c = true) →
          takes 2 [r]) ∧
        (opposed level = some r.level → takes 0 [new]) ∧
        (absorbs s.prof.flow.midSheetWipe level r.level r.flow = true → (r.level = .wipe ∨ ∀ c, r.chans.get c = true → cs.get c = true) →
          takes 0 [new]))

/-- R141, R142 and R145. -/
def Obligations.StationFaults : Prop :=
  ∀ s : State,
    let back := fun u : State => u.svc.station = .fault ∧ (∀ r ∈ u.svc.queue, r.state ≠ .running) ∧
      ∀ r, s.running? = some r → (s.svc.stepEnd.dropFlow && r.flow) = false → u.svc.queue.head? = some { r with state := .queued } ∧ u.svc.asking = false
    ((s.svc.station = .capping ∨ s.svc.station = .uncapping) → ∃ u, Effects .capFault s u ∧ back u ∧ u.svc.cap = .opened ∧
      (s.room 1 → s.record .capFault 0xFF (if s.svc.station = .capping then 1 else 2) (s.svc.cappedLine.filt.code + 256 * s.svc.openLine.filt.code) ∈
        u.events.recs)) ∧
    (s.agenda = [] → s.svc.station ≠ .capping → s.svc.station ≠ .uncapping → exec .capFault s = .next s.cleared) ∧
    (s.svc.station = .wiping → ∃ u, Effects .wiperFault s u ∧ back u ∧ u.svc.cap = s.svc.cap ∧
      (s.room 1 → s.record .wiperFault 0xFF s.svc.wiperLine.filt.code 0 ∈ u.events.recs)) ∧
    (s.agenda = [] → s.svc.station ≠ .wiping → exec .wiperFault s = .next s.cleared) ∧
    (s.svc.station = .wiping → ∃ u, Effects .wiperHomeActive s u ∧ u.svc.wiperLine = Line.take true ∧ u.svc.cap = s.svc.cap ∧
      u.svc.wipeVolume = (if s.svc.stepEnd.lostWipe = true then s.svc.wipeVolume else 0) ∧
      (s.svc.cap = .opened → s.svc.stepEnd.capAfter = false → u.svc.station = .uncapped)) ∧
    (s.agenda = [] → exec (.wiperHomeActive false) s = .next { s.cleared with svc := { s.svc with wiperLine := Line.take false } }) ∧
    (s.svc.station ≠ .wiping → Effects .wiperHomeActive s { s.cleared with svc := { s.svc with wiperLine := Line.take true } })

/-- The table of R145 and the text under it; `u` is the directive's own effect. -/
def Obligations.ServiceReset : Prop :=
  ∀ (s : State) (w : WriteBeat), s.takesTrigger w →
    (Ready s → s.svc.station ≠ .fault → exec (.serviceReset w) s = .next (s.afterDirective w 11 .state s.svc.station.code)) ∧
    (s.link.state = .up → s.svc.station = .fault → ∃ u, Effects (.serviceReset w) s u ∧
      u.svc.queue = (if byteAt s.mail.body 0 = 0 then s.svc.queue else []) ∧ u.ink = s.ink ∧ u.media = s.media ∧
      (if s.svc.cappedLine.filt = .active then
        u.mail = s.mail.answered w 11 .done 0 ∧ u.svc.station = .capped ∧ u.svc.cap = .closed ∧ ∀ c, (u.svc.decap.get c).ms = 0
       else u.mail = s.mail.answered w 11 .done 1 ∧ u.svc.station = .uncapped ∧ u.svc.cap = .opened ∧ u.svc.decap = s.svc.decap))

/-- R136, R144 and R152; that a wipe which R152 or R153 lets run is aborted like any other, its counter kept, is the model's choice (log 33), and so
is that a request which waits between two steps does not call again at the line's becoming inactive, but at the next look at its step (log 47). -/
def Obligations.CallAndCarriage : Prop :=
  ∀ s : State,
    (∀ r, s.agenda = [] → s.svc.station = .calling → s.svc.callRunning = true → s.running? = some r → exec .callTimeout s =
      .next { s.cleared with
        svc := { s.svc with callMs := 10000, callRunning := false },
        events := s.posted .callTimeout r.chans.subject (r.level.code + 256 * s.passCount r) r.chans.mask }) ∧
    (s.agenda = [] → (s.svc.station ≠ .calling ∨ s.svc.callRunning = false) → exec .callTimeout s = .next s.cleared) ∧
    (s.svc.carriageLine.filt ≠ .active → s.link.state = .up →
      Effects .carriageArrives s { s.cleared with svc := { s.svc with carriageLine := Line.take true } }) ∧
    (s.svc.carriageLine.filt ≠ .active → s.link.state = .lost → s.running? = none → s.svc.station = .uncapped →
      ∃ u, Effects .carriageArrives s u ∧ u.svc.station = .capping ∧ u.svc.motorMs = 0 ∧ u.svc.asking = s.svc.asking ∧ u.events = s.events) ∧
    (∀ b, s.agenda = [] → s.svc.carriageLine.filt = (if b = true then .active else .inactive) →
      exec (if b = true then .carriageArrives else .stationLost) s = .next { s.cleared with svc := { s.svc with carriageLine := Line.take b } }) ∧
    (s.agenda = [] → s.svc.carriageLine.filt ≠ .inactive → s.svc.station ≠ .spitting → s.svc.station ≠ .wiping → exec .stationLost s =
      .next { s.cleared with svc := { s.svc with carriageLine := Line.take false } }) ∧
    ∀ r, s.svc.carriageLine.filt ≠ .inactive → s.running? = some r →
      (s.agenda = [] → s.svc.station = .wiping → s.svc.stepEnd.lostWipe = false → exec .stationLost s = .next { s.cleared with
        svc := { s.svc with carriageLine := Line.take false, stepEnd := { s.svc.stepEnd with returns := true, lostWipe := true } },
        events := if s.svc.stepEnd.capAfter = true then s.events else s.posted .stationLost r.chans.subject r.level.code 1 }) ∧
      (s.svc.station = .spitting → ∃ u, Effects .stationLost s u ∧ u.svc.station = .uncapped ∧ u.svc.asking = false ∧
        (∀ x ∈ u.svc.queue, x.state ≠ .running) ∧
        ((s.svc.stepEnd.dropFlow && r.flow) = false → u.svc.queue.head? = some { r with state := .queued } ∧ u.svc.steps = []) ∧ (s.room 1 → s.record .stationLost r.chans.subject r.level.code 2 ∈ u.events.recs) ∧
        ∀ c, r.chans.get c = true → (u.ink.get c).servicePart = 0 ∧
          (u.ink.get c).level = (s.ink.get c).level - min (s.svc.spit.counted.get c * (s.chanProf c).large) (s.ink.get c).servicePart)

/-- R11, R139, R143, R88, R152. -/
def Obligations.SpitAndSuction : Prop :=
  (∀ (s : State) (b : Fin 20) (mem : List Byte), Ready s → NoReads s →
    let addr := s.spanBase + 0x8000 + 64 * b.val
    let p := s.svc.spit
    let c := Chan.ofServiceOffset (64 * b.val)
    let n := ((List.range 256).countP fun k => match (s.health.get c).nozzles[4 * (64 * b.val % 256) + k]? with
      | some z => decide (z.st ≠ .retired)
      | none => false)
    let counted := if p.set.get c = true then p.counted.set c (p.counted.get c + n) else p.counted
    let reads := fun v : Service => exec (.spitFetchRead b mem) s = .next { s.afterRead .fetch addr (s.spitData b) with svc := v }
    (s.svc.station ≠ .spitting → s.spitData b = List.replicate 64 0 ∧ reads s.svc) ∧
    (s.svc.station = .spitting → p.set.get c = false → s.spitData b = List.replicate 64 0) ∧
    (s.svc.station = .spitting → p.set.get c = true → (s.health.get c).nozzles.length = 1024 →
      (s.spitData b).length = 64 ∧ ∀ k < 256, ∃ z, (s.health.get c).nozzles[4 * (64 * b.val % 256) + k]? = some z ∧
        byteAt (s.spitData b) (k / 4) / 4 ^ (k % 4) % 4 = if z.st = .retired then 0 else 3) ∧
    (s.svc.station = .spitting → p.mark ≠ 64 * b.val → reads s.svc) ∧
    (s.svc.station = .spitting → p.mark = 64 * b.val →
      (b.val < 19 → reads { s.svc with spit := { p with mark := p.mark + 64, counted := counted } }) ∧
      (b.val = 19 → (∃ d, p.set.get d = true) → (∀ d, p.set.get d = true → p.passes + 1 < p.own.get d) →
        reads { s.svc with spit := { p with mark := 0, passes := p.passes + 1, counted := counted } }) ∧
      (b.val = 19 → ∃ u, Effects (.spitFetchRead b mem) s u ∧ ∀ d, p.set.get d = true → p.own.get d ≤ p.passes + 1 →
        (u.svc.decap.get d).stale = false ∧ (u.svc.decap.get d).ms = 0 ∧ (u.svc.decap.get d).expired = false))) ∧
  ∀ s : State,
    (∀ c rest, s.svc.station = .suction → s.svc.toSuck = c :: rest → ∃ u, Effects .suctionEnd s u ∧
      (u.ink.get c).level = (s.ink.get c).level - min ((s.chanProf c).primeVolume * 1000000) (s.ink.get c).servicePart ∧
      (u.ink.get c).servicePart = 0 ∧ (∀ d, d ≠ c → (u.ink.get d).level = (s.ink.get d).level) ∧
      (rest ≠ [] → s.svc.stepEnd.returns = false → u.svc.station = .suction ∧ u.svc.toSuck = rest ∧ u.svc.motorMs = 0) ∧
      (s.svc.stepEnd.returns = true → s.svc.stepEnd.outside = false → u.svc.toSuck = [] ∧
        ∀ d, d ≠ c → (u.ink.get d).servicePart = 0 ∧ (u.ink.get d).reserved = (s.ink.get d).reserved - (s.ink.get d).servicePart)) ∧
    (s.agenda = [] → (s.svc.station ≠ .suction ∨ s.svc.toSuck = []) → exec .suctionEnd s = .next s.cleared)

/-- R146, R147, R149; the value of a timer whose limit was staged below it is the model's choice (log 37). -/
def Obligations.DecapAndIdle : Prop :=
  (∀ (s : State) (c : Chan),
    let d : Decap := { ms := (s.chanProf c).decapLimit * 1000, expired := true, stale := true }
    let runs := s.svc.cap = .opened ∧ (s.svc.decap.get c).expired = false
    (runs → s.prof.flow.spitPolicy = .needed → Effects (.decapExpiry c) s { s.cleared with svc := { s.svc with decap := s.svc.decap.set c d } }) ∧
    (runs → s.prof.flow.spitPolicy = .any → ∃ u, Effects (.decapExpiry c) s u ∧ u.svc.decap = s.svc.decap.set c d ∧
      (s.svc.queue = [] → (∀ e, s.svc.spitOwed.get e = false) →
        u.svc.queue = [{ level := .spit, chans := ChanSet.single c, flow := false, started := false, state := .queued }])) ∧
    (s.agenda = [] → ¬ runs → exec (.decapExpiry c) s = .next s.cleared)) ∧
  ∀ s : State,
    let idle := s.svc.station = .uncapped ∧ (∀ i, (s.slot i).st ≠ .admitted ∧ (s.slot i).st ≠ .firing) ∧ ∀ r ∈ s.svc.queue, r.state ≠ .running
    (idle → ∃ u, Effects .idleTimerExpiry s u ∧ u.svc.idleMs = 0 ∧
      (s.svc.queue = [] → u.svc.queue = [{ level := .cap, chans := ChanSet.empty, flow := false, started := false, state := .queued }] ∧
        u.events = if s.svc.capWantedPosted = true then s.events else s.posted .capWanted 0xFF (max s.svc.idleMs (s.prof.flow.idleCap * 1000)) 0)) ∧
    (s.agenda = [] → ¬ idle → exec .idleTimerExpiry s = .next s.cleared)

/-- The tables of R157, R158 and the staging of R184; that of several fields out of range the lowest number is answered is the model's choice
(log 48). `u` is the directive's own effect. -/
def Obligations.RollDirectives : Prop :=
  ∀ (s : State) (w : WriteBeat), Ready s → s.takesTrigger w →
    let b := s.mail.body
    let onPath := fun v : Sheet => v.st = .leading ∨ v.st = .printing ∨ v.st = .trailing ∨ v.st = .cutting
    (1 < byteAt b 0 → exec (.rollLoaded w) s = .next (s.afterDirective w 7 .invalid 1) ∧ exec (.rollUnload w) s = .next (s.afterDirective w 8 .invalid 1)) ∧
    ∀ r : Roll, byteAt b 0 = r.num →
      let st := (s.roll r).st
      let p := mediaSection b 16
      let width := 280 ≤ p.width ∧ p.width ≤ 1118
      let correction := -2000 ≤ p.correction ∧ p.correction ≤ 2000
      let tail := 100 ≤ p.tailLength ∧ p.tailLength ≤ 3000
      let low := 1 ≤ p.rollLow ∧ p.rollLow ≤ 50
      let length := byteAt b 1 = 0 ∨ 1 ≤ leAt b 4 4 ∧ leAt b 4 4 ≤ 1000000
      let remaining := if byteAt b 1 = 0 then none else some (leAt b 4 4 * 1000)
      let good := width ∧ correction ∧ tail ∧ low ∧ length
      let refused := fun d : Nat => exec (.rollLoaded w) s = .next (s.afterDirective w 7 .invalid d)
      (¬ width → refused 0x11) ∧ (width → ¬ correction → refused 0x13) ∧ (width → correction → ¬ tail → refused 0x14) ∧
      (width → correction → tail → ¬ low → refused 0x15) ∧ (width → correction → tail → low → ¬ length → refused 0x16) ∧
      (good → (st = .absent ∨ st = .threading ∨ st = .ended ∨ st = .out ∨ st = .rewinding) →
        exec (.rollLoaded w) s = .next (s.afterDirective w 7 .state st.code)) ∧
      (good → (st = .present ∨ st = .loaded) → ∃ u, Effects (.rollLoaded w) s u ∧ u.mail = s.mail.answered w 7 .done 0 ∧ (u.roll r).st = .loaded ∧
        (u.roll r).remaining = remaining ∧ u.mediaProf r = p ∧ u.roll r.other = s.roll r.other ∧ u.mediaProf r.other = s.mediaProf r.other) ∧
      (good → st = .active → ∃ u, Effects (.rollLoaded w) s u ∧ (u.roll r).st = .active ∧ (u.roll r).remaining = remaining ∧
        ((∃ v ∈ s.media.table, onPath v) → u.mail = s.mail.answered w 7 .done 1 ∧ u.mediaProf r = s.mediaProf r ∧
          (match r with | .a => u.prof.stagedA | .b => u.prof.stagedB) = some { profile := p, declared := true }) ∧
        ((∀ v ∈ s.media.table, ¬ onPath v) → u.mail = s.mail.answered w 7 .done 0 ∧ u.mediaProf r = p)) ∧
      (∀ v before after, s.media.table = before ++ v :: after → (∀ x ∈ before, ¬ onPath x) → onPath v →
        exec (.rollUnload w) s = .next (s.afterDirective w 8 .busy v.number)) ∧
      ((∀ v ∈ s.media.table, ¬ onPath v) →
        (s.media.op.isSome → exec (.rollUnload w) s = .next (s.afterDirective w 8 .busy 0xFFFF)) ∧
        (s.media.op = none → st ≠ .loaded → st ≠ .active → exec (.rollUnload w) s = .next (s.afterDirective w 8 .state st.code)) ∧
        (s.media.op = none → st = .active → s.media.fault = true → exec (.rollUnload w) s = .next (s.afterDirective w 8 .state 0xFF)) ∧
        (s.media.op = none → st = .loaded → ∃ u, Effects (.rollUnload w) s u ∧ u.mail = s.mail.answered w 8 .done 0 ∧
          u.roll r = { s.roll r with st := .present, remaining := none, lowPosted := false } ∧ u.prof = s.prof) ∧
        (s.media.op = none → st = .active → s.media.fault = false → ∃ u, Effects (.rollUnload w) s u ∧ u.mail = s.mail.answered w 8 .done 1 ∧
          u.roll r = { s.roll r with st := .rewinding } ∧ ∃ o, u.media.op = some o ∧ o.kind = .rewind ∧ o.roll = r ∧ o.ms = 0 ∧ o.limit = 30000))

/-- R166, R169 and the table of R175; `u` is the event's own effect. -/
def Obligations.MediaFaultsAndReset : Prop :=
  (∀ (s : State) (o : MediaOp), s.media.op = some o →
    (o.kind ≠ .cut → ∃ u t, exec .feedStall s = .next t ∧ t = settle settleFuel u ∧ t.media.fault = true ∧ u.media.op = none ∧
      (s.room 1 → s.record .feedStall o.roll.num o.kind.code (if o.kind = .rewind ∨ o.kind = .thread then o.limit else o.progress) ∈ u.events.recs) ∧
      ∀ sid v, (o.kind = .advance ∨ o.kind = .leading ∨ o.kind = .trailing) → o.sheet = some sid → s.sheet? sid = some v → v.st ≠ .done → v.st ≠ .spoiled →
        v.spoil = none → ∀ x ∈ t.media.table, x.sid = sid → x.spoil.isSome) ∧
    (o.kind = .cut → ∃ u t, exec .cutterFault s = .next t ∧ t = settle settleFuel u ∧ t.media.fault = true ∧ u.media.op = none ∧
      ∀ sid v, o.sheet = some sid → s.sheet? sid = some v →
        (s.room 1 → s.record .cutterFault v.number s.media.cutterHome.filt.code 0 ∈ u.events.recs) ∧
        ∀ x ∈ u.media.table, x.sid = sid → x.st = .spoiled)) ∧
  (∀ s : State, s.agenda = [] →
    (s.media.op = none → exec .feedStall s = .next s.cleared ∧ exec .cutterFault s = .next s.cleared) ∧
    ∀ o, s.media.op = some o → (o.kind = .cut → exec .feedStall s = .next s.cleared) ∧ (o.kind ≠ .cut → exec .cutterFault s = .next s.cleared)) ∧
  ∀ (s : State) (w : WriteBeat), s.takesTrigger w →
    (Ready s → s.media.fault = false → exec (.mediaReset w) s = .next (s.afterDirective w 9 .state 0)) ∧
    (s.link.state = .up → s.media.fault = true → ∃ u t, exec (.mediaReset w) s = .next t ∧ t = settle settleFuel u ∧ t.media.fault = false ∧
      ((∀ r, (s.roll r).st.engaged = false) → t.mail = s.mail.answered w 9 .done 0xFF) ∧
      ∀ r, (s.roll r).st.engaged = true → (s.roll r.other).st.engaged = false → (s.roll r).presentLine.filt = .active →
        let new : RollState := if s.media.platen.filt = .active then (if (s.roll r).st = .ended then .ended else .active)
          else if (s.roll r).st = .ended then .out else .loaded
        (u.roll r).st = new ∧ t.mail = s.mail.answered w 9 .done new.code)

/-- R154, R162, R165, R169, R171. -/
def Obligations.FeedAndCut : Prop :=
  (∀ (s : State) (kind : OpKind) (r : Roll) (sid d : Nat) (slot : Option SlotIx), -2000 ≤ (s.mediaProf r).correction → (s.mediaProf r).correction ≤ 2000 →
    ∃ o, (s.beginFeed kind r sid slot d).media.op = some o ∧ o.kind = kind ∧ o.roll = r ∧ o.sheet = some sid ∧ o.progress = 0 ∧ o.ms = 0 ∧
      (∀ n : Nat, o.target ≤ n ↔ (d : Int) * (1000000 + (s.mediaProf r).correction) ≤ n * 10000000) ∧
      ∀ mm : Nat, d ≤ mm * 1000 → mm * 1000 < d + 1000 → o.limit = 500 + 2 * mm) ∧
  ∀ s : State,
    (∀ o, s.media.op = some o → (o.kind.isFeed = true ∨ o.kind = .clearing) →
      Effects .feedEncoderPulse s { s.cleared with media := { s.media with op := some { o with progress := o.progress + 1 } } }) ∧
    (s.agenda = [] → (∀ o, s.media.op = some o → o.kind.isFeed = false ∧ o.kind ≠ .clearing) → exec .feedEncoderPulse s = .next s.cleared) ∧
    (∀ o sid v, s.media.op = some o → o.kind = .cut → o.sheet = some sid → s.sheet? sid = some v → v.st = .cutting →
      ∃ u, Effects .cutterHomeActive s u ∧ u.media.op = none ∧ u.media.cutterHome = Line.take true ∧
        (v.spoil = none → (∀ x ∈ u.media.table, x.sid = sid → x.st = .done) ∧
          (s.room 1 → s.record .sheetDone v.number ((v.roll.map Roll.num).getD 0xFF) v.fed ∈ u.events.recs)) ∧
        (∀ why, v.spoil = some why → (∀ x ∈ u.media.table, x.sid = sid → x.st = .spoiled) ∧
          (s.room 1 → s.record .sheetSpoiled v.number (why.code + 256) v.fed ∈ u.events.recs))) ∧
    (s.agenda = [] → (∀ o, s.media.op = some o → o.kind ≠ .cut) → exec .cutterHomeActive s =
      .next { s.cleared with media := { s.media with cutterHome := Line.take true } }) ∧
    (s.agenda = [] → exec (.cutterHomeActive false) s =
      .next { s.cleared with media := { s.media with cutterHome := Line.take false } }) ∧
    Effects (.feedPathClearActive false) s { s.cleared with media := { s.media with feedPath := Line.take false } } ∧
    Effects .feedPathClearActive s { s.cleared with media := { s.media with feedPath := Line.take true } } ∧
    (s.media.platen.filt ≠ .active → Effects .platenMediaActive s { s.cleared with media := { s.media with
      platen := Line.take true,
      feedPath := if s.media.op.map MediaOp.kind = some .thread ∧ s.media.feedPath.filt = .active then Line.take false else s.media.feedPath } }) ∧
    (s.media.platen.filt ≠ .inactive → ∃ u t, exec .platenMediaInactive s = .next t ∧ t = settle settleFuel u ∧ t.media.platen = Line.take false ∧
      (∀ v, s.fedSheet? = some v → s.sheet? v.sid = some v → v.spoil = none → ∀ x ∈ t.media.table, x.sid = v.sid → x.spoil.isSome) ∧
      ∀ r, (s.roll r).presentLine.filt = .active → (s.roll r.other).st.engaged = false →
        ((s.roll r).st = .ended → (u.roll r).st = .out) ∧ ((s.roll r).st = .active → (u.roll r).st = .loaded)) ∧
    (s.agenda = [] → s.media.platen.filt = .inactive → exec .platenMediaInactive s =
      .next { s.cleared with media := { s.media with platen := Line.take false } })

/-- R156 and R170: the need of a sheet in LEADING or PRINTING is its planned length less what was fed. The clauses for a line that holds the state already
(`presentLine` active or inactive, any `endLine`) and for the roll-end line's becoming inactive are the model's choice of log 3. -/
def Obligations.RollLines : Prop :=
  ∀ (s : State) (r : Roll),
    let k := s.roll r
    let v? := s.fedSheet?
    (k.presentLine.filt ≠ .active → k.st = .absent → Effects (.rollPresentActive r) s
      (s.cleared.modRoll r fun k => { k with presentLine := Line.take true, st := .present })) ∧
    (s.agenda = [] → (k.presentLine.filt = .active ∨ k.st ≠ .absent) → exec (.rollPresentActive r) s =
      .next (s.cleared.modRoll r fun k => { k with presentLine := Line.take true })) ∧
    (k.presentLine.filt ≠ .inactive → (k.st = .present ∨ k.st = .loaded ∨ k.st = .out) → Effects (.rollPresentInactive r) s
      (s.cleared.modRoll r fun k => { k with presentLine := Line.take false, st := .absent, remaining := none, lowPosted := false })) ∧
    (s.agenda = [] → (k.presentLine.filt = .inactive ∨ k.st = .absent ∨ k.st.engaged = true) → exec (.rollPresentInactive r) s =
      .next (s.cleared.modRoll r fun k => { k with presentLine := Line.take false })) ∧
    (k.st = .active → (∀ v, v? = some v → v.roll ≠ some r) → Effects (.rollEndLineActive r) s
      { s.cleared.modRoll r fun k => { k with endLine := Line.take true, st := .ended } with events := s.posted .rollEnd r.num 0xFFFF 0 }) ∧
    (∀ v, k.st = .active → v? = some v → s.sheet? v.sid = some v → v.roll = some r → v.spoil = none →
      let judged := fun n : Nat => ∃ u t, exec (.rollEndLineActive r) s = .next t ∧ t = settle settleFuel u ∧ (u.roll r).st = .ended ∧
        (s.room 1 → s.record .rollEnd r.num v.number n ∈ u.events.recs) ∧
        (if (s.mediaProf r).tailLength * 1000 < n then ∀ x ∈ t.media.table, x.sid = v.sid → x.spoil.isSome else u.media.table = s.media.table)
      (∀ e, v.st ≠ .trailing → v.expected = some e → judged ((v.leading + e + v.trailing.getD 0) * 1000 - v.fed)) ∧
      (v.st ≠ .trailing → v.expected = none → judged 0) ∧
      (v.st = .trailing → (∀ o, s.media.op = some o → ¬ (o.kind = .trailing ∧ o.sheet = some v.sid)) → judged (v.trailing.getD 0 * 1000)) ∧
      (∀ o, v.st = .trailing → s.media.op = some o → o.kind = .trailing → o.sheet = some v.sid → judged (v.trailing.getD 0 * 1000 - o.progress * 10))) ∧
    (k.st = .threading → k.presentLine.filt = .active → ∃ u, Effects (.rollEndLineActive r) s u ∧ (u.roll r).st = .out ∧ u.media.op = none ∧
      (s.room 2 → s.record .rollEnd r.num 0xFFFF 0 ∈ u.events.recs ∧ s.record .rollOut r.num 0 0 ∈ u.events.recs)) ∧
    (s.agenda = [] → k.st ≠ .active → k.st ≠ .threading → exec (.rollEndLineActive r) s =
      .next (s.cleared.modRoll r fun k => { k with endLine := Line.take true })) ∧
    (s.agenda = [] → exec (.rollEndLineActive r false) s = .next (s.cleared.modRoll r fun k => { k with endLine := Line.take false }))

/-- R178, R179, R180, over every directive row. -/
def Obligations.MailboxBodyAndTriggers : Prop :=
  (∀ (s : State) (k : Fin 3) (w : WriteBeat), Ready s → ∃ b, exec (.mailboxBodyWrite k w) s =
      .next { s.afterWrite (s.spanBase + 64 * k.val) w with mail := { s.mail with body := b } } ∧
    ∀ j : Nat, b[j]? = (s.mail.body[j]?).map fun old =>
      if 64 * k.val ≤ j ∧ j < 64 * k.val + 64 ∧ w.en (j - 64 * k.val) = true then w.data.getD (j - 64 * k.val) 0 else old) ∧
  (∀ (s : State) (w : WriteBeat), Ready s → (w.isTrigger = false ∨ s.mail.lastTaken = some w.triggerSeq) →
    ∀ c ∈ directiveCommands w, exec c s = .next (s.afterWrite (s.spanBase + 0xC0) w)) ∧
  ∀ (s : State) (w : WriteBeat), Ready s → s.takesTrigger w →
    exec (.directiveUnknownKind w) s = .next (s.afterDirective w (w.byte 0) .invalid 0)

/-- R191 and R192. -/
def Obligations.MasksAndAttention : Prop :=
  (∀ (s : State) (w : WriteBeat), Ready s → s.takesTrigger w →
    let m := byteAt s.mail.body 0
    let p := byteAt s.mail.body 1
    (31 < m → exec (.setMasks w) s = .next (s.afterDirective w 14 .invalid 1)) ∧
    (m ≤ 31 → 1 < p → exec (.setMasks w) s = .next (s.afterDirective w 14 .invalid 2)) ∧
    (m ≤ 31 → p ≤ 1 → exec (.setMasks w) s =
      .next { s.afterDirective w 14 .done (s.events.masks.toNat + (if s.events.suspend = true then 256 else 0)) with
        events := { s.events with masks := BitVec.ofNat 5 m, suspend := decide (p = 1) } })) ∧
  ∀ q : EventQueue, q.attention = true ↔ q.suspend = false ∧ ∃ e ∈ q.recs, q.masks.getLsbD (e.kind.code / 32) = false

/-- R188 to R190 and the layout of section 11.4. -/
def Obligations.EventBeatReads : Prop :=
  (∀ (q : EventQueue) (e : Event),
    (q.recs.length < 32 → q.enter e = { q with recs := q.recs ++ [e] }) ∧
    (32 ≤ q.recs.length → q.enter e = { q with
      overflow := min (q.overflow + 1) 4294967295, firstLoss := if q.overflow = 0 then e.time else q.firstLoss })) ∧
  (∀ (s : State) (cls : ReqClass) (mem : List Byte), Ready s → (cls = .fetch → NoReads s) →
    let reads := fun (beat : List Byte) (q : EventQueue) => exec (.eventBeatRead cls mem) s =
      .next { s.afterRead cls (s.spanBase + 0x140) beat with events := q }
    (s.events.recs = [] → reads (eventBeat none 0 s.events.overflow) s.events) ∧
    ∀ e rest, s.events.recs = e :: rest →
      (s.events.overflow = 0 → reads (eventBeat (some e) rest.length 0) { s.events with recs := rest }) ∧
      (s.events.overflow ≠ 0 → reads (eventBeat (some e) (rest.length + 1) 0) { s.events with
        recs := rest ++ [s.record .eventOverflow 0xFF s.events.overflow s.events.firstLoss.toNat], overflow := 0, firstLoss := 0 })) ∧
  (∀ (e : Event) (n m : Nat), let b := eventBeat (some e) n m
    byteAt b 0 = e.kind.code ∧ byteAt b 1 = e.kind.code / 32 ∧ leAt b 2 2 = min e.subject 65535 ∧ leAt b 4 4 = min e.d1 max32 ∧ leAt b 8 6 = min e.d2 (2 ^ 48 - 1) ∧
      leAt b 16 4 = e.time.toNat ∧ byteAt b 24 = min n 255 ∧ leAt b 28 4 = min m max32) ∧
  ∀ n m : Nat, byteAt (eventBeat none n m) 0 = 0 ∧ byteAt (eventBeat none n m) 24 = min n 255 ∧ leAt (eventBeat none n m) 28 4 = min m max32

/-- The reactions are the model's form of what the blocks do within one event (log 7). -/
def Obligations.ReactionsKeep : Prop :=
  ∀ (n : Nat) (s : State), let t := settle n s
    t.pending = s.pending ∧ t.time = s.time ∧ t.link.straps = s.link.straps ∧ (∀ i, t.line i = s.line i) ∧ t.mail = s.mail ∧
    t.events.masks = s.events.masks ∧ t.events.suspend = s.events.suspend ∧ t.media.fault = s.media.fault ∧
    t.parser.expected = s.parser.expected ∧ t.parser.lastAccepted = s.parser.lastAccepted ∧ t.parser.openSheet = s.parser.openSheet ∧
    (∀ i, (t.slot i).shadow = (s.slot i).shadow) ∧
    (∀ c, (t.ink.get c).cart = (s.ink.get c).cart ∧ (t.ink.get c).estimate = (s.ink.get c).estimate ∧ (t.ink.get c).synced = (s.ink.get c).synced) ∧
    (s.flow.pause = true → t.flow.pause = true) ∧
    (∀ x ∈ t.media.table, ∃ v ∈ s.media.table, x.sid = v.sid ∧ (v.spoil.isSome → x.spoil.isSome) ∧ (x.st = .pending → v.st = .pending)) ∧
    (s.link.waiting = [] → s.link.stalled = [] → s.events.recs <+: t.events.recs ∧ s.parser.retired <+: t.parser.retired ∧ t.counters = s.counters)

/-- `Bounded` at `State.reset`. -/
def Obligations.ResetKeepsTheBounds : Prop := Bounded State.reset

/-- The bounds of R13, R20, R23, R36, R57, R112, R133, R160, R188, over every command and the millisecond of log 1. -/
def Obligations.EveryStepKeepsTheBounds : Prop := ∀ s : State, Bounded s → ∃ t, step s = .next t ∧ Bounded t
end

