-- ==== Sys2Proof/Laws/State.lean ====
section
/-! SUPPORT. Laws/State.lean: every field of State after every named update, and the access lemmas of the records. -/
namespace Sys2Proof.Machine

/-! ### Fields -/

@[simp] theorem State.pending_modSlot (s : State) (i : SlotIx) (f : Slot → Slot) : (s.modSlot i f).pending = s.pending := rfl
@[simp] theorem State.agenda_modSlot (s : State) (i : SlotIx) (f : Slot → Slot) : (s.modSlot i f).agenda = s.agenda := rfl
@[simp] theorem State.out_modSlot (s : State) (i : SlotIx) (f : Slot → Slot) : (s.modSlot i f).out = s.out := rfl
@[simp] theorem State.time_modSlot (s : State) (i : SlotIx) (f : Slot → Slot) : (s.modSlot i f).time = s.time := rfl
@[simp] theorem State.link_modSlot (s : State) (i : SlotIx) (f : Slot → Slot) : (s.modSlot i f).link = s.link := rfl
@[simp] theorem State.counters_modSlot (s : State) (i : SlotIx) (f : Slot → Slot) : (s.modSlot i f).counters = s.counters := rfl
@[simp] theorem State.slots_modSlot (s : State) (i : SlotIx) (f : Slot → Slot) : (s.modSlot i f).slots = s.slots.set i (f (s.slots.get i)) := rfl
@[simp] theorem State.parser_modSlot (s : State) (i : SlotIx) (f : Slot → Slot) : (s.modSlot i f).parser = s.parser := rfl
@[simp] theorem State.windows_modSlot (s : State) (i : SlotIx) (f : Slot → Slot) : (s.modSlot i f).windows = s.windows := rfl
@[simp] theorem State.nextWid_modSlot (s : State) (i : SlotIx) (f : Slot → Slot) : (s.modSlot i f).nextWid = s.nextWid := rfl
@[simp] theorem State.flow_modSlot (s : State) (i : SlotIx) (f : Slot → Slot) : (s.modSlot i f).flow = s.flow := rfl
@[simp] theorem State.ink_modSlot (s : State) (i : SlotIx) (f : Slot → Slot) : (s.modSlot i f).ink = s.ink := rfl
@[simp] theorem State.health_modSlot (s : State) (i : SlotIx) (f : Slot → Slot) : (s.modSlot i f).health = s.health := rfl
@[simp] theorem State.svc_modSlot (s : State) (i : SlotIx) (f : Slot → Slot) : (s.modSlot i f).svc = s.svc := rfl
@[simp] theorem State.media_modSlot (s : State) (i : SlotIx) (f : Slot → Slot) : (s.modSlot i f).media = s.media := rfl
@[simp] theorem State.prof_modSlot (s : State) (i : SlotIx) (f : Slot → Slot) : (s.modSlot i f).prof = s.prof := rfl
@[simp] theorem State.mail_modSlot (s : State) (i : SlotIx) (f : Slot → Slot) : (s.modSlot i f).mail = s.mail := rfl
@[simp] theorem State.events_modSlot (s : State) (i : SlotIx) (f : Slot → Slot) : (s.modSlot i f).events = s.events := rfl

@[simp] theorem State.pending_modInk (s : State) (c : Chan) (f : InkChan → InkChan) : (s.modInk c f).pending = s.pending := rfl
@[simp] theorem State.agenda_modInk (s : State) (c : Chan) (f : InkChan → InkChan) : (s.modInk c f).agenda = s.agenda := rfl
@[simp] theorem State.out_modInk (s : State) (c : Chan) (f : InkChan → InkChan) : (s.modInk c f).out = s.out := rfl
@[simp] theorem State.time_modInk (s : State) (c : Chan) (f : InkChan → InkChan) : (s.modInk c f).time = s.time := rfl
@[simp] theorem State.link_modInk (s : State) (c : Chan) (f : InkChan → InkChan) : (s.modInk c f).link = s.link := rfl
@[simp] theorem State.counters_modInk (s : State) (c : Chan) (f : InkChan → InkChan) : (s.modInk c f).counters = s.counters := rfl
@[simp] theorem State.slots_modInk (s : State) (c : Chan) (f : InkChan → InkChan) : (s.modInk c f).slots = s.slots := rfl
@[simp] theorem State.parser_modInk (s : State) (c : Chan) (f : InkChan → InkChan) : (s.modInk c f).parser = s.parser := rfl
@[simp] theorem State.windows_modInk (s : State) (c : Chan) (f : InkChan → InkChan) : (s.modInk c f).windows = s.windows := rfl
@[simp] theorem State.nextWid_modInk (s : State) (c : Chan) (f : InkChan → InkChan) : (s.modInk c f).nextWid = s.nextWid := rfl
@[simp] theorem State.flow_modInk (s : State) (c : Chan) (f : InkChan → InkChan) : (s.modInk c f).flow = s.flow := rfl
@[simp] theorem State.ink_modInk (s : State) (c : Chan) (f : InkChan → InkChan) : (s.modInk c f).ink = s.ink.set c (f (s.ink.get c)) := rfl
@[simp] theorem State.health_modInk (s : State) (c : Chan) (f : InkChan → InkChan) : (s.modInk c f).health = s.health := rfl
@[simp] theorem State.svc_modInk (s : State) (c : Chan) (f : InkChan → InkChan) : (s.modInk c f).svc = s.svc := rfl
@[simp] theorem State.media_modInk (s : State) (c : Chan) (f : InkChan → InkChan) : (s.modInk c f).media = s.media := rfl
@[simp] theorem State.prof_modInk (s : State) (c : Chan) (f : InkChan → InkChan) : (s.modInk c f).prof = s.prof := rfl
@[simp] theorem State.mail_modInk (s : State) (c : Chan) (f : InkChan → InkChan) : (s.modInk c f).mail = s.mail := rfl
@[simp] theorem State.events_modInk (s : State) (c : Chan) (f : InkChan → InkChan) : (s.modInk c f).events = s.events := rfl

@[simp] theorem State.pending_modSvc (s : State) (f : Service → Service) : (s.modSvc f).pending = s.pending := rfl
@[simp] theorem State.agenda_modSvc (s : State) (f : Service → Service) : (s.modSvc f).agenda = s.agenda := rfl
@[simp] theorem State.out_modSvc (s : State) (f : Service → Service) : (s.modSvc f).out = s.out := rfl
@[simp] theorem State.time_modSvc (s : State) (f : Service → Service) : (s.modSvc f).time = s.time := rfl
@[simp] theorem State.link_modSvc (s : State) (f : Service → Service) : (s.modSvc f).link = s.link := rfl
@[simp] theorem State.counters_modSvc (s : State) (f : Service → Service) : (s.modSvc f).counters = s.counters := rfl
@[simp] theorem State.slots_modSvc (s : State) (f : Service → Service) : (s.modSvc f).slots = s.slots := rfl
@[simp] theorem State.parser_modSvc (s : State) (f : Service → Service) : (s.modSvc f).parser = s.parser := rfl
@[simp] theorem State.windows_modSvc (s : State) (f : Service → Service) : (s.modSvc f).windows = s.windows := rfl
@[simp] theorem State.nextWid_modSvc (s : State) (f : Service → Service) : (s.modSvc f).nextWid = s.nextWid := rfl
@[simp] theorem State.flow_modSvc (s : State) (f : Service → Service) : (s.modSvc f).flow = s.flow := rfl
@[simp] theorem State.ink_modSvc (s : State) (f : Service → Service) : (s.modSvc f).ink = s.ink := rfl
@[simp] theorem State.health_modSvc (s : State) (f : Service → Service) : (s.modSvc f).health = s.health := rfl
@[simp] theorem State.svc_modSvc (s : State) (f : Service → Service) : (s.modSvc f).svc = f s.svc := rfl
@[simp] theorem State.media_modSvc (s : State) (f : Service → Service) : (s.modSvc f).media = s.media := rfl
@[simp] theorem State.prof_modSvc (s : State) (f : Service → Service) : (s.modSvc f).prof = s.prof := rfl
@[simp] theorem State.mail_modSvc (s : State) (f : Service → Service) : (s.modSvc f).mail = s.mail := rfl
@[simp] theorem State.events_modSvc (s : State) (f : Service → Service) : (s.modSvc f).events = s.events := rfl

@[simp] theorem State.pending_modMedia (s : State) (f : Media → Media) : (s.modMedia f).pending = s.pending := rfl
@[simp] theorem State.agenda_modMedia (s : State) (f : Media → Media) : (s.modMedia f).agenda = s.agenda := rfl
@[simp] theorem State.out_modMedia (s : State) (f : Media → Media) : (s.modMedia f).out = s.out := rfl
@[simp] theorem State.time_modMedia (s : State) (f : Media → Media) : (s.modMedia f).time = s.time := rfl
@[simp] theorem State.link_modMedia (s : State) (f : Media → Media) : (s.modMedia f).link = s.link := rfl
@[simp] theorem State.counters_modMedia (s : State) (f : Media → Media) : (s.modMedia f).counters = s.counters := rfl
@[simp] theorem State.slots_modMedia (s : State) (f : Media → Media) : (s.modMedia f).slots = s.slots := rfl
@[simp] theorem State.parser_modMedia (s : State) (f : Media → Media) : (s.modMedia f).parser = s.parser := rfl
@[simp] theorem State.windows_modMedia (s : State) (f : Media → Media) : (s.modMedia f).windows = s.windows := rfl
@[simp] theorem State.nextWid_modMedia (s : State) (f : Media → Media) : (s.modMedia f).nextWid = s.nextWid := rfl
@[simp] theorem State.flow_modMedia (s : State) (f : Media → Media) : (s.modMedia f).flow = s.flow := rfl
@[simp] theorem State.ink_modMedia (s : State) (f : Media → Media) : (s.modMedia f).ink = s.ink := rfl
@[simp] theorem State.health_modMedia (s : State) (f : Media → Media) : (s.modMedia f).health = s.health := rfl
@[simp] theorem State.svc_modMedia (s : State) (f : Media → Media) : (s.modMedia f).svc = s.svc := rfl
@[simp] theorem State.media_modMedia (s : State) (f : Media → Media) : (s.modMedia f).media = f s.media := rfl
@[simp] theorem State.prof_modMedia (s : State) (f : Media → Media) : (s.modMedia f).prof = s.prof := rfl
@[simp] theorem State.mail_modMedia (s : State) (f : Media → Media) : (s.modMedia f).mail = s.mail := rfl
@[simp] theorem State.events_modMedia (s : State) (f : Media → Media) : (s.modMedia f).events = s.events := rfl

@[simp] theorem State.pending_modHealth (s : State) (c : Chan) (f : HealthChan → HealthChan) : (s.modHealth c f).pending = s.pending := rfl
@[simp] theorem State.agenda_modHealth (s : State) (c : Chan) (f : HealthChan → HealthChan) : (s.modHealth c f).agenda = s.agenda := rfl
@[simp] theorem State.out_modHealth (s : State) (c : Chan) (f : HealthChan → HealthChan) : (s.modHealth c f).out = s.out := rfl
@[simp] theorem State.time_modHealth (s : State) (c : Chan) (f : HealthChan → HealthChan) : (s.modHealth c f).time = s.time := rfl
@[simp] theorem State.link_modHealth (s : State) (c : Chan) (f : HealthChan → HealthChan) : (s.modHealth c f).link = s.link := rfl
@[simp] theorem State.counters_modHealth (s : State) (c : Chan) (f : HealthChan → HealthChan) : (s.modHealth c f).counters = s.counters := rfl
@[simp] theorem State.slots_modHealth (s : State) (c : Chan) (f : HealthChan → HealthChan) : (s.modHealth c f).slots = s.slots := rfl
@[simp] theorem State.parser_modHealth (s : State) (c : Chan) (f : HealthChan → HealthChan) : (s.modHealth c f).parser = s.parser := rfl
@[simp] theorem State.windows_modHealth (s : State) (c : Chan) (f : HealthChan → HealthChan) : (s.modHealth c f).windows = s.windows := rfl
@[simp] theorem State.nextWid_modHealth (s : State) (c : Chan) (f : HealthChan → HealthChan) : (s.modHealth c f).nextWid = s.nextWid := rfl
@[simp] theorem State.flow_modHealth (s : State) (c : Chan) (f : HealthChan → HealthChan) : (s.modHealth c f).flow = s.flow := rfl
@[simp] theorem State.ink_modHealth (s : State) (c : Chan) (f : HealthChan → HealthChan) : (s.modHealth c f).ink = s.ink := rfl
@[simp] theorem State.health_modHealth (s : State) (c : Chan) (f : HealthChan → HealthChan) : (s.modHealth c f).health = s.health.set c (f (s.health.get c)) := rfl
@[simp] theorem State.svc_modHealth (s : State) (c : Chan) (f : HealthChan → HealthChan) : (s.modHealth c f).svc = s.svc := rfl
@[simp] theorem State.media_modHealth (s : State) (c : Chan) (f : HealthChan → HealthChan) : (s.modHealth c f).media = s.media := rfl
@[simp] theorem State.prof_modHealth (s : State) (c : Chan) (f : HealthChan → HealthChan) : (s.modHealth c f).prof = s.prof := rfl
@[simp] theorem State.mail_modHealth (s : State) (c : Chan) (f : HealthChan → HealthChan) : (s.modHealth c f).mail = s.mail := rfl
@[simp] theorem State.events_modHealth (s : State) (c : Chan) (f : HealthChan → HealthChan) : (s.modHealth c f).events = s.events := rfl

@[simp] theorem State.pending_modSheet (s : State) (sid : Nat) (f : Sheet → Sheet) : (s.modSheet sid f).pending = s.pending := rfl
@[simp] theorem State.agenda_modSheet (s : State) (sid : Nat) (f : Sheet → Sheet) : (s.modSheet sid f).agenda = s.agenda := rfl
@[simp] theorem State.out_modSheet (s : State) (sid : Nat) (f : Sheet → Sheet) : (s.modSheet sid f).out = s.out := rfl
@[simp] theorem State.time_modSheet (s : State) (sid : Nat) (f : Sheet → Sheet) : (s.modSheet sid f).time = s.time := rfl
@[simp] theorem State.link_modSheet (s : State) (sid : Nat) (f : Sheet → Sheet) : (s.modSheet sid f).link = s.link := rfl
@[simp] theorem State.counters_modSheet (s : State) (sid : Nat) (f : Sheet → Sheet) : (s.modSheet sid f).counters = s.counters := rfl
@[simp] theorem State.slots_modSheet (s : State) (sid : Nat) (f : Sheet → Sheet) : (s.modSheet sid f).slots = s.slots := rfl
@[simp] theorem State.parser_modSheet (s : State) (sid : Nat) (f : Sheet → Sheet) : (s.modSheet sid f).parser = s.parser := rfl
@[simp] theorem State.windows_modSheet (s : State) (sid : Nat) (f : Sheet → Sheet) : (s.modSheet sid f).windows = s.windows := rfl
@[simp] theorem State.nextWid_modSheet (s : State) (sid : Nat) (f : Sheet → Sheet) : (s.modSheet sid f).nextWid = s.nextWid := rfl
@[simp] theorem State.flow_modSheet (s : State) (sid : Nat) (f : Sheet → Sheet) : (s.modSheet sid f).flow = s.flow := rfl
@[simp] theorem State.ink_modSheet (s : State) (sid : Nat) (f : Sheet → Sheet) : (s.modSheet sid f).ink = s.ink := rfl
@[simp] theorem State.health_modSheet (s : State) (sid : Nat) (f : Sheet → Sheet) : (s.modSheet sid f).health = s.health := rfl
@[simp] theorem State.svc_modSheet (s : State) (sid : Nat) (f : Sheet → Sheet) : (s.modSheet sid f).svc = s.svc := rfl
@[simp] theorem State.media_modSheet (s : State) (sid : Nat) (f : Sheet → Sheet) : (s.modSheet sid f).media = { s.media with table := s.media.table.map fun t => if t.sid = sid then f t else t } := rfl
@[simp] theorem State.prof_modSheet (s : State) (sid : Nat) (f : Sheet → Sheet) : (s.modSheet sid f).prof = s.prof := rfl
@[simp] theorem State.mail_modSheet (s : State) (sid : Nat) (f : Sheet → Sheet) : (s.modSheet sid f).mail = s.mail := rfl
@[simp] theorem State.events_modSheet (s : State) (sid : Nat) (f : Sheet → Sheet) : (s.modSheet sid f).events = s.events := rfl

@[simp] theorem State.pending_post (s : State) (k : EventKind) (a b c : Nat) : (s.post k a b c).pending = s.pending := rfl
@[simp] theorem State.agenda_post (s : State) (k : EventKind) (a b c : Nat) : (s.post k a b c).agenda = s.agenda := rfl
@[simp] theorem State.out_post (s : State) (k : EventKind) (a b c : Nat) : (s.post k a b c).out = s.out := rfl
@[simp] theorem State.time_post (s : State) (k : EventKind) (a b c : Nat) : (s.post k a b c).time = s.time := rfl
@[simp] theorem State.link_post (s : State) (k : EventKind) (a b c : Nat) : (s.post k a b c).link = s.link := rfl
@[simp] theorem State.counters_post (s : State) (k : EventKind) (a b c : Nat) : (s.post k a b c).counters = s.counters := rfl
@[simp] theorem State.slots_post (s : State) (k : EventKind) (a b c : Nat) : (s.post k a b c).slots = s.slots := rfl
@[simp] theorem State.parser_post (s : State) (k : EventKind) (a b c : Nat) : (s.post k a b c).parser = s.parser := rfl
@[simp] theorem State.windows_post (s : State) (k : EventKind) (a b c : Nat) : (s.post k a b c).windows = s.windows := rfl
@[simp] theorem State.nextWid_post (s : State) (k : EventKind) (a b c : Nat) : (s.post k a b c).nextWid = s.nextWid := rfl
@[simp] theorem State.flow_post (s : State) (k : EventKind) (a b c : Nat) : (s.post k a b c).flow = s.flow := rfl
@[simp] theorem State.ink_post (s : State) (k : EventKind) (a b c : Nat) : (s.post k a b c).ink = s.ink := rfl
@[simp] theorem State.health_post (s : State) (k : EventKind) (a b c : Nat) : (s.post k a b c).health = s.health := rfl
@[simp] theorem State.svc_post (s : State) (k : EventKind) (a b c : Nat) : (s.post k a b c).svc = s.svc := rfl
@[simp] theorem State.media_post (s : State) (k : EventKind) (a b c : Nat) : (s.post k a b c).media = s.media := rfl
@[simp] theorem State.prof_post (s : State) (k : EventKind) (a b c : Nat) : (s.post k a b c).prof = s.prof := rfl
@[simp] theorem State.mail_post (s : State) (k : EventKind) (a b c : Nat) : (s.post k a b c).mail = s.mail := rfl
@[simp] theorem State.events_post (s : State) (k : EventKind) (a b c : Nat) : (s.post k a b c).events = s.events.enter (Event.make s.time.ms k a b c) := rfl

@[simp] theorem State.pending_wake (s : State) (rs : List Reaction) : (s.wake rs).pending = s.pending := rfl
@[simp] theorem State.agenda_wake (s : State) (rs : List Reaction) : (s.wake rs).agenda = (rs.filter s.schedules).foldl addReaction s.agenda := rfl
@[simp] theorem State.out_wake (s : State) (rs : List Reaction) : (s.wake rs).out = s.out := rfl
@[simp] theorem State.time_wake (s : State) (rs : List Reaction) : (s.wake rs).time = s.time := rfl
@[simp] theorem State.link_wake (s : State) (rs : List Reaction) : (s.wake rs).link = s.link := rfl
@[simp] theorem State.counters_wake (s : State) (rs : List Reaction) : (s.wake rs).counters = s.counters := rfl
@[simp] theorem State.slots_wake (s : State) (rs : List Reaction) : (s.wake rs).slots = s.slots := rfl
@[simp] theorem State.parser_wake (s : State) (rs : List Reaction) : (s.wake rs).parser = s.parser := rfl
@[simp] theorem State.windows_wake (s : State) (rs : List Reaction) : (s.wake rs).windows = s.windows := rfl
@[simp] theorem State.nextWid_wake (s : State) (rs : List Reaction) : (s.wake rs).nextWid = s.nextWid := rfl
@[simp] theorem State.flow_wake (s : State) (rs : List Reaction) : (s.wake rs).flow = s.flow := rfl
@[simp] theorem State.ink_wake (s : State) (rs : List Reaction) : (s.wake rs).ink = s.ink := rfl
@[simp] theorem State.health_wake (s : State) (rs : List Reaction) : (s.wake rs).health = s.health := rfl
@[simp] theorem State.svc_wake (s : State) (rs : List Reaction) : (s.wake rs).svc = s.svc := rfl
@[simp] theorem State.media_wake (s : State) (rs : List Reaction) : (s.wake rs).media = s.media := rfl
@[simp] theorem State.prof_wake (s : State) (rs : List Reaction) : (s.wake rs).prof = s.prof := rfl
@[simp] theorem State.mail_wake (s : State) (rs : List Reaction) : (s.wake rs).mail = s.mail := rfl
@[simp] theorem State.events_wake (s : State) (rs : List Reaction) : (s.wake rs).events = s.events := rfl

@[simp] theorem State.pending_wakeFirst (s : State) (r : Reaction) : (s.wakeFirst r).pending = s.pending := rfl
@[simp] theorem State.agenda_wakeFirst (s : State) (r : Reaction) : (s.wakeFirst r).agenda = r :: s.agenda := rfl
@[simp] theorem State.out_wakeFirst (s : State) (r : Reaction) : (s.wakeFirst r).out = s.out := rfl
@[simp] theorem State.time_wakeFirst (s : State) (r : Reaction) : (s.wakeFirst r).time = s.time := rfl
@[simp] theorem State.link_wakeFirst (s : State) (r : Reaction) : (s.wakeFirst r).link = s.link := rfl
@[simp] theorem State.counters_wakeFirst (s : State) (r : Reaction) : (s.wakeFirst r).counters = s.counters := rfl
@[simp] theorem State.slots_wakeFirst (s : State) (r : Reaction) : (s.wakeFirst r).slots = s.slots := rfl
@[simp] theorem State.parser_wakeFirst (s : State) (r : Reaction) : (s.wakeFirst r).parser = s.parser := rfl
@[simp] theorem State.windows_wakeFirst (s : State) (r : Reaction) : (s.wakeFirst r).windows = s.windows := rfl
@[simp] theorem State.nextWid_wakeFirst (s : State) (r : Reaction) : (s.wakeFirst r).nextWid = s.nextWid := rfl
@[simp] theorem State.flow_wakeFirst (s : State) (r : Reaction) : (s.wakeFirst r).flow = s.flow := rfl
@[simp] theorem State.ink_wakeFirst (s : State) (r : Reaction) : (s.wakeFirst r).ink = s.ink := rfl
@[simp] theorem State.health_wakeFirst (s : State) (r : Reaction) : (s.wakeFirst r).health = s.health := rfl
@[simp] theorem State.svc_wakeFirst (s : State) (r : Reaction) : (s.wakeFirst r).svc = s.svc := rfl
@[simp] theorem State.media_wakeFirst (s : State) (r : Reaction) : (s.wakeFirst r).media = s.media := rfl
@[simp] theorem State.prof_wakeFirst (s : State) (r : Reaction) : (s.wakeFirst r).prof = s.prof := rfl
@[simp] theorem State.mail_wakeFirst (s : State) (r : Reaction) : (s.wakeFirst r).mail = s.mail := rfl
@[simp] theorem State.events_wakeFirst (s : State) (r : Reaction) : (s.wakeFirst r).events = s.events := rfl

@[simp] theorem State.pending_stir (s : State) : s.stir.pending = s.pending := State.pending_wake s allTests
@[simp] theorem State.out_stir (s : State) : s.stir.out = s.out := State.out_wake s allTests
@[simp] theorem State.time_stir (s : State) : s.stir.time = s.time := State.time_wake s allTests
@[simp] theorem State.link_stir (s : State) : s.stir.link = s.link := State.link_wake s allTests
@[simp] theorem State.counters_stir (s : State) : s.stir.counters = s.counters := State.counters_wake s allTests
@[simp] theorem State.slots_stir (s : State) : s.stir.slots = s.slots := State.slots_wake s allTests
@[simp] theorem State.parser_stir (s : State) : s.stir.parser = s.parser := State.parser_wake s allTests
@[simp] theorem State.windows_stir (s : State) : s.stir.windows = s.windows := State.windows_wake s allTests
@[simp] theorem State.nextWid_stir (s : State) : s.stir.nextWid = s.nextWid := State.nextWid_wake s allTests
@[simp] theorem State.flow_stir (s : State) : s.stir.flow = s.flow := State.flow_wake s allTests
@[simp] theorem State.ink_stir (s : State) : s.stir.ink = s.ink := State.ink_wake s allTests
@[simp] theorem State.health_stir (s : State) : s.stir.health = s.health := State.health_wake s allTests
@[simp] theorem State.svc_stir (s : State) : s.stir.svc = s.svc := State.svc_wake s allTests
@[simp] theorem State.media_stir (s : State) : s.stir.media = s.media := State.media_wake s allTests
@[simp] theorem State.prof_stir (s : State) : s.stir.prof = s.prof := State.prof_wake s allTests
@[simp] theorem State.mail_stir (s : State) : s.stir.mail = s.mail := State.mail_wake s allTests
@[simp] theorem State.events_stir (s : State) : s.stir.events = s.events := State.events_wake s allTests

@[simp] theorem State.pending_answer (s : State) (cls : ReqClass) (a : Nat) (d : List Byte) : (s.answer cls a d).pending = s.pending := rfl
@[simp] theorem State.agenda_answer (s : State) (cls : ReqClass) (a : Nat) (d : List Byte) : (s.answer cls a d).agenda = s.agenda := rfl
@[simp] theorem State.out_answer (s : State) (cls : ReqClass) (a : Nat) (d : List Byte) : (s.answer cls a d).out = { s.out with answers := s.out.answers ++ s.returned { cls := cls, addr := a, data := d } } := rfl
@[simp] theorem State.time_answer (s : State) (cls : ReqClass) (a : Nat) (d : List Byte) : (s.answer cls a d).time = s.time := rfl
@[simp] theorem State.link_answer (s : State) (cls : ReqClass) (a : Nat) (d : List Byte) : (s.answer cls a d).link = { s.link with gathered := s.keptBack { cls := cls, addr := a, data := d } } := rfl
@[simp] theorem State.counters_answer (s : State) (cls : ReqClass) (a : Nat) (d : List Byte) : (s.answer cls a d).counters = s.counters := rfl
@[simp] theorem State.slots_answer (s : State) (cls : ReqClass) (a : Nat) (d : List Byte) : (s.answer cls a d).slots = s.slots := rfl
@[simp] theorem State.parser_answer (s : State) (cls : ReqClass) (a : Nat) (d : List Byte) : (s.answer cls a d).parser = s.parser := rfl
@[simp] theorem State.windows_answer (s : State) (cls : ReqClass) (a : Nat) (d : List Byte) : (s.answer cls a d).windows = s.windows := rfl
@[simp] theorem State.nextWid_answer (s : State) (cls : ReqClass) (a : Nat) (d : List Byte) : (s.answer cls a d).nextWid = s.nextWid := rfl
@[simp] theorem State.flow_answer (s : State) (cls : ReqClass) (a : Nat) (d : List Byte) : (s.answer cls a d).flow = s.flow := rfl
@[simp] theorem State.ink_answer (s : State) (cls : ReqClass) (a : Nat) (d : List Byte) : (s.answer cls a d).ink = s.ink := rfl
@[simp] theorem State.health_answer (s : State) (cls : ReqClass) (a : Nat) (d : List Byte) : (s.answer cls a d).health = s.health := rfl
@[simp] theorem State.svc_answer (s : State) (cls : ReqClass) (a : Nat) (d : List Byte) : (s.answer cls a d).svc = s.svc := rfl
@[simp] theorem State.media_answer (s : State) (cls : ReqClass) (a : Nat) (d : List Byte) : (s.answer cls a d).media = s.media := rfl
@[simp] theorem State.prof_answer (s : State) (cls : ReqClass) (a : Nat) (d : List Byte) : (s.answer cls a d).prof = s.prof := rfl
@[simp] theorem State.mail_answer (s : State) (cls : ReqClass) (a : Nat) (d : List Byte) : (s.answer cls a d).mail = s.mail := rfl
@[simp] theorem State.events_answer (s : State) (cls : ReqClass) (a : Nat) (d : List Byte) : (s.answer cls a d).events = s.events := rfl

@[simp] theorem State.pending_forward (s : State) (x : Forward) : (s.forward x).pending = s.pending := rfl
@[simp] theorem State.agenda_forward (s : State) (x : Forward) : (s.forward x).agenda = s.agenda := rfl
@[simp] theorem State.out_forward (s : State) (x : Forward) : (s.forward x).out = { s.out with forwarded := s.out.forwarded ++ [x] } := rfl
@[simp] theorem State.time_forward (s : State) (x : Forward) : (s.forward x).time = s.time := rfl
@[simp] theorem State.link_forward (s : State) (x : Forward) : (s.forward x).link = s.link := rfl
@[simp] theorem State.counters_forward (s : State) (x : Forward) : (s.forward x).counters = s.counters := rfl
@[simp] theorem State.slots_forward (s : State) (x : Forward) : (s.forward x).slots = s.slots := rfl
@[simp] theorem State.parser_forward (s : State) (x : Forward) : (s.forward x).parser = s.parser := rfl
@[simp] theorem State.windows_forward (s : State) (x : Forward) : (s.forward x).windows = s.windows := rfl
@[simp] theorem State.nextWid_forward (s : State) (x : Forward) : (s.forward x).nextWid = s.nextWid := rfl
@[simp] theorem State.flow_forward (s : State) (x : Forward) : (s.forward x).flow = s.flow := rfl
@[simp] theorem State.ink_forward (s : State) (x : Forward) : (s.forward x).ink = s.ink := rfl
@[simp] theorem State.health_forward (s : State) (x : Forward) : (s.forward x).health = s.health := rfl
@[simp] theorem State.svc_forward (s : State) (x : Forward) : (s.forward x).svc = s.svc := rfl
@[simp] theorem State.media_forward (s : State) (x : Forward) : (s.forward x).media = s.media := rfl
@[simp] theorem State.prof_forward (s : State) (x : Forward) : (s.forward x).prof = s.prof := rfl
@[simp] theorem State.mail_forward (s : State) (x : Forward) : (s.forward x).mail = s.mail := rfl
@[simp] theorem State.events_forward (s : State) (x : Forward) : (s.forward x).events = s.events := rfl

@[simp] theorem State.pending_bodyWrite (s : State) (o : Nat) (w : WriteBeat) : (s.bodyWrite o w).pending = s.pending := rfl
@[simp] theorem State.agenda_bodyWrite (s : State) (o : Nat) (w : WriteBeat) : (s.bodyWrite o w).agenda = s.agenda := rfl
@[simp] theorem State.out_bodyWrite (s : State) (o : Nat) (w : WriteBeat) : (s.bodyWrite o w).out = s.out := rfl
@[simp] theorem State.time_bodyWrite (s : State) (o : Nat) (w : WriteBeat) : (s.bodyWrite o w).time = s.time := rfl
@[simp] theorem State.link_bodyWrite (s : State) (o : Nat) (w : WriteBeat) : (s.bodyWrite o w).link = s.link := rfl
@[simp] theorem State.counters_bodyWrite (s : State) (o : Nat) (w : WriteBeat) : (s.bodyWrite o w).counters = s.counters := rfl
@[simp] theorem State.slots_bodyWrite (s : State) (o : Nat) (w : WriteBeat) : (s.bodyWrite o w).slots = s.slots := rfl
@[simp] theorem State.parser_bodyWrite (s : State) (o : Nat) (w : WriteBeat) : (s.bodyWrite o w).parser = s.parser := rfl
@[simp] theorem State.windows_bodyWrite (s : State) (o : Nat) (w : WriteBeat) : (s.bodyWrite o w).windows = s.windows := rfl
@[simp] theorem State.nextWid_bodyWrite (s : State) (o : Nat) (w : WriteBeat) : (s.bodyWrite o w).nextWid = s.nextWid := rfl
@[simp] theorem State.flow_bodyWrite (s : State) (o : Nat) (w : WriteBeat) : (s.bodyWrite o w).flow = s.flow := rfl
@[simp] theorem State.ink_bodyWrite (s : State) (o : Nat) (w : WriteBeat) : (s.bodyWrite o w).ink = s.ink := rfl
@[simp] theorem State.health_bodyWrite (s : State) (o : Nat) (w : WriteBeat) : (s.bodyWrite o w).health = s.health := rfl
@[simp] theorem State.svc_bodyWrite (s : State) (o : Nat) (w : WriteBeat) : (s.bodyWrite o w).svc = s.svc := rfl
@[simp] theorem State.media_bodyWrite (s : State) (o : Nat) (w : WriteBeat) : (s.bodyWrite o w).media = s.media := rfl
@[simp] theorem State.prof_bodyWrite (s : State) (o : Nat) (w : WriteBeat) : (s.bodyWrite o w).prof = s.prof := rfl
@[simp] theorem State.mail_bodyWrite (s : State) (o : Nat) (w : WriteBeat) : (s.bodyWrite o w).mail = { s.mail with body := mergeBeat s.mail.body o w } := rfl
@[simp] theorem State.events_bodyWrite (s : State) (o : Nat) (w : WriteBeat) : (s.bodyWrite o w).events = s.events := rfl

@[simp] theorem State.pending_putResult (s : State) (q : Seq) (n : Nat) (r : ResultCode) (d : Nat) : (s.putResult q n r d).pending = s.pending := rfl
@[simp] theorem State.agenda_putResult (s : State) (q : Seq) (n : Nat) (r : ResultCode) (d : Nat) : (s.putResult q n r d).agenda = s.agenda := rfl
@[simp] theorem State.out_putResult (s : State) (q : Seq) (n : Nat) (r : ResultCode) (d : Nat) : (s.putResult q n r d).out = s.out := rfl
@[simp] theorem State.time_putResult (s : State) (q : Seq) (n : Nat) (r : ResultCode) (d : Nat) : (s.putResult q n r d).time = s.time := rfl
@[simp] theorem State.link_putResult (s : State) (q : Seq) (n : Nat) (r : ResultCode) (d : Nat) : (s.putResult q n r d).link = s.link := rfl
@[simp] theorem State.counters_putResult (s : State) (q : Seq) (n : Nat) (r : ResultCode) (d : Nat) : (s.putResult q n r d).counters = s.counters := rfl
@[simp] theorem State.slots_putResult (s : State) (q : Seq) (n : Nat) (r : ResultCode) (d : Nat) : (s.putResult q n r d).slots = s.slots := rfl
@[simp] theorem State.parser_putResult (s : State) (q : Seq) (n : Nat) (r : ResultCode) (d : Nat) : (s.putResult q n r d).parser = s.parser := rfl
@[simp] theorem State.windows_putResult (s : State) (q : Seq) (n : Nat) (r : ResultCode) (d : Nat) : (s.putResult q n r d).windows = s.windows := rfl
@[simp] theorem State.nextWid_putResult (s : State) (q : Seq) (n : Nat) (r : ResultCode) (d : Nat) : (s.putResult q n r d).nextWid = s.nextWid := rfl
@[simp] theorem State.flow_putResult (s : State) (q : Seq) (n : Nat) (r : ResultCode) (d : Nat) : (s.putResult q n r d).flow = s.flow := rfl
@[simp] theorem State.ink_putResult (s : State) (q : Seq) (n : Nat) (r : ResultCode) (d : Nat) : (s.putResult q n r d).ink = s.ink := rfl
@[simp] theorem State.health_putResult (s : State) (q : Seq) (n : Nat) (r : ResultCode) (d : Nat) : (s.putResult q n r d).health = s.health := rfl
@[simp] theorem State.svc_putResult (s : State) (q : Seq) (n : Nat) (r : ResultCode) (d : Nat) : (s.putResult q n r d).svc = s.svc := rfl
@[simp] theorem State.media_putResult (s : State) (q : Seq) (n : Nat) (r : ResultCode) (d : Nat) : (s.putResult q n r d).media = s.media := rfl
@[simp] theorem State.prof_putResult (s : State) (q : Seq) (n : Nat) (r : ResultCode) (d : Nat) : (s.putResult q n r d).prof = s.prof := rfl
@[simp] theorem State.mail_putResult (s : State) (q : Seq) (n : Nat) (r : ResultCode) (d : Nat) : (s.putResult q n r d).mail = { s.mail with seq := q, kind := n, result := some r, detail := d % 65536, count := s.mail.count + 1 } := rfl
@[simp] theorem State.events_putResult (s : State) (q : Seq) (n : Nat) (r : ResultCode) (d : Nat) : (s.putResult q n r d).events = s.events := rfl

@[simp] theorem State.pending_starveZero (s : State) : (s.starveZero).pending = s.pending := rfl
@[simp] theorem State.agenda_starveZero (s : State) : (s.starveZero).agenda = s.agenda := rfl
@[simp] theorem State.out_starveZero (s : State) : (s.starveZero).out = s.out := rfl
@[simp] theorem State.time_starveZero (s : State) : (s.starveZero).time = s.time := rfl
@[simp] theorem State.link_starveZero (s : State) : (s.starveZero).link = s.link := rfl
@[simp] theorem State.counters_starveZero (s : State) : (s.starveZero).counters = s.counters := rfl
@[simp] theorem State.slots_starveZero (s : State) : (s.starveZero).slots = s.slots := rfl
@[simp] theorem State.parser_starveZero (s : State) : (s.starveZero).parser = s.parser := rfl
@[simp] theorem State.windows_starveZero (s : State) : (s.starveZero).windows = s.windows := rfl
@[simp] theorem State.nextWid_starveZero (s : State) : (s.starveZero).nextWid = s.nextWid := rfl
@[simp] theorem State.flow_starveZero (s : State) : (s.starveZero).flow = { s.flow with starveMs := 0, starvedPosted := false } := rfl
@[simp] theorem State.ink_starveZero (s : State) : (s.starveZero).ink = s.ink := rfl
@[simp] theorem State.health_starveZero (s : State) : (s.starveZero).health = s.health := rfl
@[simp] theorem State.svc_starveZero (s : State) : (s.starveZero).svc = s.svc := rfl
@[simp] theorem State.media_starveZero (s : State) : (s.starveZero).media = s.media := rfl
@[simp] theorem State.prof_starveZero (s : State) : (s.starveZero).prof = s.prof := rfl
@[simp] theorem State.mail_starveZero (s : State) : (s.starveZero).mail = s.mail := rfl
@[simp] theorem State.events_starveZero (s : State) : (s.starveZero).events = s.events := rfl

@[simp] theorem State.pending_removeWindows (s : State) (i : SlotIx) : (s.removeWindows i).pending = s.pending := rfl
@[simp] theorem State.agenda_removeWindows (s : State) (i : SlotIx) : (s.removeWindows i).agenda = s.agenda := rfl
@[simp] theorem State.out_removeWindows (s : State) (i : SlotIx) : (s.removeWindows i).out = s.out := rfl
@[simp] theorem State.time_removeWindows (s : State) (i : SlotIx) : (s.removeWindows i).time = s.time := rfl
@[simp] theorem State.link_removeWindows (s : State) (i : SlotIx) : (s.removeWindows i).link = s.link := rfl
@[simp] theorem State.counters_removeWindows (s : State) (i : SlotIx) : (s.removeWindows i).counters = s.counters := rfl
@[simp] theorem State.slots_removeWindows (s : State) (i : SlotIx) : (s.removeWindows i).slots = s.slots := rfl
@[simp] theorem State.parser_removeWindows (s : State) (i : SlotIx) : (s.removeWindows i).parser = s.parser := rfl
@[simp] theorem State.windows_removeWindows (s : State) (i : SlotIx) : (s.removeWindows i).windows = s.windows.filter fun w => w.slot ≠ i := rfl
@[simp] theorem State.nextWid_removeWindows (s : State) (i : SlotIx) : (s.removeWindows i).nextWid = s.nextWid := rfl
@[simp] theorem State.flow_removeWindows (s : State) (i : SlotIx) : (s.removeWindows i).flow = s.flow := rfl
@[simp] theorem State.ink_removeWindows (s : State) (i : SlotIx) : (s.removeWindows i).ink = s.ink := rfl
@[simp] theorem State.health_removeWindows (s : State) (i : SlotIx) : (s.removeWindows i).health = s.health := rfl
@[simp] theorem State.svc_removeWindows (s : State) (i : SlotIx) : (s.removeWindows i).svc = s.svc := rfl
@[simp] theorem State.media_removeWindows (s : State) (i : SlotIx) : (s.removeWindows i).media = s.media := rfl
@[simp] theorem State.prof_removeWindows (s : State) (i : SlotIx) : (s.removeWindows i).prof = s.prof := rfl
@[simp] theorem State.mail_removeWindows (s : State) (i : SlotIx) : (s.removeWindows i).mail = s.mail := rfl
@[simp] theorem State.events_removeWindows (s : State) (i : SlotIx) : (s.removeWindows i).events = s.events := rfl

@[simp] theorem State.pending_unpost (s : State) (i : SlotIx) : (s.unpost i).pending = s.pending := rfl
@[simp] theorem State.agenda_unpost (s : State) (i : SlotIx) : (s.unpost i).agenda = s.agenda := rfl
@[simp] theorem State.out_unpost (s : State) (i : SlotIx) : (s.unpost i).out = s.out := rfl
@[simp] theorem State.time_unpost (s : State) (i : SlotIx) : (s.unpost i).time = s.time := rfl
@[simp] theorem State.link_unpost (s : State) (i : SlotIx) : (s.unpost i).link = s.link := rfl
@[simp] theorem State.counters_unpost (s : State) (i : SlotIx) : (s.unpost i).counters = s.counters := rfl
@[simp] theorem State.slots_unpost (s : State) (i : SlotIx) : (s.unpost i).slots = s.slots := rfl
@[simp] theorem State.parser_unpost (s : State) (i : SlotIx) : (s.unpost i).parser = { s.parser with posted := s.parser.posted.filter fun j => j ≠ i } := rfl
@[simp] theorem State.windows_unpost (s : State) (i : SlotIx) : (s.unpost i).windows = s.windows := rfl
@[simp] theorem State.nextWid_unpost (s : State) (i : SlotIx) : (s.unpost i).nextWid = s.nextWid := rfl
@[simp] theorem State.flow_unpost (s : State) (i : SlotIx) : (s.unpost i).flow = s.flow := rfl
@[simp] theorem State.ink_unpost (s : State) (i : SlotIx) : (s.unpost i).ink = s.ink := rfl
@[simp] theorem State.health_unpost (s : State) (i : SlotIx) : (s.unpost i).health = s.health := rfl
@[simp] theorem State.svc_unpost (s : State) (i : SlotIx) : (s.unpost i).svc = s.svc := rfl
@[simp] theorem State.media_unpost (s : State) (i : SlotIx) : (s.unpost i).media = s.media := rfl
@[simp] theorem State.prof_unpost (s : State) (i : SlotIx) : (s.unpost i).prof = s.prof := rfl
@[simp] theorem State.mail_unpost (s : State) (i : SlotIx) : (s.unpost i).mail = s.mail := rfl
@[simp] theorem State.events_unpost (s : State) (i : SlotIx) : (s.unpost i).events = s.events := rfl

@[simp] theorem State.pending_takeSequence (s : State) (q : Seq) : (s.takeSequence q).pending = s.pending := rfl
@[simp] theorem State.agenda_takeSequence (s : State) (q : Seq) : (s.takeSequence q).agenda = s.agenda := rfl
@[simp] theorem State.out_takeSequence (s : State) (q : Seq) : (s.takeSequence q).out = s.out := rfl
@[simp] theorem State.time_takeSequence (s : State) (q : Seq) : (s.takeSequence q).time = s.time := rfl
@[simp] theorem State.link_takeSequence (s : State) (q : Seq) : (s.takeSequence q).link = s.link := rfl
@[simp] theorem State.counters_takeSequence (s : State) (q : Seq) : (s.takeSequence q).counters = s.counters := rfl
@[simp] theorem State.slots_takeSequence (s : State) (q : Seq) : (s.takeSequence q).slots = s.slots := rfl
@[simp] theorem State.parser_takeSequence (s : State) (q : Seq) : (s.takeSequence q).parser = { s.parser with lastAccepted := some q, expected := s.parser.expected + 1 } := rfl
@[simp] theorem State.windows_takeSequence (s : State) (q : Seq) : (s.takeSequence q).windows = s.windows := rfl
@[simp] theorem State.nextWid_takeSequence (s : State) (q : Seq) : (s.takeSequence q).nextWid = s.nextWid := rfl
@[simp] theorem State.flow_takeSequence (s : State) (q : Seq) : (s.takeSequence q).flow = s.flow := rfl
@[simp] theorem State.ink_takeSequence (s : State) (q : Seq) : (s.takeSequence q).ink = s.ink := rfl
@[simp] theorem State.health_takeSequence (s : State) (q : Seq) : (s.takeSequence q).health = s.health := rfl
@[simp] theorem State.svc_takeSequence (s : State) (q : Seq) : (s.takeSequence q).svc = s.svc := rfl
@[simp] theorem State.media_takeSequence (s : State) (q : Seq) : (s.takeSequence q).media = s.media := rfl
@[simp] theorem State.prof_takeSequence (s : State) (q : Seq) : (s.takeSequence q).prof = s.prof := rfl
@[simp] theorem State.mail_takeSequence (s : State) (q : Seq) : (s.takeSequence q).mail = s.mail := rfl
@[simp] theorem State.events_takeSequence (s : State) (q : Seq) : (s.takeSequence q).events = s.events := rfl

/-! ### A roll's record -/

@[simp] theorem State.pending_modRoll (s : State) (r : Roll) (f : RollRec → RollRec) : (s.modRoll r f).pending = s.pending := by cases r <;> rfl
@[simp] theorem State.agenda_modRoll (s : State) (r : Roll) (f : RollRec → RollRec) : (s.modRoll r f).agenda = s.agenda := by cases r <;> rfl
@[simp] theorem State.out_modRoll (s : State) (r : Roll) (f : RollRec → RollRec) : (s.modRoll r f).out = s.out := by cases r <;> rfl
@[simp] theorem State.time_modRoll (s : State) (r : Roll) (f : RollRec → RollRec) : (s.modRoll r f).time = s.time := by cases r <;> rfl
@[simp] theorem State.link_modRoll (s : State) (r : Roll) (f : RollRec → RollRec) : (s.modRoll r f).link = s.link := by cases r <;> rfl
@[simp] theorem State.counters_modRoll (s : State) (r : Roll) (f : RollRec → RollRec) : (s.modRoll r f).counters = s.counters := by cases r <;> rfl
@[simp] theorem State.slots_modRoll (s : State) (r : Roll) (f : RollRec → RollRec) : (s.modRoll r f).slots = s.slots := by cases r <;> rfl
@[simp] theorem State.parser_modRoll (s : State) (r : Roll) (f : RollRec → RollRec) : (s.modRoll r f).parser = s.parser := by cases r <;> rfl
@[simp] theorem State.windows_modRoll (s : State) (r : Roll) (f : RollRec → RollRec) : (s.modRoll r f).windows = s.windows := by cases r <;> rfl
@[simp] theorem State.nextWid_modRoll (s : State) (r : Roll) (f : RollRec → RollRec) : (s.modRoll r f).nextWid = s.nextWid := by cases r <;> rfl
@[simp] theorem State.flow_modRoll (s : State) (r : Roll) (f : RollRec → RollRec) : (s.modRoll r f).flow = s.flow := by cases r <;> rfl
@[simp] theorem State.ink_modRoll (s : State) (r : Roll) (f : RollRec → RollRec) : (s.modRoll r f).ink = s.ink := by cases r <;> rfl
@[simp] theorem State.health_modRoll (s : State) (r : Roll) (f : RollRec → RollRec) : (s.modRoll r f).health = s.health := by cases r <;> rfl
@[simp] theorem State.svc_modRoll (s : State) (r : Roll) (f : RollRec → RollRec) : (s.modRoll r f).svc = s.svc := by cases r <;> rfl
@[simp] theorem State.prof_modRoll (s : State) (r : Roll) (f : RollRec → RollRec) : (s.modRoll r f).prof = s.prof := by cases r <;> rfl
@[simp] theorem State.mail_modRoll (s : State) (r : Roll) (f : RollRec → RollRec) : (s.modRoll r f).mail = s.mail := by cases r <;> rfl
@[simp] theorem State.events_modRoll (s : State) (r : Roll) (f : RollRec → RollRec) : (s.modRoll r f).events = s.events := by cases r <;> rfl

@[simp] theorem State.table_modRoll (s : State) (r : Roll) (f : RollRec → RollRec) : (s.modRoll r f).media.table = s.media.table := by cases r <;> rfl
@[simp] theorem State.op_modRoll (s : State) (r : Roll) (f : RollRec → RollRec) : (s.modRoll r f).media.op = s.media.op := by cases r <;> rfl
@[simp] theorem State.due_modRoll (s : State) (r : Roll) (f : RollRec → RollRec) : (s.modRoll r f).media.due = s.media.due := by cases r <;> rfl
@[simp] theorem State.fault_modRoll (s : State) (r : Roll) (f : RollRec → RollRec) : (s.modRoll r f).media.fault = s.media.fault := by cases r <;> rfl
@[simp] theorem State.roll_modRoll_self (s : State) (r : Roll) (f : RollRec → RollRec) : (s.modRoll r f).roll r = f (s.roll r) := by cases r <;> rfl
theorem State.roll_modRoll_ne (s : State) {r q : Roll} (f : RollRec → RollRec) (h : q ≠ r) : (s.modRoll r f).roll q = s.roll q := by
  cases r <;> cases q <;> first | rfl | exact absurd rfl h

/-! ### Five channels -/

@[simp] theorem PerChan.get_set_self {α : Type} (p : PerChan α) (c : Chan) (v : α) : (p.set c v).get c = v := by cases c <;> rfl
theorem PerChan.get_set_ne {α : Type} (p : PerChan α) {c d : Chan} (v : α) (h : d ≠ c) : (p.set c v).get d = p.get d := by
  cases c <;> cases d <;> first | rfl | exact absurd rfl h
theorem PerChan.get_set {α : Type} (p : PerChan α) (c d : Chan) (v : α) : (p.set c v).get d = if d = c then v else p.get d := by
  cases c <;> cases d <;> rfl
@[simp] theorem PerChan.get_of {α : Type} (f : Chan → α) (c : Chan) : (PerChan.of f).get c = f c := by cases c <;> rfl
theorem PerChan.ext_get {α : Type} {p q : PerChan α} (h : ∀ c, p.get c = q.get c) : p = q := by
  cases p; cases q
  have h0 := h .matteBlack; have h1 := h .darkGrey; have h2 := h .cyan; have h3 := h .magenta; have h4 := h .yellow
  simp only [PerChan.get] at h0 h1 h2 h3 h4
  simp [h0, h1, h2, h3, h4]

/-! ### Slots -/

theorem slots_get_eq (v : Vector Slot 64) (i : SlotIx) : v.get i = v[i.val] := rfl

@[simp] theorem State.slot_modSlot_self (s : State) (i : SlotIx) (f : Slot → Slot) : (s.modSlot i f).slot i = f (s.slot i) := by
  simp [State.slot, State.modSlot, slots_get_eq]
theorem State.slot_modSlot_ne (s : State) {i j : SlotIx} (f : Slot → Slot) (h : j ≠ i) : (s.modSlot i f).slot j = s.slot j := by
  simp only [State.slot, State.modSlot, slots_get_eq]
  exact Vector.getElem_set_ne _ _ (fun e => h (Fin.ext e.symm))
theorem State.slot_modSlot (s : State) (i j : SlotIx) (f : Slot → Slot) : (s.modSlot i f).slot j = if j = i then f (s.slot j) else s.slot j := by
  by_cases h : j = i
  · subst h; simp
  · simp [h, State.slot_modSlot_ne]

/-! ### Lines -/

@[simp] theorem State.line_setLine_self (s : State) (i : LineId) (l : Line) : (s.setLine i l).line i = l := by
  cases i <;> first | rfl | (simp [State.setLine, State.line, State.modInk]; done) | (rename_i r; cases r <;> rfl)

end Sys2Proof.Machine
end

