-- ==== Sys2Proof/Laws/Quiet.lean ====
section
/-! SUPPORT. Laws/Quiet.lean: what the reactions of the blocks leave as it is. `Keeps s t` holds between a state and the state after any
reaction; `Quiet s t` says more, and holds as long as no read waits behind a held one. -/
namespace Sys2Proof.Machine

/-! ### The relations -/

/-- A slot record keeps what only writes to the slot and an open or commit change. -/
structure Slot.Same (k l : Slot) : Prop where
  shadow : l.shadow = k.shadow
  lateHeaders : l.lateHeaders = k.lateHeaders
  faults : l.faults = k.faults

/-- A channel record keeps its lines, its sync state and its cartridge. -/
structure InkChan.Same (k l : InkChan) : Prop where
  lowFloat : l.lowFloat = k.lowFloat
  fullFloat : l.fullFloat = k.fullFloat
  presence : l.presence = k.presence
  synced : l.synced = k.synced
  cart : l.cart = k.cart
  emptyReason : l.emptyReason = k.emptyReason
  declared : l.declared = k.declared
  estimate : l.estimate = k.estimate
  lot : l.lot = k.lot

/-- A sheet record keeps its identity and its spoiling flag, and does not become PENDING. -/
structure Sheet.Same (t u : Sheet) : Prop where
  sid : u.sid = t.sid
  number : u.number = t.number
  spoiled : t.spoil.isSome → u.spoil.isSome
  pending : u.st = .pending → t.st = .pending

/-- The six part-wide counters fit their 32 bits (R57). -/
structure Counters.Fit (k : Counters) : Prop where
  strayFetches : k.strayFetches ≤ max32
  lateWrites : k.lateWrites ≤ max32
  unplaced : k.unplaced ≤ max32
  overBudget : k.overBudget ≤ max32
  holdExpiries : k.holdExpiries ≤ max32
  fetchOrder : k.fetchOrder ≤ max32

/-- What every reaction leaves as it is. -/
structure Keeps (s t : State) : Prop where
  pending : t.pending = s.pending
  time : t.time = s.time
  straps : t.link.straps = s.link.straps
  linkUp : s.link.state = .up → s.link.silence ≠ silenceLimit →
    t.link.state = .up ∧ t.link.silence ≠ silenceLimit ∧ t.flow.pause = s.flow.pause
  paused : s.flow.pause = true → t.flow.pause = true
  mail : t.mail = s.mail
  fault : t.media.fault = s.media.fault
  masks : t.events.masks = s.events.masks
  suspend : t.events.suspend = s.events.suspend
  expected : t.parser.expected = s.parser.expected
  lastAccepted : t.parser.lastAccepted = s.parser.lastAccepted
  openSheet : t.parser.openSheet = s.parser.openSheet
  nextWid : t.nextWid = s.nextWid
  nextSid : t.media.nextSid = s.media.nextSid
  lines : ∀ i, t.line i = s.line i
  slots : ∀ i, (s.slot i).Same (t.slot i)
  ink : ∀ c, (s.ink.get c).Same (t.ink.get c)
  nozzles : ∀ c, (t.health.get c).nozzles.length = (s.health.get c).nozzles.length
  table : ∀ u ∈ t.media.table, ∃ v ∈ s.media.table, v.Same u
  sheets : t.media.table.length ≤ s.media.table.length
  queue : s.svc.queue.length ≤ 8 → t.svc.queue.length ≤ 8
  recs : s.events.recs.length ≤ 32 → t.events.recs.length ≤ 32
  overflow : s.events.overflow ≤ max32 → t.events.overflow ≤ max32
  retired : s.parser.retired.length ≤ 64 → t.parser.retired.length ≤ 64
  counters : s.counters.Fit → t.counters.Fit
  windows : t.windows.length ≤ s.windows.length

/-- What a reaction also leaves as it is while no read waits: the records that stand, the counters, the reads and what was forwarded. -/
structure Quiet (s t : State) : Prop extends Keeps s t where
  recsStand : s.events.recs <+: t.events.recs
  retiredStand : s.parser.retired <+: t.parser.retired
  countersStand : t.counters = s.counters
  silence : t.link.silence = s.link.silence
  lost : s.link.state = .lost → t.link.state = .lost
  waiting : t.link.waiting = s.link.waiting
  stalled : t.link.stalled = s.link.stalled
  forwarded : t.out.forwarded = s.out.forwarded

theorem Slot.Same.refl (k : Slot) : k.Same k := ⟨rfl, rfl, rfl⟩
theorem Slot.Same.trans {a b c : Slot} (h : a.Same b) (g : b.Same c) : a.Same c :=
  ⟨g.shadow.trans h.shadow, g.lateHeaders.trans h.lateHeaders, g.faults.trans h.faults⟩
theorem InkChan.Same.refl (k : InkChan) : k.Same k := ⟨rfl, rfl, rfl, rfl, rfl, rfl, rfl, rfl, rfl⟩
theorem InkChan.Same.trans {a b c : InkChan} (h : a.Same b) (g : b.Same c) : a.Same c :=
  ⟨g.lowFloat.trans h.lowFloat, g.fullFloat.trans h.fullFloat, g.presence.trans h.presence, g.synced.trans h.synced,
   g.cart.trans h.cart, g.emptyReason.trans h.emptyReason, g.declared.trans h.declared, g.estimate.trans h.estimate, g.lot.trans h.lot⟩
theorem Sheet.Same.refl (t : Sheet) : t.Same t := ⟨rfl, rfl, id, id⟩
theorem Sheet.Same.trans {a b c : Sheet} (h : a.Same b) (g : b.Same c) : a.Same c :=
  ⟨g.sid.trans h.sid, g.number.trans h.number, fun p => g.spoiled (h.spoiled p), fun p => h.pending (g.pending p)⟩

theorem Quiet.refl (s : State) : Quiet s s where
  pending := rfl
  time := rfl
  straps := rfl
  linkUp u h := ⟨u, h, rfl⟩
  paused := id
  mail := rfl
  fault := rfl
  masks := rfl
  suspend := rfl
  expected := rfl
  lastAccepted := rfl
  openSheet := rfl
  nextWid := rfl
  nextSid := rfl
  lines _ := rfl
  slots _ := .refl _
  ink _ := .refl _
  nozzles _ := rfl
  table u h := ⟨u, h, .refl u⟩
  sheets := Nat.le_refl _
  queue := id
  recs := id
  overflow := id
  retired := id
  counters := id
  windows := Nat.le_refl _
  recsStand := List.prefix_refl _
  retiredStand := List.prefix_refl _
  countersStand := rfl
  silence := rfl
  lost := id
  waiting := rfl
  stalled := rfl
  forwarded := rfl

theorem Keeps.refl (s : State) : Keeps s s := (Quiet.refl s).toKeeps

theorem Keeps.trans {s t u : State} (a : Keeps s t) (b : Keeps t u) : Keeps s u where
  pending := b.pending.trans a.pending
  time := b.time.trans a.time
  straps := b.straps.trans a.straps
  linkUp u h := by
    obtain ⟨u', h', p⟩ := a.linkUp u h
    obtain ⟨u'', h'', p'⟩ := b.linkUp u' h'
    exact ⟨u'', h'', p'.trans p⟩
  paused h := b.paused (a.paused h)
  mail := b.mail.trans a.mail
  fault := b.fault.trans a.fault
  masks := b.masks.trans a.masks
  suspend := b.suspend.trans a.suspend
  expected := b.expected.trans a.expected
  lastAccepted := b.lastAccepted.trans a.lastAccepted
  openSheet := b.openSheet.trans a.openSheet
  nextWid := b.nextWid.trans a.nextWid
  nextSid := b.nextSid.trans a.nextSid
  lines i := (b.lines i).trans (a.lines i)
  slots i := (a.slots i).trans (b.slots i)
  ink c := (a.ink c).trans (b.ink c)
  nozzles c := (b.nozzles c).trans (a.nozzles c)
  table w h := by
    obtain ⟨v, hv, p⟩ := b.table w h
    obtain ⟨x, hx, q⟩ := a.table v hv
    exact ⟨x, hx, q.trans p⟩
  sheets := Nat.le_trans b.sheets a.sheets
  queue h := b.queue (a.queue h)
  recs h := b.recs (a.recs h)
  overflow h := b.overflow (a.overflow h)
  retired h := b.retired (a.retired h)
  counters h := b.counters (a.counters h)
  windows := Nat.le_trans b.windows a.windows

theorem Quiet.trans {s t u : State} (a : Quiet s t) (b : Quiet t u) : Quiet s u :=
  { a.toKeeps.trans b.toKeeps with
    recsStand := a.recsStand.trans b.recsStand
    retiredStand := a.retiredStand.trans b.retiredStand
    countersStand := b.countersStand.trans a.countersStand
    silence := b.silence.trans a.silence
    lost := fun h => b.lost (a.lost h)
    waiting := b.waiting.trans a.waiting
    stalled := b.stalled.trans a.stalled
    forwarded := b.forwarded.trans a.forwarded }

/-! ### One record replaced -/

theorem Quiet.setAgenda {z s : State} (h : Quiet z s) {a : List Reaction} : Quiet z { s with agenda := a } := h.trans { Quiet.refl s with }
theorem Quiet.setWindows {z s : State} (h : Quiet z s) {a : List Window} (e : a.length ≤ s.windows.length) : Quiet z { s with windows := a } :=
  h.trans { Quiet.refl s with windows := e }
theorem Quiet.setProf {z s : State} (h : Quiet z s) {a : Profiles} : Quiet z { s with prof := a } := h.trans { Quiet.refl s with }
theorem Quiet.setFlow {z s : State} (h : Quiet z s) {a : Flow} (e : a.pause = s.flow.pause) : Quiet z { s with flow := a } :=
  h.trans { Quiet.refl s with linkUp := fun u g => ⟨u, g, e⟩, paused := fun p => e.trans p }
theorem Quiet.setSlots {z s : State} (h : Quiet z s) {a : Vector Slot 64} (e : ∀ i, (s.slot i).Same (a.get i)) : Quiet z { s with slots := a } :=
  h.trans { Quiet.refl s with slots := e }
theorem Quiet.setInk {z s : State} (h : Quiet z s) {a : PerChan InkChan} (e : ∀ c, (s.ink.get c).Same (a.get c)) : Quiet z { s with ink := a } :=
  h.trans { Quiet.refl s with
    ink := e
    lines := fun i => by
      cases i <;> first | rfl | (rename_i c; first | exact (e c).lowFloat | exact (e c).fullFloat | exact (e c).presence | (cases c <;> rfl)) }
theorem Quiet.setHealth {z s : State} (h : Quiet z s) {a : PerChan HealthChan}
    (e : ∀ c, (a.get c).nozzles.length = (s.health.get c).nozzles.length) : Quiet z { s with health := a } :=
  h.trans { Quiet.refl s with nozzles := e }

/-- What `Quiet` asks of the parser's items. -/
structure Parser.Same (p q : Parser) : Prop where
  expected : q.expected = p.expected
  lastAccepted : q.lastAccepted = p.lastAccepted
  openSheet : q.openSheet = p.openSheet
  retired : p.retired.length ≤ 64 → q.retired.length ≤ 64
  stand : p.retired <+: q.retired

theorem Quiet.setParser {z s : State} (h : Quiet z s) {a : Parser} (e : s.parser.Same a) : Quiet z { s with parser := a } :=
  h.trans { Quiet.refl s with
    expected := e.expected
    lastAccepted := e.lastAccepted
    openSheet := e.openSheet
    retired := e.retired
    retiredStand := e.stand }

/-- What `Quiet` asks of the mediator's items. -/
structure Link.Same (l m : Link) : Prop where
  straps : m.straps = l.straps
  state : m.state = l.state
  silence : m.silence = l.silence
  waiting : m.waiting = l.waiting
  stalled : m.stalled = l.stalled

theorem Quiet.setLink {z s : State} (h : Quiet z s) {a : Link} (e : s.link.Same a) : Quiet z { s with link := a } :=
  h.trans { Quiet.refl s with
    straps := e.straps
    silence := e.silence
    lost := e.state.trans
    linkUp := fun u g => ⟨e.state.trans u, e.silence ▸ g, rfl⟩
    waiting := e.waiting
    stalled := e.stalled }

/-- What `Quiet` asks of the Service Sequencer's items. -/
structure Service.Same (v w : Service) : Prop where
  capped : w.cappedLine = v.cappedLine
  openL : w.openLine = v.openLine
  wiper : w.wiperLine = v.wiperLine
  carriage : w.carriageLine = v.carriageLine
  queue : v.queue.length ≤ 8 → w.queue.length ≤ 8

theorem Quiet.modSvcAt {z s : State} (h : Quiet z s) {f : Service → Service} (e : s.svc.Same (f s.svc)) : Quiet z (s.modSvc f) :=
  h.trans { Quiet.refl s with
    queue := e.queue
    lines := fun i => by
      cases i <;> first | rfl | exact e.capped | exact e.openL | exact e.wiper | exact e.carriage | (rename_i r; cases r <;> rfl) }

theorem Quiet.modSvc {z s : State} (h : Quiet z s) {f : Service → Service} (e : ∀ v : Service, v.Same (f v)) : Quiet z (s.modSvc f) := h.modSvcAt (e _)

/-- What `Quiet` asks of the Media Controller's items. -/
structure Media.Same (m n : Media) : Prop where
  presentA : n.rollA.presentLine = m.rollA.presentLine
  endA : n.rollA.endLine = m.rollA.endLine
  presentB : n.rollB.presentLine = m.rollB.presentLine
  endB : n.rollB.endLine = m.rollB.endLine
  feedPath : n.feedPath = m.feedPath
  platen : n.platen = m.platen
  cutterHome : n.cutterHome = m.cutterHome
  fault : n.fault = m.fault
  nextSid : n.nextSid = m.nextSid
  table : ∀ u ∈ n.table, ∃ v ∈ m.table, v.Same u
  sheets : n.table.length ≤ m.table.length

theorem Quiet.modMediaAt {z s : State} (h : Quiet z s) {f : Media → Media} (e : s.media.Same (f s.media)) : Quiet z (s.modMedia f) :=
  h.trans { Quiet.refl s with
    fault := e.fault
    nextSid := e.nextSid
    table := e.table
    sheets := e.sheets
    lines := fun i => by
      cases i <;> first
        | rfl | exact e.feedPath | exact e.platen | exact e.cutterHome
        | (rename_i r; cases r <;> first | rfl | exact e.presentA | exact e.presentB | exact e.endA | exact e.endB) }

theorem Quiet.modMedia {z s : State} (h : Quiet z s) {f : Media → Media} (e : ∀ m : Media, m.Same (f m)) : Quiet z (s.modMedia f) := h.modMediaAt (e _)

theorem Media.Same.plain {m n : Media} (e : n.rollA = m.rollA ∧ n.rollB = m.rollB ∧ n.feedPath = m.feedPath ∧ n.platen = m.platen ∧
    n.cutterHome = m.cutterHome ∧ n.fault = m.fault ∧ n.nextSid = m.nextSid ∧ n.table = m.table) : m.Same n := by
  obtain ⟨a, b, c, d, g, f, i, j⟩ := e
  exact ⟨by rw [a], by rw [a], by rw [b], by rw [b], c, d, g, f, i, fun u h => ⟨u, j ▸ h, .refl u⟩, Nat.le_of_eq (by rw [j])⟩

theorem Quiet.modSlot {z s : State} (h : Quiet z s) {i : SlotIx} {f : Slot → Slot} (e : ∀ k : Slot, k.Same (f k)) : Quiet z (s.modSlot i f) :=
  h.setSlots fun j => by
    change (s.slot j).Same ((s.modSlot i f).slot j)
    by_cases g : j = i
    · subst g; rw [State.slot_modSlot_self]; exact e _
    · rw [State.slot_modSlot_ne s f g]; exact .refl _

theorem Quiet.modInk {z s : State} (h : Quiet z s) {c : Chan} {f : InkChan → InkChan} (e : ∀ k : InkChan, k.Same (f k)) :
    Quiet z (s.modInk c f) :=
  h.setInk fun d => by
    by_cases g : d = c
    · subst g; rw [PerChan.get_set_self]; exact e _
    · rw [PerChan.get_set_ne _ _ g]; exact .refl _

theorem Quiet.modSheet {z s : State} (h : Quiet z s) {sid : Nat} {f : Sheet → Sheet} (e : ∀ t : Sheet, t.Same (f t)) : Quiet z (s.modSheet sid f) :=
  h.modMediaAt ⟨rfl, rfl, rfl, rfl, rfl, rfl, rfl, rfl, rfl, fun u hu => by
    obtain ⟨v, hv, p⟩ := List.mem_map.1 hu
    refine ⟨v, hv, ?_⟩
    subst p
    by_cases g : v.sid = sid
    · rw [if_pos g]; exact e v
    · rw [if_neg g]; exact .refl v, Nat.le_of_eq (List.length_map _)⟩

theorem Quiet.modRoll {z s : State} (h : Quiet z s) {r : Roll} {f : RollRec → RollRec}
    (e : ∀ k : RollRec, (f k).presentLine = k.presentLine ∧ (f k).endLine = k.endLine) : Quiet z (s.modRoll r f) := by
  cases r
  · exact h.modMediaAt (f := fun m => { m with rollA := f m.rollA })
      ⟨(e _).1, (e _).2, rfl, rfl, rfl, rfl, rfl, rfl, rfl, fun u hu => ⟨u, hu, .refl u⟩, Nat.le_refl _⟩
  · exact h.modMediaAt (f := fun m => { m with rollB := f m.rollB })
      ⟨rfl, rfl, (e _).1, (e _).2, rfl, rfl, rfl, rfl, rfl, fun u hu => ⟨u, hu, .refl u⟩, Nat.le_refl _⟩

/-! ### Posting, scheduling, answering -/

theorem EventQueue.recs_enter (q : EventQueue) (e : Event) : q.recs <+: (q.enter e).recs := by
  unfold EventQueue.enter
  split
  · exact List.prefix_append ..
  · exact List.prefix_refl _

/-- A post keeps the bound of 32 records (R188). -/
theorem EventQueue.length_enter {q : EventQueue} (e : Event) (h : q.recs.length ≤ 32) : (q.enter e).recs.length ≤ 32 := by
  unfold EventQueue.enter
  split
  · simp only [List.length_append, List.length_cons, List.length_nil]; omega
  · exact h

theorem EventQueue.overflow_enter {q : EventQueue} (e : Event) (h : q.overflow ≤ max32) : (q.enter e).overflow ≤ max32 := by
  unfold EventQueue.enter
  split
  · exact h
  · exact Nat.min_le_right ..

theorem EventQueue.masks_enter (q : EventQueue) (e : Event) : (q.enter e).masks = q.masks := by unfold EventQueue.enter; split <;> rfl
theorem EventQueue.suspend_enter (q : EventQueue) (e : Event) : (q.enter e).suspend = q.suspend := by unfold EventQueue.enter; split <;> rfl

theorem Quiet.post {z s : State} (h : Quiet z s) {k : EventKind} {a b c : Nat} : Quiet z (s.post k a b c) :=
  h.trans { Quiet.refl s with
    masks := EventQueue.masks_enter ..
    suspend := EventQueue.suspend_enter ..
    recs := EventQueue.length_enter _
    overflow := EventQueue.overflow_enter _
    recsStand := EventQueue.recs_enter .. }

theorem Quiet.wake {z s : State} (h : Quiet z s) {rs : List Reaction} : Quiet z (s.wake rs) := h.setAgenda
theorem Quiet.wakeFirst {z s : State} (h : Quiet z s) {r : Reaction} : Quiet z (s.wakeFirst r) := h.setAgenda
theorem Quiet.stir {z s : State} (h : Quiet z s) : Quiet z s.stir := h.wake
theorem Quiet.stirWalk {z s : State} (h : Quiet z s) : Quiet z s.stirWalk := h.wake
theorem Quiet.stirBoundary {z s : State} (h : Quiet z s) : Quiet z s.stirBoundary := h.wake

theorem Quiet.answer {z s : State} (h : Quiet z s) {c : ReqClass} {a : Nat} {d : List Byte} : Quiet z (s.answer c a d) :=
  h.trans { Quiet.refl s with }

/-- Changes that one event makes together are quiet where each is. -/
theorem Quiet.together {z s : State} {f : State → State} (h : Quiet z s) (e : ∀ t, Quiet z t → Quiet z (f t)) : Quiet z (s.together f) :=
  (e _ h.setAgenda).setAgenda

theorem Quiet.foldl {z s : State} {α : Type} {l : List α} {f : State → α → State} (h : Quiet z s)
    (e : ∀ t a, Quiet z t → Quiet z (f t a)) : Quiet z (l.foldl f s) := by
  induction l generalizing s with
  | nil => exact h
  | cons a l ih => exact ih (e s a h)

end Sys2Proof.Machine
end

