-- ==== Sys2Proof/Laws/QuietInk.lean ====
section
/-! SUPPORT. Laws/QuietInk.lean: every operation of Machine/Ink.lean that a reaction may take is quiet. -/
namespace Sys2Proof.Machine

theorem InkChan.same_applyChan (old new : ChanProfile) (k : InkChan) : k.Same (applyChan old new k) := by
  unfold applyChan limitAgain nominalChanged
  dsimp only
  repeat' first | split | exact InkChan.Same.mk rfl rfl rfl rfl rfl rfl rfl rfl rfl

theorem State.inkChanged_quiet {z s : State} (hz : Quiet z s) (cs : ChanSet) : Quiet z (s.inkChanged cs) := by
  unfold State.inkChanged
  try dsimp only
  repeat' first
    | with_reducible assumption
    | with_reducible apply Quiet.wake
    | with_reducible apply Quiet.stir
    | split
    | intro _

theorem State.evalLow_quiet {z s : State} (hz : Quiet z s) (c : Chan) : Quiet z (s.evalLow c) := by
  unfold State.evalLow
  try dsimp only
  repeat' first
    | with_reducible assumption
    | with_reducible apply Quiet.post
    | with_reducible apply Quiet.modInk
    | split
    | intro _
    | exact InkChan.Same.mk rfl rfl rfl rfl rfl rfl rfl rfl rfl

theorem State.addReservation_quiet {z s : State} (hz : Quiet z s) (service : Bool) (vols : PerChan Nat) : Quiet z (s.addReservation service vols) := by
  unfold State.addReservation
  try dsimp only
  repeat' first
    | with_reducible assumption
    | rw [PerChan.get_of]
    | split
    | intro _
    | exact InkChan.Same.mk rfl rfl rfl rfl rfl rfl rfl rfl rfl
    | with_reducible apply Quiet.setInk

theorem State.releaseNeed_quiet {z s : State} (hz : Quiet z s) (vols : PerChan Nat) : Quiet z (s.releaseNeed vols) := by
  unfold State.releaseNeed
  try dsimp only
  repeat' first
    | with_reducible assumption
    | with_reducible apply State.inkChanged_quiet
    | rw [PerChan.get_of]
    | split
    | intro _
    | exact InkChan.Same.mk rfl rfl rfl rfl rfl rfl rfl rfl rfl
    | with_reducible apply Quiet.setInk

theorem State.releaseService_quiet {z s : State} (hz : Quiet z s) : Quiet z (s.releaseService) := by
  unfold State.releaseService
  try dsimp only
  repeat' first
    | with_reducible assumption
    | with_reducible apply State.inkChanged_quiet
    | rw [PerChan.get_of]
    | split
    | intro _
    | exact InkChan.Same.mk rfl rfl rfl rfl rfl rfl rfl rfl rfl
    | with_reducible apply Quiet.setInk

theorem State.debitOne_quiet {z s : State} (hz : Quiet z s) (service : Bool) (c : Chan) (used ended : Nat) : Quiet z (s.debitOne service c used ended) := by
  unfold State.debitOne
  try dsimp only
  repeat' first
    | with_reducible assumption
    | with_reducible apply State.evalLow_quiet
    | with_reducible apply Quiet.modInk
    | exact InkChan.Same.mk rfl rfl rfl rfl rfl rfl rfl rfl rfl
    | split
    | intro _
    | exact InkChan.Same.mk rfl rfl rfl rfl rfl rfl rfl rfl rfl

theorem State.debit_quiet {z s : State} (hz : Quiet z s) (service : Bool) (cs : ChanSet) (used ended : PerChan Nat) : Quiet z (s.debit service cs used ended) := by
  unfold State.debit
  try dsimp only
  repeat' first
    | with_reducible assumption
    | with_reducible apply State.debitOne_quiet
    | with_reducible apply State.inkChanged_quiet
    | with_reducible apply Quiet.foldl
    | split
    | intro _

theorem State.refillTest_quiet {z s : State} (hz : Quiet z s) (c : Chan) : Quiet z (s.refillTest c) := by
  unfold State.refillTest
  try dsimp only
  repeat' first
    | with_reducible assumption
    | with_reducible apply Quiet.stir
    | with_reducible apply Quiet.modInk
    | split
    | intro _
    | exact InkChan.Same.mk rfl rfl rfl rfl rfl rfl rfl rfl rfl

theorem State.stopRun_quiet {z s : State} (hz : Quiet z s) (c : Chan) : Quiet z (s.stopRun c) := by
  unfold State.stopRun
  try dsimp only
  repeat' first
    | with_reducible assumption
    | with_reducible apply Quiet.stir
    | with_reducible apply Quiet.modInk
    | split
    | intro _
    | exact InkChan.Same.mk rfl rfl rfl rfl rfl rfl rfl rfl rfl

theorem State.resyncTo_quiet {z s : State} (hz : Quiet z s) (c : Chan) (mark : Nat) (tell : Bool) : Quiet z (s.resyncTo c mark tell) := by
  unfold State.resyncTo
  try dsimp only
  repeat' first
    | with_reducible assumption
    | with_reducible apply Quiet.post
    | with_reducible apply Quiet.modInk
    | split
    | intro _
    | exact InkChan.Same.mk rfl rfl rfl rfl rfl rfl rfl rfl rfl

theorem State.lowFloatChanged_quiet {z s : State} (hz : Quiet z s) (c : Chan) (old : LineState) : Quiet z (s.lowFloatChanged c old) := by
  unfold State.lowFloatChanged
  try dsimp only
  repeat' first
    | with_reducible assumption
    | with_reducible apply State.resyncTo_quiet
    | with_reducible apply State.evalLow_quiet
    | with_reducible apply State.inkChanged_quiet
    | with_reducible apply Quiet.modInk
    | split
    | intro _
    | exact InkChan.Same.mk rfl rfl rfl rfl rfl rfl rfl rfl rfl

theorem State.takeMeasurement_quiet {z s : State} (hz : Quiet z s) (c : Chan) : Quiet z (s.takeMeasurement c) := by
  unfold State.takeMeasurement
  try dsimp only
  repeat' first
    | with_reducible assumption
    | with_reducible apply Quiet.post
    | with_reducible apply Quiet.modInk
    | split
    | intro _
    | exact InkChan.Same.mk rfl rfl rfl rfl rfl rfl rfl rfl rfl

theorem State.inkProfileApplied_quiet {z s : State} (hz : Quiet z s) (c : Chan) (old : ChanProfile) : Quiet z (s.inkProfileApplied c old) := by
  unfold State.inkProfileApplied
  try dsimp only
  repeat' first
    | with_reducible assumption
    | with_reducible apply State.evalLow_quiet
    | with_reducible apply Quiet.modInk
    | exact InkChan.same_applyChan ..
    | split
    | intro _
    | exact InkChan.Same.mk rfl rfl rfl rfl rfl rfl rfl rfl rfl

theorem State.inkProfilesApplied_quiet {z s : State} (hz : Quiet z s) (cs : ChanSet) (old : PerChan ChanProfile) : Quiet z (s.inkProfilesApplied cs old) := by
  unfold State.inkProfilesApplied
  try dsimp only
  repeat' first
    | with_reducible assumption
    | with_reducible apply State.inkProfileApplied_quiet
    | with_reducible apply State.inkChanged_quiet
    | with_reducible apply Quiet.foldl
    | split
    | intro _

theorem State.inkLost_quiet {z s : State} (hz : Quiet z s) : Quiet z (s.inkLost) := by
  unfold State.inkLost
  try dsimp only
  repeat' first
    | with_reducible assumption
    | rw [PerChan.get_of]
    | split
    | intro _
    | exact InkChan.Same.mk rfl rfl rfl rfl rfl rfl rfl rfl rfl
    | with_reducible apply Quiet.setInk

end Sys2Proof.Machine
end

