-- ==== Sys2Proof/Laws/QuietService.lean ====
section
/-! SUPPORT. Laws/QuietService.lean: every operation of Machine/Service.lean that a reaction may take is quiet. -/
namespace Sys2Proof.Machine

theorem absorbOld_length (m : Bool) (p : Nat) (b : Level) (cs : ChanSet) (i : Nat) (q : List ServiceReq) :
    (absorbOld m p b cs i q).length ≤ q.length := by
  induction q generalizing i with
  | nil => exact Nat.le_refl _
  | cons r rs ih =>
    have := ih (i + 1)
    unfold absorbOld
    dsimp only
    split
    · split
      · exact Nat.le_succ_of_le this
      · exact Nat.succ_le_succ this
    · exact Nat.succ_le_succ this

theorem returned_length (q : List ServiceReq) (d : Bool) :
    (((q.filter fun r : ServiceReq => r.state == ReqState.running && !(d && r.flow)).map fun r : ServiceReq => { r with state := ReqState.queued }) ++ dropRunning q).length ≤ q.length := by
  unfold dropRunning
  induction q with
  | nil => exact Nat.le_refl _
  | cons r rs ih =>
    simp only [List.length_append, List.length_map] at ih ⊢
    cases g : r.state == ReqState.running <;> cases k : (d && r.flow) <;>
      simp only [List.filter, g, k, Bool.not_true, Bool.not_false, Bool.and_true, Bool.and_false, List.length_cons] <;> omega

/-- The queue of requests stays within 8 (R133). -/
theorem State.offer_quiet {z s : State} (h : Quiet z s) (level : Level) (chans : ChanSet) (flow : Bool) : Quiet z (s.offer level chans flow).2 := by
  have same {t : State} {q : List ServiceReq} (ht : Quiet z t) (e : t.svc.queue.length ≤ 8 → q.length ≤ 8) :
      Quiet z (t.modSvc fun v => { v with queue := q }) := ht.modSvcAt ⟨rfl, rfl, rfl, rfl, e⟩
  have drop : ∀ q0 : List ServiceReq, q0 = (match opposed level with
      | some o => s.svc.queue.filter fun r => !(r.level == o && r.state == .queued)
      | none => s.svc.queue) → q0.length ≤ s.svc.queue.length := by
    intro q0 e
    subst e
    split
    · exact List.length_filter_le ..
    · exact Nat.le_refl _
  unfold State.offer
  extract_lets mid q0
  have l0 := drop q0 rfl
  split
  extract_lets done
  split
  · exact (same h (Nat.le_trans l0)).stirWalk.wake
  · split
    · refine (same h fun g => Nat.le_trans (absorbOld_length ..) ?_).stirWalk.wake
      rw [List.length_modify]
      exact Nat.le_trans l0 g
    · split
      · refine (same h fun _ => Nat.le_trans (absorbOld_length ..) ?_).stirWalk.wake
        rw [List.length_append]
        assumption
      · exact (same h (Nat.le_trans l0)).post

theorem State.offer_quiet_of {z s t : State} {level : Level} {chans : ChanSet} {flow : Bool} {r : OfferResult}
    (e : s.offer level chans flow = (r, t)) (h : Quiet z s) : Quiet z t := by
  have := State.offer_quiet h level chans flow
  rw [e] at this
  exact this

theorem State.reserve_quiet {z s : State} (h : Quiet z s) (service : Bool) (v : PerChan Nat) : Quiet z (s.reserve service v).2 := by
  unfold State.reserve
  split
  · exact h
  · exact State.inkChanged_quiet (State.addReservation_quiet h ..) ..

theorem State.reserve_quiet_of {z s t : State} {service : Bool} {v : PerChan Nat} {r : Option Chan}
    (e : s.reserve service v = (r, t)) (h : Quiet z s) : Quiet z t := by
  have := State.reserve_quiet h service v
  rw [e] at this
  exact this

theorem State.mapNozzles_quiet {z s : State} (hz : Quiet z s) (cs : ChanSet) (f : Nozzle → Nozzle) : Quiet z (s.mapNozzles cs f) := by
  unfold State.mapNozzles
  try dsimp only
  repeat' first
    | with_reducible assumption
    | exact List.length_map _
    | exact Eq.refl _
    | rw [PerChan.get_of]
    | split
    | intro _
    | with_reducible apply Quiet.setHealth

theorem State.primeBegins_quiet {z s : State} (hz : Quiet z s) (cs : ChanSet) : Quiet z (s.primeBegins cs) := by
  unfold State.primeBegins
  try dsimp only
  repeat' first
    | with_reducible assumption
    | with_reducible apply State.mapNozzles_quiet
    | split
    | intro _

theorem State.mapStages_quiet {z s : State} (hz : Quiet z s) (cs : ChanSet) (f : CleanStage → CleanStage) : Quiet z (s.mapStages cs f) := by
  unfold State.mapStages
  try dsimp only
  repeat' first
    | with_reducible assumption
    | exact Eq.refl _
    | rw [PerChan.get_of]
    | split
    | intro _
    | with_reducible apply Quiet.setHealth

theorem State.cleaningCompleted_quiet {z s : State} (hz : Quiet z s) (level : Level) (cs : ChanSet) : Quiet z (s.cleaningCompleted level cs) := by
  unfold State.cleaningCompleted
  try dsimp only
  repeat' first
    | with_reducible assumption
    | with_reducible apply State.mapStages_quiet
    | with_reducible apply State.mapNozzles_quiet
    | with_reducible apply Quiet.post
    | split
    | intro _

theorem State.cleaningLeft_quiet {z s : State} (hz : Quiet z s) (level : Level) (cs : ChanSet) : Quiet z (s.cleaningLeft level cs) := by
  unfold State.cleaningLeft
  try dsimp only
  repeat' first
    | with_reducible assumption
    | with_reducible apply State.mapStages_quiet
    | with_reducible apply State.mapNozzles_quiet
    | split
    | intro _

theorem State.offerQuietly_quiet {z s : State} (h : Quiet z s) (level : Level) (chans : ChanSet) (flow : Bool) :
    Quiet z (s.offerQuietly level chans flow) := State.offer_quiet h ..

theorem State.spitProgress_quiet {z s : State} (hz : Quiet z s) (r : ServiceReq) : Quiet z (s.spitProgress r) := by
  unfold State.spitProgress
  try dsimp only
  repeat' first
    | with_reducible assumption
    | with_reducible apply Quiet.wake
    | split
    | intro _

theorem State.setStation_quiet {z s : State} (hz : Quiet z s) (st : Station) : Quiet z (s.setStation st) := by
  unfold State.setStation
  try dsimp only
  repeat' first
    | with_reducible assumption
    | with_reducible apply Quiet.wake
    | with_reducible apply Quiet.stir
    | with_reducible apply Quiet.modSvc
    | split
    | intro _
    | exact Service.Same.mk rfl rfl rfl rfl id

theorem State.restartDecaps_quiet {z s : State} (hz : Quiet z s) : Quiet z (s.restartDecaps) := by
  unfold State.restartDecaps
  try dsimp only
  repeat' first
    | with_reducible assumption
    | with_reducible apply Quiet.modSvc
    | split
    | intro _
    | exact Service.Same.mk rfl rfl rfl rfl id

theorem State.capCloses_quiet {z s : State} (hz : Quiet z s) : Quiet z (s.capCloses) := by
  unfold State.capCloses
  try dsimp only
  repeat' first
    | with_reducible assumption
    | with_reducible apply State.restartDecaps_quiet
    | with_reducible apply Quiet.modSvc
    | split
    | intro _
    | exact Service.Same.mk rfl rfl rfl rfl id

theorem State.capOpens_quiet {z s : State} (hz : Quiet z s) : Quiet z (s.capOpens) := by
  unfold State.capOpens
  try dsimp only
  repeat' first
    | with_reducible assumption
    | with_reducible apply State.restartDecaps_quiet
    | with_reducible apply Quiet.modSvc
    | split
    | intro _
    | exact Service.Same.mk rfl rfl rfl rfl id

theorem State.offerStaleSpit_quiet {z s : State} (hz : Quiet z s) (cs : ChanSet) : Quiet z (s.offerStaleSpit cs) := by
  unfold State.offerStaleSpit
  try dsimp only
  repeat' first
    | with_reducible assumption
    | with_reducible apply State.offer_quiet_of (by assumption)
    | with_reducible apply Quiet.modSvc
    | split
    | intro _
    | exact Service.Same.mk rfl rfl rfl rfl id

theorem State.decapExpires_quiet {z s : State} (hz : Quiet z s) (c : Chan) : Quiet z (s.decapExpires c) := by
  unfold State.decapExpires
  try dsimp only
  repeat' first
    | with_reducible assumption
    | with_reducible apply State.offerStaleSpit_quiet
    | with_reducible apply Quiet.wake
    | with_reducible apply Quiet.stir
    | with_reducible apply Quiet.modSvc
    | split
    | intro _
    | exact Service.Same.mk rfl rfl rfl rfl id

theorem State.decapLimitsMet_quiet {z s : State} (hz : Quiet z s) : Quiet z (s.decapLimitsMet) := by
  unfold State.decapLimitsMet
  try dsimp only
  repeat' first
    | with_reducible assumption
    | with_reducible apply State.decapExpires_quiet
    | with_reducible apply Quiet.foldl
    | split
    | intro _

theorem State.sheetBoundarySpit_quiet {z s : State} (hz : Quiet z s) : Quiet z (s.sheetBoundarySpit) := by
  unfold State.sheetBoundarySpit
  try dsimp only
  repeat' first
    | with_reducible assumption
    | with_reducible apply State.offerStaleSpit_quiet
    | split
    | intro _

theorem State.wipeTest_quiet {z s : State} (hz : Quiet z s) : Quiet z (s.wipeTest) := by
  unfold State.wipeTest
  try dsimp only
  repeat' first
    | with_reducible assumption
    | with_reducible apply State.offer_quiet_of (by assumption)
    | with_reducible apply Quiet.modSvc
    | split
    | intro _
    | exact Service.Same.mk rfl rfl rfl rfl id

theorem State.wipeAdd_quiet {z s : State} (hz : Quiet z s) (v : Nat) : Quiet z (s.wipeAdd v) := by
  unfold State.wipeAdd
  try dsimp only
  repeat' first
    | with_reducible assumption
    | with_reducible apply State.wipeTest_quiet
    | with_reducible apply Quiet.modSvc
    | split
    | intro _
    | exact Service.Same.mk rfl rfl rfl rfl id

theorem State.setOwnPasses_quiet {z s : State} (hz : Quiet z s) : Quiet z (s.setOwnPasses) := by
  unfold State.setOwnPasses
  try dsimp only
  repeat' first
    | with_reducible assumption
    | with_reducible apply Quiet.modSvc
    | split
    | intro _
    | exact Service.Same.mk rfl rfl rfl rfl id

theorem State.postCall_quiet {z s : State} (hz : Quiet z s) (k : EventKind) (r : ServiceReq) : Quiet z (s.postCall k r) := by
  unfold State.postCall
  try dsimp only
  repeat' first
    | with_reducible assumption
    | with_reducible apply Quiet.post
    | split
    | intro _

theorem State.reserveToStart_quiet {z s t : State} {r : ServiceReq} (e : s.reserveToStart r = some t) (h : Quiet z s) : Quiet z t := by
  unfold State.reserveToStart at e
  repeat' split at e
  all_goals first
    | (simp only [reduceCtorEq] at e; done)
    | (obtain rfl := Option.some.inj e
       first
         | exact State.setOwnPasses_quiet (State.reserve_quiet_of (by assumption) h)
         | exact (State.reserve_quiet_of (by assumption) h).modSvc fun _ => Service.Same.mk rfl rfl rfl rfl id
         | exact h.modSvc fun _ => Service.Same.mk rfl rfl rfl rfl id)

theorem State.call_quiet {z s : State} (h : Quiet z s) (r : ServiceReq) : Quiet z (s.call r) := by
  unfold State.call
  with_reducible apply State.postCall_quiet
  with_reducible apply State.setStation_quiet
  with_reducible apply Quiet.modSvc h
  intro _
  exact Service.Same.mk rfl rfl rfl rfl id

theorem State.completeSilently_quiet {z s : State} (hz : Quiet z s) : Quiet z (s.completeSilently) := by
  unfold State.completeSilently
  try dsimp only
  repeat' first
    | with_reducible assumption
    | with_reducible apply Quiet.wake
    | with_reducible apply Quiet.stir
    | with_reducible apply Quiet.stirWalk
    | with_reducible apply Quiet.modSvc
    | exact Service.Same.mk rfl rfl rfl rfl (fun h => Nat.le_trans (List.length_filter_le _ _) h)
    | split
    | intro _
    | exact Service.Same.mk rfl rfl rfl rfl id

theorem State.startRequest_quiet {z s : State} (hz : Quiet z s) (i : Nat) (r : ServiceReq) : Quiet z (s.startRequest i r) := by
  unfold State.startRequest
  try dsimp only
  repeat' first
    | with_reducible assumption
    | with_reducible apply State.primeBegins_quiet
    | with_reducible apply State.spitProgress_quiet
    | with_reducible apply State.completeSilently_quiet
    | with_reducible apply State.call_quiet
    | with_reducible apply Quiet.wake
    | with_reducible apply Quiet.wakeFirst
    | with_reducible apply Quiet.stir
    | with_reducible apply Quiet.modSvc
    | exact Service.Same.mk rfl rfl rfl rfl (fun h => Nat.le_trans (Nat.le_of_eq (List.length_modify ..)) h)
    | split
    | intro _
    | exact Service.Same.mk rfl rfl rfl rfl id

theorem State.waitForInk_quiet {z s : State} (hz : Quiet z s) (i : Nat) (r : ServiceReq) : Quiet z (s.waitForInk i r) := by
  unfold State.waitForInk
  try dsimp only
  repeat' first
    | with_reducible assumption
    | with_reducible apply State.spitProgress_quiet
    | with_reducible apply Quiet.modSvc
    | exact Service.Same.mk rfl rfl rfl rfl (fun h => Nat.le_trans (Nat.le_of_eq (List.length_modify ..)) h)
    | split
    | intro _
    | exact Service.Same.mk rfl rfl rfl rfl id

theorem State.walkFrom_quiet (p : ServiceReq → Bool) {z s : State} (h : Quiet z s) (l : List Nat) : Quiet z (s.walkFrom p l) := by
  induction l generalizing s with
  | nil => exact h
  | cons i is ih =>
    unfold State.walkFrom
    split
    · exact h
    · split
      · split
        · exact State.startRequest_quiet (State.reserveToStart_quiet (by assumption) h) ..
        · exact ih (State.waitForInk_quiet h ..)
      · exact ih h

theorem State.walk_quiet {z s : State} (h : Quiet z s) : Quiet z s.walk := by
  unfold State.walk
  split
  · exact State.walkFrom_quiet _ h ..
  · exact h

theorem State.inkWalk_quiet {z s : State} (h : Quiet z s) (cs : ChanSet) : Quiet z (s.inkWalk cs) := by
  unfold State.inkWalk
  split
  · exact State.walkFrom_quiet _ h ..
  · exact h

theorem State.boundaryWalk_quiet {z s : State} (hz : Quiet z s) : Quiet z (s.boundaryWalk) := by
  unfold State.boundaryWalk
  try dsimp only
  repeat' first
    | with_reducible assumption
    | with_reducible apply State.walk_quiet
    | split
    | intro _

theorem State.suctionBegins_quiet {z s : State} (hz : Quiet z s) : Quiet z (s.suctionBegins) := by
  unfold State.suctionBegins
  try dsimp only
  repeat' first
    | with_reducible assumption
    | with_reducible apply State.stopRun_quiet
    | with_reducible apply Quiet.modSvc
    | split
    | intro _
    | exact Service.Same.mk rfl rfl rfl rfl id

theorem State.stepStarts_quiet {z s : State} (hz : Quiet z s) (r : ServiceReq) (st : Step) : Quiet z (s.stepStarts r st) := by
  unfold State.stepStarts
  try dsimp only
  repeat' first
    | with_reducible assumption
    | with_reducible apply State.setStation_quiet
    | with_reducible apply State.suctionBegins_quiet
    | with_reducible apply Quiet.wake
    | with_reducible apply Quiet.wakeFirst
    | with_reducible apply Quiet.modSvc
    | split
    | intro _
    | exact Service.Same.mk rfl rfl rfl rfl id

theorem State.askSpit_quiet {z s : State} (hz : Quiet z s) (r : ServiceReq) : Quiet z (s.askSpit r) := by
  unfold State.askSpit
  try dsimp only
  repeat' first
    | with_reducible assumption
    | with_reducible apply State.setOwnPasses_quiet
    | with_reducible apply Quiet.modSvc
    | with_reducible apply State.reserve_quiet_of (by assumption)
    | split
    | intro _
    | exact Service.Same.mk rfl rfl rfl rfl id

theorem State.askStep_quiet {z s : State} (hz : Quiet z s) (r : ServiceReq) (st : Step) : Quiet z (s.askStep r st) := by
  unfold State.askStep
  try dsimp only
  repeat' first
    | with_reducible assumption
    | with_reducible apply State.askSpit_quiet
    | split
    | intro _

theorem State.beginStep_quiet {z s : State} (hz : Quiet z s) (r : ServiceReq) (st : Step) : Quiet z (s.beginStep r st) := by
  unfold State.beginStep
  try dsimp only
  repeat' first
    | with_reducible assumption
    | with_reducible apply State.askStep_quiet
    | with_reducible apply State.stepStarts_quiet
    | with_reducible apply State.call_quiet
    | split
    | intro _

theorem State.completeRequest_quiet {z s : State} (hz : Quiet z s) (r : ServiceReq) : Quiet z (s.completeRequest r) := by
  unfold State.completeRequest
  try dsimp only
  repeat' first
    | with_reducible assumption
    | with_reducible apply State.setStation_quiet
    | with_reducible apply State.postCall_quiet
    | with_reducible apply State.cleaningCompleted_quiet
    | with_reducible apply Quiet.post
    | with_reducible apply Quiet.wake
    | with_reducible apply Quiet.stir
    | with_reducible apply Quiet.stirWalk
    | with_reducible apply Quiet.modSvc
    | exact Service.Same.mk rfl rfl rfl rfl (fun h => Nat.le_trans (List.length_filter_le _ _) h)
    | split
    | intro _
    | exact Service.Same.mk rfl rfl rfl rfl id

theorem State.returnRunning_quiet {z s : State} (h : Quiet z s) : Quiet z s.returnRunning := by
  unfold State.returnRunning
  extract_lets drop t ran back u
  have hu : Quiet z u := Quiet.wake (Quiet.stirWalk (Quiet.modSvcAt (State.releaseService_quiet h)
    (Service.Same.mk rfl rfl rfl rfl (fun g => Nat.le_trans (returned_length ..) g))))
  change Quiet z (match ran with | some r => _ | none => _)
  cases ran with
  | none => exact hu
  | some r =>
    dsimp only
    split
    · exact hu.wake
    · exact State.spitProgress_quiet hu ..

theorem State.capOutside_quiet {z s : State} (hz : Quiet z s) : Quiet z (s.capOutside) := by
  unfold State.capOutside
  try dsimp only
  repeat' first
    | with_reducible assumption
    | with_reducible apply State.setStation_quiet
    | with_reducible apply Quiet.wake
    | with_reducible apply Quiet.wakeFirst
    | with_reducible apply Quiet.modSvc
    | split
    | intro _
    | exact Service.Same.mk rfl rfl rfl rfl id

theorem State.restCap_quiet {z s : State} (hz : Quiet z s) : Quiet z (s.restCap) := by
  unfold State.restCap
  try dsimp only
  repeat' first
    | with_reducible assumption
    | with_reducible apply State.capOutside_quiet
    | split
    | intro _

theorem State.stepEnds_quiet {z s : State} (hz : Quiet z s) : Quiet z (s.stepEnds) := by
  unfold State.stepEnds
  try dsimp only
  repeat' first
    | with_reducible assumption
    | with_reducible apply State.setStation_quiet
    | with_reducible apply State.returnRunning_quiet
    | with_reducible apply State.restCap_quiet
    | with_reducible apply State.completeRequest_quiet
    | with_reducible apply Quiet.wake
    | with_reducible apply Quiet.wakeFirst
    | with_reducible apply Quiet.stir
    | with_reducible apply Quiet.stirWalk
    | with_reducible apply Quiet.modSvc
    | split
    | intro _
    | exact Service.Same.mk rfl rfl rfl rfl id

theorem State.capCompletes_quiet {z s : State} (hz : Quiet z s) : Quiet z (s.capCompletes) := by
  unfold State.capCompletes
  try dsimp only
  repeat' first
    | with_reducible assumption
    | with_reducible apply State.capCloses_quiet
    | with_reducible apply State.stepEnds_quiet
    | split
    | intro _

theorem State.uncapCompletes_quiet {z s : State} (hz : Quiet z s) : Quiet z (s.uncapCompletes) := by
  unfold State.uncapCompletes
  try dsimp only
  repeat' first
    | with_reducible assumption
    | with_reducible apply State.capOpens_quiet
    | with_reducible apply State.stepEnds_quiet
    | split
    | intro _

theorem State.wipeCompletes_quiet {z s : State} (hz : Quiet z s) : Quiet z (s.wipeCompletes) := by
  unfold State.wipeCompletes
  try dsimp only
  repeat' first
    | with_reducible assumption
    | with_reducible apply State.stepEnds_quiet
    | with_reducible apply Quiet.modSvc
    | split
    | intro _
    | exact Service.Same.mk rfl rfl rfl rfl id

theorem State.spitDebit_quiet {z s : State} (hz : Quiet z s) : Quiet z (s.spitDebit) := by
  unfold State.spitDebit
  try dsimp only
  repeat' first
    | with_reducible assumption
    | with_reducible apply State.debit_quiet
    | with_reducible apply State.wipeAdd_quiet
    | split
    | intro _

theorem State.spitAbandoned_quiet {z s : State} (hz : Quiet z s) : Quiet z (s.spitAbandoned) := by
  unfold State.spitAbandoned
  try dsimp only
  repeat' first
    | with_reducible assumption
    | with_reducible apply State.spitDebit_quiet
    | with_reducible apply State.setStation_quiet
    | split
    | intro _

theorem State.passLeave_quiet {z s : State} (hz : Quiet z s) : Quiet z (s.passLeave) := by
  unfold State.passLeave
  try dsimp only
  repeat' first
    | with_reducible assumption
    | with_reducible apply Quiet.wake
    | with_reducible apply Quiet.stir
    | with_reducible apply Quiet.modSvc
    | split
    | intro _
    | exact Service.Same.mk rfl rfl rfl rfl id

theorem State.spitCount_quiet {z s : State} (hz : Quiet z s) (beat : Fin 20) : Quiet z (s.spitCount beat) := by
  unfold State.spitCount
  try dsimp only
  repeat' first
    | with_reducible assumption
    | with_reducible apply State.passLeave_quiet
    | with_reducible apply State.spitDebit_quiet
    | with_reducible apply State.stepEnds_quiet
    | with_reducible apply Quiet.modSvc
    | split
    | intro _
    | exact Service.Same.mk rfl rfl rfl rfl id

theorem State.spitTest_quiet {z s : State} (hz : Quiet z s) (beat : Fin 20) : Quiet z (s.spitTest beat) := by
  unfold State.spitTest
  try dsimp only
  repeat' first
    | with_reducible assumption
    | with_reducible apply State.spitCount_quiet
    | split
    | intro _

theorem State.suctionEndSteps_quiet {z s : State} (hz : Quiet z s) : Quiet z (s.suctionEndSteps) := by
  unfold State.suctionEndSteps
  try dsimp only
  repeat' first
    | with_reducible assumption
    | with_reducible apply State.debit_quiet
    | with_reducible apply State.stepEnds_quiet
    | with_reducible apply State.suctionBegins_quiet
    | with_reducible apply Quiet.modSvc
    | split
    | intro _
    | exact Service.Same.mk rfl rfl rfl rfl id

theorem State.suctionEnds_quiet {z s : State} (hz : Quiet z s) : Quiet z (s.suctionEnds) := by
  unfold State.suctionEnds
  try dsimp only
  repeat' first
    | with_reducible assumption
    | with_reducible apply State.suctionEndSteps_quiet
    | with_reducible apply Quiet.together
    | split
    | intro _

theorem State.serviceStep_quiet {z s : State} (hz : Quiet z s) : Quiet z (s.serviceStep) := by
  unfold State.serviceStep
  try dsimp only
  repeat' first
    | with_reducible assumption
    | with_reducible apply State.capCompletes_quiet
    | with_reducible apply State.uncapCompletes_quiet
    | with_reducible apply State.beginStep_quiet
    | split
    | intro _

theorem State.inkRetry_quiet {z s : State} (hz : Quiet z s) (cs : ChanSet) : Quiet z (s.inkRetry cs) := by
  unfold State.inkRetry
  try dsimp only
  repeat' first
    | with_reducible assumption
    | with_reducible apply State.serviceStep_quiet
    | with_reducible apply Quiet.modSvc
    | split
    | intro _
    | exact Service.Same.mk rfl rfl rfl rfl id

theorem State.stationFault_quiet {z s : State} (hz : Quiet z s) : Quiet z (s.stationFault) := by
  unfold State.stationFault
  try dsimp only
  repeat' first
    | with_reducible assumption
    | with_reducible apply State.setStation_quiet
    | with_reducible apply State.returnRunning_quiet
    | with_reducible apply Quiet.modSvc
    | split
    | intro _
    | exact Service.Same.mk rfl rfl rfl rfl id

theorem State.capFails_quiet {z s : State} (hz : Quiet z s) : Quiet z (s.capFails) := by
  unfold State.capFails
  try dsimp only
  repeat' first
    | with_reducible assumption
    | with_reducible apply State.stationFault_quiet
    | with_reducible apply Quiet.post
    | with_reducible apply Quiet.modSvc
    | split
    | intro _
    | exact Service.Same.mk rfl rfl rfl rfl id

theorem State.wiperFails_quiet {z s : State} (hz : Quiet z s) : Quiet z (s.wiperFails) := by
  unfold State.wiperFails
  try dsimp only
  repeat' first
    | with_reducible assumption
    | with_reducible apply State.stationFault_quiet
    | with_reducible apply Quiet.post
    | split
    | intro _

theorem State.callTimesOut_quiet {z s : State} (hz : Quiet z s) : Quiet z (s.callTimesOut) := by
  unfold State.callTimesOut
  try dsimp only
  repeat' first
    | with_reducible assumption
    | with_reducible apply State.postCall_quiet
    | with_reducible apply Quiet.post
    | with_reducible apply Quiet.modSvc
    | split
    | intro _
    | exact Service.Same.mk rfl rfl rfl rfl id

theorem State.postStationLost_quiet {z s : State} (hz : Quiet z s) (what : Nat) : Quiet z (s.postStationLost what) := by
  unfold State.postStationLost
  try dsimp only
  repeat' first
    | with_reducible assumption
    | with_reducible apply Quiet.post
    | split
    | intro _

theorem State.carriageChanged_quiet {z s : State} (hz : Quiet z s) : Quiet z (s.carriageChanged) := by
  unfold State.carriageChanged
  try dsimp only
  repeat' first
    | with_reducible assumption
    | with_reducible apply State.restCap_quiet
    | with_reducible apply State.postStationLost_quiet
    | with_reducible apply State.spitAbandoned_quiet
    | with_reducible apply State.returnRunning_quiet
    | with_reducible apply Quiet.post
    | with_reducible apply Quiet.stir
    | with_reducible apply Quiet.modSvc
    | split
    | intro _
    | exact Service.Same.mk rfl rfl rfl rfl id

theorem State.cappedChanged_quiet {z s : State} (hz : Quiet z s) (old : LineState) : Quiet z (s.cappedChanged old) := by
  unfold State.cappedChanged
  try dsimp only
  repeat' first
    | with_reducible assumption
    | with_reducible apply State.capOpens_quiet
    | with_reducible apply State.setStation_quiet
    | with_reducible apply State.capCompletes_quiet
    | with_reducible apply Quiet.wake
    | with_reducible apply Quiet.stir
    | with_reducible apply Quiet.stirWalk
    | split
    | intro _

theorem State.openChanged_quiet {z s : State} (hz : Quiet z s) : Quiet z (s.openChanged) := by
  unfold State.openChanged
  try dsimp only
  repeat' first
    | with_reducible assumption
    | with_reducible apply State.uncapCompletes_quiet
    | with_reducible apply Quiet.stir
    | split
    | intro _

theorem State.wiperChanged_quiet {z s : State} (hz : Quiet z s) (old : LineState) : Quiet z (s.wiperChanged old) := by
  unfold State.wiperChanged
  try dsimp only
  repeat' first
    | with_reducible assumption
    | with_reducible apply State.wipeCompletes_quiet
    | with_reducible apply Quiet.stir
    | split
    | intro _

theorem State.idleTest_quiet {z s : State} (hz : Quiet z s) : Quiet z (s.idleTest) := by
  unfold State.idleTest
  try dsimp only
  repeat' first
    | with_reducible assumption
    | with_reducible apply Quiet.modSvc
    | split
    | intro _
    | exact Service.Same.mk rfl rfl rfl rfl id

theorem State.idleExpires_quiet {z s : State} (hz : Quiet z s) : Quiet z (s.idleExpires) := by
  unfold State.idleExpires
  try dsimp only
  repeat' first
    | with_reducible assumption
    | with_reducible apply State.offerQuietly_quiet
    | with_reducible apply Quiet.post
    | with_reducible apply Quiet.stir
    | with_reducible apply Quiet.modSvc
    | split
    | intro _
    | exact Service.Same.mk rfl rfl rfl rfl id

theorem State.withdrawCap_quiet {z s : State} (hz : Quiet z s) : Quiet z (s.withdrawCap) := by
  unfold State.withdrawCap
  try dsimp only
  repeat' first
    | with_reducible assumption
    | with_reducible apply State.setStation_quiet
    | with_reducible apply Quiet.wake
    | with_reducible apply Quiet.stir
    | with_reducible apply Quiet.stirWalk
    | with_reducible apply Quiet.modSvc
    | exact Service.Same.mk rfl rfl rfl rfl (fun h => Nat.le_trans (List.length_filter_le _ _) h)
    | split
    | intro _
    | exact Service.Same.mk rfl rfl rfl rfl id

theorem State.restAtOnce_quiet {z s : State} (hz : Quiet z s) : Quiet z (s.restAtOnce) := by
  unfold State.restAtOnce
  try dsimp only
  repeat' first
    | with_reducible assumption
    | with_reducible apply State.spitAbandoned_quiet
    | with_reducible apply State.returnRunning_quiet
    | with_reducible apply State.setStation_quiet
    | split
    | intro _

theorem State.serviceLost_quiet {z s : State} (hz : Quiet z s) : Quiet z (s.serviceLost) := by
  unfold State.serviceLost
  try dsimp only
  repeat' first
    | with_reducible assumption
    | with_reducible apply State.restAtOnce_quiet
    | with_reducible apply State.restCap_quiet
    | with_reducible apply Quiet.modSvc
    | split
    | intro _
    | exact Service.Same.mk rfl rfl rfl rfl id

theorem State.serviceReset_quiet {z s : State} (hz : Quiet z s) : Quiet z (s.serviceReset) := by
  unfold State.serviceReset
  try dsimp only
  repeat' first
    | with_reducible assumption
    | with_reducible apply State.restAtOnce_quiet
    | with_reducible apply Quiet.stir
    | with_reducible apply Quiet.modSvc
    | exact Service.Same.mk rfl rfl rfl rfl (fun h => Nat.le_trans (List.length_filter_le _ _) h)
    | split
    | intro _
    | exact Service.Same.mk rfl rfl rfl rfl id

end Sys2Proof.Machine
end

