-- ==== Sys2Proof/Laws/QuietSlots.lean ====
section
/-! SUPPORT. Laws/QuietSlots.lean: every operation of Machine/Slots.lean that a reaction may take is quiet. -/
namespace Sys2Proof.Machine

theorem State.mapSlots_quiet {z s : State} (h : Quiet z s) {f : Slot → Slot} (e : ∀ k : Slot, k.Same (f k)) :
    Quiet z { s with slots := s.slots.map f } :=
  h.setSlots fun i => by
    have g : (s.slots.map f).get i = f (s.slot i) := by simp [State.slot, slots_get_eq]
    rw [g]
    exact e _

theorem State.answer_quiet {z s : State} (h : Quiet z s) (cls : ReqClass) (addr : Nat) (data : List Byte) :
    Quiet z (s.answer cls addr data) := h.answer

theorem State.answerGoWord_quiet {z s : State} (hz : Quiet z s) (cls : ReqClass) (i : SlotIx) : Quiet z (s.answerGoWord cls i) := by
  unfold State.answerGoWord
  try dsimp only
  repeat' first
    | with_reducible assumption
    | with_reducible apply State.answer_quiet
    | with_reducible apply Quiet.answer
    | with_reducible apply Quiet.modSlot
    | split
    | intro _
    | exact Slot.Same.mk rfl rfl rfl

theorem State.answerHeld_quiet {z s : State} (hz : Quiet z s) (i : SlotIx) : Quiet z (s.answerHeld i) := by
  unfold State.answerHeld
  try dsimp only
  repeat' first
    | with_reducible assumption
    | with_reducible apply State.answerGoWord_quiet
    | with_reducible apply Quiet.wake
    | with_reducible apply Quiet.answer
    | split
    | intro _
    | exact Link.Same.mk rfl rfl rfl rfl rfl
    | with_reducible apply Quiet.setLink

theorem State.heldReadTest_quiet {z s : State} (hz : Quiet z s) : Quiet z (s.heldReadTest) := by
  unfold State.heldReadTest
  try dsimp only
  repeat' first
    | with_reducible assumption
    | with_reducible apply State.answerHeld_quiet
    | with_reducible apply Quiet.answer
    | split
    | intro _

theorem State.enterRetired_quiet {z s : State} (hz : Quiet z s) (e : RetireEntry) : Quiet z (s.enterRetired e) := by
  unfold State.enterRetired
  try dsimp only
  repeat' first
    | with_reducible assumption
    | with_reducible apply Quiet.post
    | exact Parser.Same.mk rfl rfl rfl (fun _ => by rw [List.length_append]; assumption) (List.prefix_append ..)
    | split
    | intro _
    | exact Parser.Same.mk rfl rfl rfl id (List.prefix_refl _)
    | with_reducible apply Quiet.setParser

theorem State.removeWindows_quiet {z s : State} (hz : Quiet z s) (i : SlotIx) : Quiet z (s.removeWindows i) := by
  unfold State.removeWindows
  try dsimp only
  repeat' first
    | with_reducible assumption
    | exact List.length_filter_le ..
    | split
    | intro _
    | with_reducible apply Quiet.setWindows

theorem State.unpost_quiet {z s : State} (hz : Quiet z s) (i : SlotIx) : Quiet z (s.unpost i) := by
  unfold State.unpost
  try dsimp only
  repeat' first
    | with_reducible assumption
    | with_reducible apply Quiet.post
    | split
    | intro _
    | exact Parser.Same.mk rfl rfl rfl id (List.prefix_refl _)
    | with_reducible apply Quiet.setParser

theorem State.releaseSlotNeed_quiet {z s : State} (hz : Quiet z s) (i : SlotIx) : Quiet z (s.releaseSlotNeed i) := by
  unfold State.releaseSlotNeed
  try dsimp only
  repeat' first
    | with_reducible assumption
    | with_reducible apply State.releaseNeed_quiet
    | split
    | intro _

theorem State.countRetired_quiet {z s : State} (hz : Quiet z s) (i : SlotIx) : Quiet z (s.countRetired i) := by
  unfold State.countRetired
  try dsimp only
  repeat' first
    | with_reducible assumption
    | with_reducible apply Quiet.modSheet
    | split
    | intro _
    | exact Sheet.Same.mk rfl rfl id id

theorem State.retire_quiet {z s : State} (h : Quiet z s) (i : SlotIx) (o : SlotOutcome) (r : Option Reason) (detail : Nat) :
    Quiet z (s.retire i o r detail) := by
  unfold State.retire
  extract_lets k f p a b c d e g
  have ha : Quiet z a := State.removeWindows_quiet (State.unpost_quiet (State.releaseSlotNeed_quiet h ..) ..) ..
  have hb : Quiet z b := (State.countRetired_quiet ha ..).modSlot fun _ => Slot.Same.mk rfl rfl rfl
  have hc : Quiet z c := State.enterRetired_quiet hb ..
  have hd : Quiet z d := by
    change Quiet z (if _ then _ else _)
    split
    · exact State.heldReadTest_quiet hc
    · exact hc
  have he : Quiet z e := by
    change Quiet z (if _ then _ else _)
    split
    · exact hd.modSlot fun _ => Slot.Same.mk rfl rfl rfl
    · exact hd
  have hg : Quiet z g := he.wake
  split
  · exact hg.stirBoundary
  · exact hg.stir

theorem State.postRejected_quiet {z s : State} (hz : Quiet z s) (i : SlotIx) (r : Reason) (q : Option Seq) : Quiet z (s.postRejected i r q) := by
  unfold State.postRejected
  try dsimp only
  repeat' first
    | with_reducible assumption
    | with_reducible apply Quiet.post
    | split
    | intro _

theorem State.rejectSwath_quiet {z s : State} (hz : Quiet z s) (i : SlotIx) (r : Reason) (detail : Nat) : Quiet z (s.rejectSwath i r detail) := by
  unfold State.rejectSwath
  try dsimp only
  repeat' first
    | with_reducible assumption
    | with_reducible apply State.retire_quiet
    | with_reducible apply State.postRejected_quiet
    | with_reducible apply Quiet.post
    | split
    | intro _

theorem State.releaseAll_quiet {z s : State} (h : Quiet z s) : Quiet z s.releaseAll := by
  unfold State.releaseAll
  refine State.mapSlots_quiet h fun k => ?_
  split
  · exact Slot.Same.mk rfl rfl rfl
  · exact Slot.Same.mk rfl rfl rfl

end Sys2Proof.Machine
end

