-- ==== Sys2Proof/Laws/QuietMedia.lean ====
section
/-! SUPPORT. Laws/QuietMedia.lean: every operation of Machine/Media.lean that a reaction may take is quiet. -/
namespace Sys2Proof.Machine

theorem State.filterTable_quiet {z s : State} (h : Quiet z s) (p : Sheet → Bool) :
    Quiet z (s.modMedia fun m => { m with table := m.table.filter p }) :=
  h.modMediaAt ⟨rfl, rfl, rfl, rfl, rfl, rfl, rfl, rfl, rfl, fun u hu => ⟨u, (List.mem_filter.1 hu).1, .refl u⟩, List.length_filter_le ..⟩

theorem State.sheetMoved_quiet {z s : State} (hz : Quiet z s) (sid : Nat) : Quiet z (s.sheetMoved sid) := by
  unfold State.sheetMoved
  try dsimp only
  repeat' first
    | with_reducible assumption
    | with_reducible apply Quiet.wake
    | with_reducible apply Quiet.stir
    | with_reducible apply Quiet.stirWalk
    | split
    | intro _

theorem State.setSheet_quiet {z s : State} (h : Quiet z s) {sid : Nat} {f : Sheet → Sheet} (e : ∀ t : Sheet, t.Same (f t)) :
    Quiet z (s.setSheet sid f) := (h.modSheet e).stir

theorem State.moveSheet_quiet {z s : State} (h : Quiet z s) {sid : Nat} {f : Sheet → Sheet} (e : ∀ t : Sheet, t.Same (f t)) :
    Quiet z (s.moveSheet sid f) := State.sheetMoved_quiet (h.modSheet e) _

theorem State.starveZero_quiet {z s : State} (hz : Quiet z s) : Quiet z (s.starveZero) := by
  unfold State.starveZero
  try dsimp only
  repeat' first
    | with_reducible assumption
    | split
    | intro _
    | exact Eq.refl _
    | with_reducible apply Quiet.setFlow

theorem State.leavePrinting_quiet {z s : State} (hz : Quiet z s) (t : Sheet) : Quiet z (s.leavePrinting t) := by
  unfold State.leavePrinting
  try dsimp only
  repeat' first
    | with_reducible assumption
    | with_reducible apply State.starveZero_quiet
    | split
    | intro _

theorem State.becomeSpoiled_quiet {z s : State} (hz : Quiet z s) (t : Sheet) (cut : Bool) : Quiet z (s.becomeSpoiled t cut) := by
  unfold State.becomeSpoiled
  try dsimp only
  repeat' first
    | with_reducible assumption
    | with_reducible apply State.leavePrinting_quiet
    | with_reducible apply State.sheetBoundarySpit_quiet
    | with_reducible apply State.sheetMoved_quiet
    | with_reducible apply Quiet.post
    | with_reducible apply Quiet.modSheet
    | exact Sheet.Same.mk rfl rfl id (fun h => nomatch h)
    | split
    | intro _
    | exact Sheet.Same.mk rfl rfl id id

theorem State.becomeDone_quiet {z s : State} (hz : Quiet z s) (t : Sheet) : Quiet z (s.becomeDone t) := by
  unfold State.becomeDone
  try dsimp only
  repeat' first
    | with_reducible assumption
    | with_reducible apply State.sheetBoundarySpit_quiet
    | with_reducible apply State.sheetMoved_quiet
    | with_reducible apply Quiet.post
    | with_reducible apply Quiet.modSheet
    | exact Sheet.Same.mk rfl rfl id (fun h => nomatch h)
    | split
    | intro _
    | exact Sheet.Same.mk rfl rfl id id

theorem State.spoilSwath_quiet {z s : State} (hz : Quiet z s) (r : Reason) (i : SlotIx) : Quiet z (s.spoilSwath r i) := by
  unfold State.spoilSwath
  try dsimp only
  repeat' first
    | with_reducible assumption
    | with_reducible apply State.retire_quiet
    | with_reducible apply Quiet.post
    | with_reducible apply Quiet.modSlot
    | split
    | intro _
    | exact Slot.Same.mk rfl rfl rfl

theorem State.spoil_quiet {z s : State} (hz : Quiet z s) (sid : Nat) (r : Reason) : Quiet z (s.spoil sid r) := by
  unfold State.spoil
  try dsimp only
  repeat' first
    | with_reducible assumption
    | with_reducible apply State.setSheet_quiet
    | with_reducible apply State.spoilSwath_quiet
    | with_reducible apply State.becomeSpoiled_quiet
    | with_reducible apply Quiet.foldl
    | with_reducible apply Quiet.together
    | exact Sheet.Same.mk rfl rfl (fun _ => rfl) id
    | split
    | intro _
    | exact Sheet.Same.mk rfl rfl id id

theorem State.setRoll_quiet {z s : State} (hz : Quiet z s) (r : Roll) (st : RollState) : Quiet z (s.setRoll r st) := by
  unfold State.setRoll
  try dsimp only
  repeat' first
    | with_reducible assumption
    | with_reducible apply Quiet.stir
    | with_reducible apply Quiet.modRoll
    | split
    | intro _
    | exact And.intro rfl rfl

theorem State.rollLowTest_quiet {z s : State} (hz : Quiet z s) (r : Roll) : Quiet z (s.rollLowTest r) := by
  unfold State.rollLowTest
  try dsimp only
  repeat' first
    | with_reducible assumption
    | with_reducible apply Quiet.post
    | with_reducible apply Quiet.modRoll
    | split
    | intro _
    | exact And.intro rfl rfl

theorem State.lowerRemaining_quiet {z s : State} (hz : Quiet z s) (r : Roll) (len : Nat) : Quiet z (s.lowerRemaining r len) := by
  unfold State.lowerRemaining
  try dsimp only
  repeat' first
    | with_reducible assumption
    | with_reducible apply State.rollLowTest_quiet
    | with_reducible apply Quiet.modRoll
    | split
    | intro _
    | exact And.intro rfl rfl

theorem State.rollOut_quiet {z s : State} (hz : Quiet z s) (r : Roll) : Quiet z (s.rollOut r) := by
  unfold State.rollOut
  try dsimp only
  repeat' first
    | with_reducible assumption
    | with_reducible apply State.setRoll_quiet
    | with_reducible apply Quiet.post
    | split
    | intro _

theorem State.beginOp_quiet {z s : State} (hz : Quiet z s) (o : MediaOp) : Quiet z (s.beginOp o) := by
  unfold State.beginOp
  try dsimp only
  repeat' first
    | with_reducible assumption
    | with_reducible apply Quiet.stir
    | with_reducible apply Quiet.modMedia
    | split
    | intro _
    | exact Media.Same.plain ⟨rfl, rfl, rfl, rfl, rfl, rfl, rfl, rfl⟩

theorem State.beginFeed_quiet {z s : State} (hz : Quiet z s) (kind : OpKind) (r : Roll) (sid : Nat) (slot : Option SlotIx) (dist : Nat) : Quiet z (s.beginFeed kind r sid slot dist) := by
  unfold State.beginFeed
  try dsimp only
  repeat' first
    | with_reducible assumption
    | with_reducible apply State.beginOp_quiet
    | split
    | intro _

theorem State.beginRewind_quiet {z s : State} (hz : Quiet z s) (r : Roll) (sid : Option Nat) (next : Option Roll) : Quiet z (s.beginRewind r sid next) := by
  unfold State.beginRewind
  try dsimp only
  repeat' first
    | with_reducible assumption
    | with_reducible apply State.setRoll_quiet
    | with_reducible apply State.beginOp_quiet
    | split
    | intro _

theorem State.beginThread_quiet {z s : State} (hz : Quiet z s) (r : Roll) (sid : Nat) (prev : Option Roll) : Quiet z (s.beginThread r sid prev) := by
  unfold State.beginThread
  try dsimp only
  repeat' first
    | with_reducible assumption
    | with_reducible apply State.setRoll_quiet
    | with_reducible apply State.beginOp_quiet
    | split
    | intro _

theorem State.beginCut_quiet {z s : State} (hz : Quiet z s) (t : Sheet) : Quiet z (s.beginCut t) := by
  unfold State.beginCut
  try dsimp only
  repeat' first
    | with_reducible assumption
    | with_reducible apply State.beginOp_quiet
    | split
    | intro _

theorem State.beginClearing_quiet {z s : State} (hz : Quiet z s) (r : Roll) : Quiet z (s.beginClearing r) := by
  unfold State.beginClearing
  try dsimp only
  repeat' first
    | with_reducible assumption
    | with_reducible apply State.beginOp_quiet
    | split
    | intro _

theorem State.makeDue_quiet {z s : State} (hz : Quiet z s) (d : DueOp) : Quiet z (s.makeDue d) := by
  unfold State.makeDue
  try dsimp only
  repeat' first
    | with_reducible assumption
    | with_reducible apply Quiet.modMedia
    | split
    | intro _
    | exact Media.Same.plain ⟨rfl, rfl, rfl, rfl, rfl, rfl, rfl, rfl⟩

theorem State.startFeed_quiet {z s : State} (hz : Quiet z s) (kind : OpKind) (t : Sheet) (slot : Option SlotIx) (dist : Nat) : Quiet z (s.startFeed kind t slot dist) := by
  unfold State.startFeed
  try dsimp only
  repeat' first
    | with_reducible assumption
    | with_reducible apply State.beginFeed_quiet
    | with_reducible apply State.makeDue_quiet
    | split
    | intro _

theorem State.startCut_quiet {z s : State} (hz : Quiet z s) (t : Sheet) : Quiet z (s.startCut t) := by
  unfold State.startCut
  try dsimp only
  repeat' first
    | with_reducible assumption
    | with_reducible apply State.beginCut_quiet
    | with_reducible apply State.makeDue_quiet
    | split
    | intro _

theorem State.startThread_quiet {z s : State} (hz : Quiet z s) (r : Roll) (sid : Nat) (prev : Option Roll) : Quiet z (s.startThread r sid prev) := by
  unfold State.startThread
  try dsimp only
  repeat' first
    | with_reducible assumption
    | with_reducible apply State.beginThread_quiet
    | with_reducible apply State.makeDue_quiet
    | split
    | intro _

theorem State.dropDue_quiet {z s : State} (hz : Quiet z s) (sid : Nat) : Quiet z (s.dropDue sid) := by
  unfold State.dropDue
  try dsimp only
  repeat' first
    | with_reducible assumption
    | with_reducible apply Quiet.modMedia
    | split
    | intro _
    | exact Media.Same.plain ⟨rfl, rfl, rfl, rfl, rfl, rfl, rfl, rfl⟩

theorem State.toPrinting_quiet {z s : State} (hz : Quiet z s) (sid : Nat) : Quiet z (s.toPrinting sid) := by
  unfold State.toPrinting
  try dsimp only
  repeat' first
    | with_reducible assumption
    | with_reducible apply State.starveZero_quiet
    | with_reducible apply State.moveSheet_quiet
    | exact Sheet.Same.mk rfl rfl id (fun h => nomatch h)
    | split
    | intro _
    | exact Sheet.Same.mk rfl rfl id id

theorem State.toCutting_quiet {z s : State} (hz : Quiet z s) (t : Sheet) : Quiet z (s.toCutting t) := by
  unfold State.toCutting
  try dsimp only
  repeat' first
    | with_reducible assumption
    | with_reducible apply State.moveSheet_quiet
    | with_reducible apply State.startCut_quiet
    | exact Sheet.Same.mk rfl rfl id (fun h => nomatch h)
    | split
    | intro _
    | exact Sheet.Same.mk rfl rfl id id

theorem State.toTrailing_quiet {z s : State} (hz : Quiet z s) (t : Sheet) : Quiet z (s.toTrailing t) := by
  unfold State.toTrailing
  try dsimp only
  repeat' first
    | with_reducible assumption
    | with_reducible apply State.dropDue_quiet
    | with_reducible apply State.leavePrinting_quiet
    | with_reducible apply State.moveSheet_quiet
    | with_reducible apply State.toCutting_quiet
    | with_reducible apply State.startFeed_quiet
    | exact Sheet.Same.mk rfl rfl id (fun h => nomatch h)
    | split
    | intro _
    | exact Sheet.Same.mk rfl rfl id id

theorem State.toLeading_quiet {z s : State} (hz : Quiet z s) (t : Sheet) : Quiet z (s.toLeading t) := by
  unfold State.toLeading
  try dsimp only
  repeat' first
    | with_reducible assumption
    | with_reducible apply State.moveSheet_quiet
    | with_reducible apply State.toPrinting_quiet
    | with_reducible apply State.startFeed_quiet
    | exact Sheet.Same.mk rfl rfl id (fun h => nomatch h)
    | split
    | intro _
    | exact Sheet.Same.mk rfl rfl id id

theorem State.endOp_quiet {z s : State} (hz : Quiet z s) : Quiet z (s.endOp) := by
  unfold State.endOp
  try dsimp only
  repeat' first
    | with_reducible assumption
    | with_reducible apply Quiet.stir
    | with_reducible apply Quiet.stirBoundary
    | with_reducible apply Quiet.modMedia
    | split
    | intro _
    | exact Media.Same.plain ⟨rfl, rfl, rfl, rfl, rfl, rfl, rfl, rfl⟩

theorem State.addFed_quiet {z s : State} (hz : Quiet z s) (o : MediaOp) (len : Nat) : Quiet z (s.addFed o len) := by
  unfold State.addFed
  try dsimp only
  repeat' first
    | with_reducible assumption
    | with_reducible apply State.lowerRemaining_quiet
    | with_reducible apply Quiet.modSheet
    | split
    | intro _
    | exact Sheet.Same.mk rfl rfl id id

theorem State.advanceEnds_quiet {z s : State} (hz : Quiet z s) (o : MediaOp) (r : Option Reason) : Quiet z (s.advanceEnds o r) := by
  unfold State.advanceEnds
  try dsimp only
  repeat' first
    | with_reducible assumption
    | with_reducible apply State.starveZero_quiet
    | with_reducible apply State.retire_quiet
    | split
    | intro _

theorem State.feedDone_quiet {z s : State} (hz : Quiet z s) (o : MediaOp) : Quiet z (s.feedDone o) := by
  unfold State.feedDone
  try dsimp only
  repeat' first
    | with_reducible assumption
    | with_reducible apply State.endOp_quiet
    | with_reducible apply State.addFed_quiet
    | with_reducible apply State.advanceEnds_quiet
    | with_reducible apply State.spoil_quiet
    | with_reducible apply State.toPrinting_quiet
    | with_reducible apply State.toCutting_quiet
    | split
    | intro _

theorem State.rewindDone_quiet {z s : State} (hz : Quiet z s) (o : MediaOp) : Quiet z (s.rewindDone o) := by
  unfold State.rewindDone
  try dsimp only
  repeat' first
    | with_reducible assumption
    | with_reducible apply State.endOp_quiet
    | with_reducible apply State.setRoll_quiet
    | with_reducible apply State.startThread_quiet
    | with_reducible apply Quiet.modRoll
    | split
    | intro _
    | exact And.intro rfl rfl

theorem State.threadDone_quiet {z s : State} (hz : Quiet z s) (o : MediaOp) : Quiet z (s.threadDone o) := by
  unfold State.threadDone
  try dsimp only
  repeat' first
    | with_reducible assumption
    | with_reducible apply State.endOp_quiet
    | with_reducible apply State.setRoll_quiet
    | with_reducible apply State.setSheet_quiet
    | with_reducible apply Quiet.post
    | split
    | intro _
    | exact Sheet.Same.mk rfl rfl id id

theorem State.clearingDone_quiet {z s : State} (hz : Quiet z s) (o : MediaOp) : Quiet z (s.clearingDone o) := by
  unfold State.clearingDone
  try dsimp only
  repeat' first
    | with_reducible assumption
    | with_reducible apply State.endOp_quiet
    | with_reducible apply State.rollOut_quiet
    | split
    | intro _

theorem State.cutDone_quiet {z s : State} (hz : Quiet z s) (o : MediaOp) : Quiet z (s.cutDone o) := by
  unfold State.cutDone
  try dsimp only
  repeat' first
    | with_reducible assumption
    | with_reducible apply State.endOp_quiet
    | with_reducible apply State.spoil_quiet
    | with_reducible apply State.becomeSpoiled_quiet
    | with_reducible apply State.becomeDone_quiet
    | split
    | intro _

theorem State.opEnds_quiet {z s : State} (hz : Quiet z s) (o : MediaOp) : Quiet z (s.opEnds o) := by
  unfold State.opEnds
  try dsimp only
  repeat' first
    | with_reducible assumption
    | with_reducible apply State.feedDone_quiet
    | with_reducible apply State.clearingDone_quiet
    | with_reducible apply State.rewindDone_quiet
    | with_reducible apply State.threadDone_quiet
    | with_reducible apply State.cutDone_quiet
    | split
    | intro _

theorem State.startDue_quiet {z s : State} (hz : Quiet z s) (d : DueOp) : Quiet z (s.startDue d) := by
  unfold State.startDue
  try dsimp only
  repeat' first
    | with_reducible assumption
    | with_reducible apply State.beginCut_quiet
    | with_reducible apply State.beginThread_quiet
    | with_reducible apply State.spoil_quiet
    | with_reducible apply State.becomeSpoiled_quiet
    | with_reducible apply State.beginFeed_quiet
    | with_reducible apply Quiet.stir
    | with_reducible apply Quiet.modMedia
    | split
    | intro _
    | exact Media.Same.plain ⟨rfl, rfl, rfl, rfl, rfl, rfl, rfl, rfl⟩

theorem State.mediaTest_quiet {z s : State} (hz : Quiet z s) : Quiet z (s.mediaTest) := by
  unfold State.mediaTest
  try dsimp only
  repeat' first
    | with_reducible assumption
    | with_reducible apply State.opEnds_quiet
    | with_reducible apply State.startDue_quiet
    | with_reducible apply State.beginClearing_quiet
    | split
    | intro _

theorem State.pulse_quiet {z s : State} (hz : Quiet z s) : Quiet z (s.pulse) := by
  unfold State.pulse
  try dsimp only
  repeat' first
    | with_reducible assumption
    | with_reducible apply Quiet.wake
    | with_reducible apply Quiet.modMedia
    | split
    | intro _
    | exact Media.Same.plain ⟨rfl, rfl, rfl, rfl, rfl, rfl, rfl, rfl⟩

theorem State.rollPresentChanged_quiet {z s : State} (hz : Quiet z s) (r : Roll) : Quiet z (s.rollPresentChanged r) := by
  unfold State.rollPresentChanged
  try dsimp only
  repeat' first
    | with_reducible assumption
    | with_reducible apply State.setRoll_quiet
    | with_reducible apply Quiet.stir
    | with_reducible apply Quiet.modRoll
    | split
    | intro _
    | exact And.intro rfl rfl

theorem State.rollEndActive_quiet {z s : State} (hz : Quiet z s) (r : Roll) : Quiet z (s.rollEndActive r) := by
  unfold State.rollEndActive
  try dsimp only
  repeat' first
    | with_reducible assumption
    | with_reducible apply State.setRoll_quiet
    | with_reducible apply State.spoil_quiet
    | with_reducible apply State.endOp_quiet
    | with_reducible apply State.rollOut_quiet
    | with_reducible apply Quiet.post
    | split
    | intro _

theorem State.rollEndChanged_quiet {z s : State} (hz : Quiet z s) (r : Roll) : Quiet z (s.rollEndChanged r) := by
  unfold State.rollEndChanged
  try dsimp only
  repeat' first
    | with_reducible assumption
    | with_reducible apply State.rollEndActive_quiet
    | split
    | intro _

theorem State.feedPathChanged_quiet {z s : State} (hz : Quiet z s) : Quiet z (s.feedPathChanged) := by
  unfold State.feedPathChanged
  try dsimp only
  repeat' first
    | with_reducible assumption
    | with_reducible apply Quiet.wake
    | split
    | intro _

theorem State.platenEmpty_quiet {z s : State} (hz : Quiet z s) : Quiet z (s.platenEmpty) := by
  unfold State.platenEmpty
  try dsimp only
  repeat' first
    | with_reducible assumption
    | with_reducible apply State.spoil_quiet
    | with_reducible apply State.endOp_quiet
    | with_reducible apply State.rollOut_quiet
    | with_reducible apply State.setRoll_quiet
    | split
    | intro _

theorem State.platenChanged_quiet {z s : State} (hz : Quiet z s) : Quiet z (s.platenChanged) := by
  unfold State.platenChanged
  try dsimp only
  repeat' first
    | with_reducible assumption
    | with_reducible apply State.platenEmpty_quiet
    | with_reducible apply Quiet.wake
    | with_reducible apply Quiet.stir
    | split
    | intro _

theorem State.cutterChanged_quiet {z s : State} (hz : Quiet z s) (old : LineState) : Quiet z (s.cutterChanged old) := by
  unfold State.cutterChanged
  try dsimp only
  repeat' first
    | with_reducible assumption
    | with_reducible apply State.cutDone_quiet
    | split
    | intro _

theorem State.spoiledEnd_quiet {z s : State} (hz : Quiet z s) (t : Sheet) : Quiet z (s.spoiledEnd t) := by
  unfold State.spoiledEnd
  try dsimp only
  repeat' first
    | with_reducible assumption
    | with_reducible apply State.dropDue_quiet
    | with_reducible apply State.toTrailing_quiet
    | with_reducible apply State.becomeSpoiled_quiet
    | split
    | intro _

theorem State.sheetEndTest_quiet {z s : State} (hz : Quiet z s) (t : Sheet) : Quiet z (s.sheetEndTest t) := by
  unfold State.sheetEndTest
  try dsimp only
  repeat' first
    | with_reducible assumption
    | with_reducible apply State.spoil_quiet
    | with_reducible apply State.becomeSpoiled_quiet
    | with_reducible apply State.becomeDone_quiet
    | with_reducible apply State.dropDue_quiet
    | with_reducible apply State.spoiledEnd_quiet
    | with_reducible apply State.toTrailing_quiet
    | split
    | intro _

theorem State.sheetsTest_quiet {z s : State} (h : Quiet z s) : Quiet z s.sheetsTest := by
  unfold State.sheetsTest
  refine State.filterTable_quiet (Quiet.foldl h fun t a ht => ?_) _
  split
  · exact State.sheetEndTest_quiet ht _
  · exact ht

end Sys2Proof.Machine
end

