-- ==== Sys2Proof/Laws/QuietHealth.lean ====
section
/-! SUPPORT. Laws/QuietHealth.lean: every operation of Machine/Health.lean that a reaction may take is quiet. -/
namespace Sys2Proof.Machine

theorem judgeFrom_length (k : Nat) (l : List Nat) (b : Bool) (ns : List Nozzle) : (judgeFrom k l b ns).length = ns.length := by
  induction ns generalizing k with
  | nil => rfl
  | cons n ns ih => simp only [judgeFrom, List.length_cons, ih]

theorem State.applyReport_quiet {z s : State} (hz : Quiet z s) (h : List Byte) (q : Option Seq) : Quiet z (s.applyReport h q) := by
  unfold State.applyReport
  try dsimp only
  repeat' first
    | with_reducible assumption
    | exact judgeFrom_length ..
    | exact Eq.refl _
    | rw [PerChan.get_of]
    | split
    | intro _
    | with_reducible apply Quiet.setHealth

theorem State.postMoves_quiet {z s : State} (hz : Quiet z s) (k : EventKind) (q : Option Seq) (m : PerChan Nat) : Quiet z (s.postMoves k q m) := by
  unfold State.postMoves
  try dsimp only
  repeat' first
    | with_reducible assumption
    | with_reducible apply Quiet.post
    | split
    | intro _

theorem State.postDegraded_quiet {z s : State} (hz : Quiet z s) (cs : ChanSet) : Quiet z (s.postDegraded cs) := by
  unfold State.postDegraded
  try dsimp only
  repeat' first
    | with_reducible assumption
    | with_reducible apply Quiet.post
    | with_reducible apply Quiet.foldl
    | split
    | intro _

theorem State.askCleaning_quiet {z s : State} (hz : Quiet z s) (level : Level) (cs : ChanSet) (g : CleanStage) : Quiet z (s.askCleaning level cs g) := by
  unfold State.askCleaning
  try dsimp only
  repeat' first
    | with_reducible assumption
    | with_reducible apply State.mapStages_quiet
    | with_reducible apply State.offer_quiet_of (by assumption)
    | split
    | intro _

theorem State.climbLadder_quiet {z s : State} (hz : Quiet z s) (cov : ChanSet) : Quiet z (s.climbLadder cov) := by
  unfold State.climbLadder
  try dsimp only
  repeat' first
    | with_reducible assumption
    | with_reducible apply State.mapStages_quiet
    | with_reducible apply State.postDegraded_quiet
    | with_reducible apply State.askCleaning_quiet
    | with_reducible apply Quiet.post
    | split
    | intro _

theorem State.takeReport_quiet {z s : State} (hz : Quiet z s) (h : List Byte) (q : Option Seq) : Quiet z (s.takeReport h q) := by
  unfold State.takeReport
  try dsimp only
  repeat' first
    | with_reducible assumption
    | with_reducible apply State.applyReport_quiet
    | with_reducible apply State.postMoves_quiet
    | with_reducible apply State.climbLadder_quiet
    | with_reducible apply Quiet.post
    | split
    | intro _

theorem State.replaceHeads_quiet {z s : State} (hz : Quiet z s) (cs : ChanSet) : Quiet z (s.replaceHeads cs) := by
  unfold State.replaceHeads
  try dsimp only
  repeat' first
    | with_reducible assumption
    | exact List.length_map _
    | exact Eq.refl _
    | rw [PerChan.get_of]
    | split
    | intro _
    | with_reducible apply Quiet.setHealth

end Sys2Proof.Machine
end

