-- ==== Sys2Proof/Laws/QuietProfiles.lean ====
section
/-! SUPPORT. Laws/QuietProfiles.lean: every operation of Machine/Profiles.lean that a reaction may take is quiet. -/
namespace Sys2Proof.Machine

theorem State.policyChanged_quiet {z s : State} (hz : Quiet z s) (old : SpitPolicy) : Quiet z (s.policyChanged old) := by
  unfold State.policyChanged
  try dsimp only
  repeat' first
    | with_reducible assumption
    | with_reducible apply State.offerStaleSpit_quiet
    | split
    | intro _

theorem State.idleLimitTest_quiet {z s : State} (hz : Quiet z s) : Quiet z (s.idleLimitTest) := by
  unfold State.idleLimitTest
  try dsimp only
  repeat' first
    | with_reducible assumption
    | with_reducible apply State.idleExpires_quiet
    | split
    | intro _

theorem State.stageChan_quiet {z s : State} (hz : Quiet z s) (c : Chan) (new : ChanProfile) : Quiet z (s.stageChan c new) := by
  unfold State.stageChan
  try dsimp only
  repeat' first
    | with_reducible assumption
    | with_reducible apply State.decapExpires_quiet
    | split
    | intro _
    | with_reducible apply Quiet.setProf

theorem State.stageMedia_quiet {z s : State} (hz : Quiet z s) (r : Roll) (new : MediaProfile) (declared : Bool) : Quiet z (s.stageMedia r new declared) := by
  unfold State.stageMedia
  try dsimp only
  repeat' first
    | with_reducible assumption
    | split
    | intro _
    | with_reducible apply Quiet.setProf

theorem State.stageFlow_quiet {z s : State} (hz : Quiet z s) (new : FlowProfile) : Quiet z (s.stageFlow new) := by
  unfold State.stageFlow
  try dsimp only
  repeat' first
    | with_reducible assumption
    | with_reducible apply State.policyChanged_quiet
    | with_reducible apply State.idleLimitTest_quiet
    | with_reducible apply Quiet.wake
    | with_reducible apply Quiet.stir
    | split
    | intro _
    | exact Eq.refl _
    | with_reducible apply Quiet.setProf
    | with_reducible apply Quiet.setFlow

theorem State.applyChanSection_quiet {z s : State} (hz : Quiet z s) (c : Chan) : Quiet z (s.applyChanSection c) := by
  unfold State.applyChanSection
  try dsimp only
  repeat' first
    | with_reducible assumption
    | split
    | intro _
    | with_reducible apply Quiet.setProf

theorem State.applyOtherSections_quiet {z s : State} (hz : Quiet z s) : Quiet z (s.applyOtherSections) := by
  unfold State.applyOtherSections
  try dsimp only
  repeat' first
    | with_reducible assumption
    | split
    | intro _
    | with_reducible apply Quiet.setProf

theorem State.releaseModeApplied_quiet {z s : State} (hz : Quiet z s) (old : ReleaseMode) : Quiet z (s.releaseModeApplied old) := by
  unfold State.releaseModeApplied
  try dsimp only
  repeat' first
    | with_reducible assumption
    | with_reducible apply State.releaseAll_quiet
    | split
    | intro _

theorem State.wipeIntervalApplied_quiet {z s : State} (hz : Quiet z s) (old : Nat) : Quiet z (s.wipeIntervalApplied old) := by
  unfold State.wipeIntervalApplied
  try dsimp only
  repeat' first
    | with_reducible assumption
    | with_reducible apply State.wipeTest_quiet
    | split
    | intro _

theorem State.applyStaged_quiet {z s : State} (hz : Quiet z s) : Quiet z (s.applyStaged) := by
  unfold State.applyStaged
  try dsimp only
  repeat' first
    | with_reducible assumption
    | with_reducible apply State.applyChanSection_quiet
    | with_reducible apply State.applyOtherSections_quiet
    | with_reducible apply State.inkProfilesApplied_quiet
    | with_reducible apply State.rollLowTest_quiet
    | with_reducible apply State.releaseModeApplied_quiet
    | with_reducible apply State.wipeIntervalApplied_quiet
    | with_reducible apply Quiet.post
    | with_reducible apply Quiet.wake
    | with_reducible apply Quiet.stir
    | with_reducible apply Quiet.stirWalk
    | with_reducible apply Quiet.foldl
    | split
    | intro _

theorem State.quietTest_quiet {z s : State} (hz : Quiet z s) : Quiet z (s.quietTest) := by
  unfold State.quietTest
  try dsimp only
  repeat' first
    | with_reducible assumption
    | with_reducible apply State.applyStaged_quiet
    | split
    | intro _

theorem State.takeSection_quiet {z s : State} (hz : Quiet z s) (h : List Byte) (k : Nat) : Quiet z (s.takeSection h k) := by
  unfold State.takeSection
  try dsimp only
  repeat' first
    | with_reducible assumption
    | with_reducible apply State.stageChan_quiet
    | with_reducible apply State.stageMedia_quiet
    | with_reducible apply State.stageFlow_quiet
    | split
    | intro _

theorem State.takeProfile_quiet {z s : State} (hz : Quiet z s) (h : List Byte) (q : Option Seq) : Quiet z (s.takeProfile h q) := by
  unfold State.takeProfile
  try dsimp only
  repeat' first
    | with_reducible assumption
    | with_reducible apply State.takeSection_quiet
    | with_reducible apply State.quietTest_quiet
    | with_reducible apply Quiet.foldl
    | split
    | intro _
    | with_reducible apply Quiet.setProf

end Sys2Proof.Machine
end

