-- ==== Sys2Proof/Laws/QuietFlow.lean ====
section
/-! SUPPORT. Laws/QuietFlow.lean: every operation of Machine/Flow.lean that a reaction may take is quiet. -/
namespace Sys2Proof.Machine

theorem State.ringService_quiet {z s : State} (hz : Quiet z s) (i : SlotIx) (h : List Byte) : Quiet z (s.ringService i h) := by
  unfold State.ringService
  try dsimp only
  repeat' first
    | with_reducible assumption
    | with_reducible apply State.retire_quiet
    | with_reducible apply State.offer_quiet_of (by assumption)
    | split
    | intro _

theorem State.ringProfile_quiet {z s : State} (hz : Quiet z s) (i : SlotIx) (h : List Byte) : Quiet z (s.ringProfile i h) := by
  unfold State.ringProfile
  try dsimp only
  repeat' first
    | with_reducible assumption
    | with_reducible apply State.retire_quiet
    | with_reducible apply State.takeProfile_quiet
    | split
    | intro _
    | with_reducible apply Quiet.setProf

theorem State.ringReport_quiet {z s : State} (hz : Quiet z s) (i : SlotIx) (h : List Byte) : Quiet z (s.ringReport i h) := by
  unfold State.ringReport
  try dsimp only
  repeat' first
    | with_reducible assumption
    | with_reducible apply State.retire_quiet
    | with_reducible apply State.takeReport_quiet
    | split
    | intro _

theorem State.ringMark_quiet {z s : State} (hz : Quiet z s) (i : SlotIx) (h : List Byte) : Quiet z (s.ringMark i h) := by
  unfold State.ringMark
  try dsimp only
  repeat' first
    | with_reducible assumption
    | with_reducible apply State.retire_quiet
    | with_reducible apply Quiet.post
    | split
    | intro _

theorem State.executeEntry_quiet {z s : State} (hz : Quiet z s) (i : SlotIx) : Quiet z (s.executeEntry i) := by
  unfold State.executeEntry
  try dsimp only
  repeat' first
    | with_reducible assumption
    | with_reducible apply State.ringProfile_quiet
    | with_reducible apply State.ringReport_quiet
    | with_reducible apply State.ringService_quiet
    | with_reducible apply State.ringMark_quiet
    | split
    | intro _

theorem State.hold_quiet {z s : State} (hz : Quiet z s) (i : SlotIx) (r : Reason) (detail : Nat) : Quiet z (s.hold i r detail) := by
  unfold State.hold
  try dsimp only
  repeat' first
    | with_reducible assumption
    | with_reducible apply Quiet.wake
    | with_reducible apply Quiet.modSlot
    | split
    | intro _
    | exact Slot.Same.mk rfl rfl rfl

theorem State.beginStart_quiet {z s : State} (hz : Quiet z s) (t : Sheet) : Quiet z (s.beginStart t) := by
  unfold State.beginStart
  try dsimp only
  repeat' first
    | with_reducible assumption
    | with_reducible apply State.sheetMoved_quiet
    | with_reducible apply Quiet.wake
    | with_reducible apply Quiet.modSheet
    | exact Sheet.Same.mk rfl rfl id (fun h => nomatch h)
    | split
    | intro _
    | exact Sheet.Same.mk rfl rfl id id

theorem State.offerFlowSpits_quiet {z s : State} (hz : Quiet z s) (cs : ChanSet) : Quiet z (s.offerFlowSpits cs) := by
  unfold State.offerFlowSpits
  try dsimp only
  repeat' first
    | with_reducible assumption
    | with_reducible apply State.offerQuietly_quiet
    | with_reducible apply Quiet.foldl
    | split
    | intro _

theorem State.admitSwath_quiet {z s : State} (hz : Quiet z s) (i : SlotIx) (need : PerChan Nat) : Quiet z (s.admitSwath i need) := by
  unfold State.admitSwath
  try dsimp only
  repeat' first
    | with_reducible assumption
    | with_reducible apply State.withdrawCap_quiet
    | with_reducible apply Quiet.wake
    | with_reducible apply Quiet.stir
    | with_reducible apply Quiet.modSlot
    | split
    | intro _
    | exact Slot.Same.mk rfl rfl rfl

theorem State.admitTest_quiet {z s : State} (hz : Quiet z s) (i : SlotIx) (k : Slot) (need : PerChan Nat) : Quiet z (s.admitTest i k need) := by
  unfold State.admitTest
  try dsimp only
  repeat' first
    | with_reducible assumption
    | with_reducible apply State.admitSwath_quiet
    | with_reducible apply State.hold_quiet
    | with_reducible apply State.offerFlowSpits_quiet
    | with_reducible apply State.reserve_quiet_of (by assumption)
    | split
    | intro _

theorem State.sheetTest_quiet {z s : State} (hz : Quiet z s) (i : SlotIx) (k : Slot) (need : PerChan Nat) : Quiet z (s.sheetTest i k need) := by
  unfold State.sheetTest
  try dsimp only
  repeat' first
    | with_reducible assumption
    | with_reducible apply State.hold_quiet
    | with_reducible apply State.admitTest_quiet
    | with_reducible apply State.beginStart_quiet
    | split
    | intro _

theorem State.runDirectives_quiet (n : Nat) {z s : State} (hz : Quiet z s) : Quiet z (s.runDirectives n) := by
  induction n generalizing s with
  | zero => exact hz
  | succ n ih =>
    unfold State.runDirectives
    split
    · exact ih (State.executeEntry_quiet hz _)
    · exact hz

theorem State.evaluate_quiet {z s : State} (hz : Quiet z s) : Quiet z (s.evaluate) := by
  unfold State.evaluate
  try dsimp only
  repeat' first
    | with_reducible assumption
    | with_reducible apply State.rejectSwath_quiet
    | with_reducible apply State.hold_quiet
    | with_reducible apply State.sheetTest_quiet
    | split
    | intro _

theorem State.evalFront_quiet {z s : State} (hz : Quiet z s) : Quiet z (s.evalFront) := by
  unfold State.evalFront
  try dsimp only
  repeat' first
    | with_reducible assumption
    | with_reducible apply State.evaluate_quiet
    | with_reducible apply State.runDirectives_quiet
    | split
    | intro _

theorem State.uncapTest_quiet {z s : State} (hz : Quiet z s) : Quiet z (s.uncapTest) := by
  unfold State.uncapTest
  try dsimp only
  repeat' first
    | with_reducible assumption
    | with_reducible apply State.offerQuietly_quiet
    | split
    | intro _

theorem State.decapsFired_quiet {z s : State} (hz : Quiet z s) (fired : PerChan Nat) : Quiet z (s.decapsFired fired) := by
  unfold State.decapsFired
  try dsimp only
  repeat' first
    | with_reducible assumption
    | with_reducible apply Quiet.modSvc
    | split
    | intro _
    | exact Service.Same.mk rfl rfl rfl rfl id

theorem State.swathDebit_quiet {z s : State} (hz : Quiet z s) (need fired : PerChan Nat) : Quiet z (s.swathDebit need fired) := by
  unfold State.swathDebit
  try dsimp only
  repeat' first
    | with_reducible assumption
    | with_reducible apply State.debit_quiet
    | with_reducible apply State.decapsFired_quiet
    | with_reducible apply State.wipeAdd_quiet
    | split
    | intro _

theorem State.afterFetch_quiet {z s : State} (hz : Quiet z s) (i : SlotIx) : Quiet z (s.afterFetch i) := by
  unfold State.afterFetch
  try dsimp only
  repeat' first
    | with_reducible assumption
    | with_reducible apply State.retire_quiet
    | with_reducible apply State.toTrailing_quiet
    | with_reducible apply State.starveZero_quiet
    | with_reducible apply State.evalFront_quiet
    | with_reducible apply State.startFeed_quiet
    | with_reducible apply Quiet.wake
    | with_reducible apply Quiet.stir
    | with_reducible apply Quiet.stirBoundary
    | with_reducible apply Quiet.modSlot
    | split
    | intro _
    | exact Slot.Same.mk rfl rfl rfl

theorem State.fetchCompletes_quiet {z s : State} (hz : Quiet z s) (i : SlotIx) : Quiet z (s.fetchCompletes i) := by
  unfold State.fetchCompletes
  try dsimp only
  repeat' first
    | with_reducible assumption
    | with_reducible apply State.swathDebit_quiet
    | with_reducible apply State.afterFetch_quiet
    | with_reducible apply Quiet.modSlot
    | split
    | intro _
    | exact Slot.Same.mk rfl rfl rfl

theorem State.starveAct_quiet {z s : State} (hz : Quiet z s) (i : SlotIx) (t : Sheet) : Quiet z (s.starveAct i t) := by
  unfold State.starveAct
  try dsimp only
  repeat' first
    | with_reducible assumption
    | with_reducible apply State.spoil_quiet
    | with_reducible apply Quiet.post
    | split
    | intro _
    | exact Eq.refl _
    | with_reducible apply Quiet.setFlow

theorem State.starveTest_quiet {z s : State} (hz : Quiet z s) : Quiet z (s.starveTest) := by
  unfold State.starveTest
  try dsimp only
  repeat' first
    | with_reducible assumption
    | with_reducible apply State.starveAct_quiet
    | split
    | intro _

end Sys2Proof.Machine
end

