-- ==== Sys2Proof/Laws/QuietSheetStart.lean ====
section
/-! SUPPORT. Laws/QuietSheetStart.lean: every operation of Machine/SheetStart.lean that a reaction may take is quiet. -/
namespace Sys2Proof.Machine

theorem State.setStep_quiet {z s : State} (hz : Quiet z s) (sid : Nat) (st : StartStep) : Quiet z (s.setStep sid st) := by
  unfold State.setStep
  try dsimp only
  repeat' first
    | with_reducible assumption
    | with_reducible apply State.setSheet_quiet
    | split
    | intro _
    | exact Sheet.Same.mk rfl rfl id id

theorem State.stepQuiet_quiet {z s : State} (hz : Quiet z s) (t : Sheet) : Quiet z (s.stepQuiet t) := by
  unfold State.stepQuiet
  try dsimp only
  repeat' first
    | with_reducible assumption
    | with_reducible apply State.quietTest_quiet
    | with_reducible apply State.setStep_quiet
    | split
    | intro _

theorem State.stepPrime_quiet {z s : State} (hz : Quiet z s) (t : Sheet) : Quiet z (s.stepPrime t) := by
  unfold State.stepPrime
  try dsimp only
  repeat' first
    | with_reducible assumption
    | with_reducible apply State.setStep_quiet
    | split
    | intro _

theorem State.wantMedia_quiet {z s : State} (hz : Quiet z s) (t : Sheet) : Quiet z (s.wantMedia t) := by
  unfold State.wantMedia
  try dsimp only
  repeat' first
    | with_reducible assumption
    | with_reducible apply Quiet.post
    | with_reducible apply Quiet.modSheet
    | split
    | intro _
    | exact Sheet.Same.mk rfl rfl id id

theorem State.takeRoll_quiet {z s : State} (hz : Quiet z s) (t : Sheet) (r : Roll) : Quiet z (s.takeRoll t r) := by
  unfold State.takeRoll
  try dsimp only
  repeat' first
    | with_reducible assumption
    | with_reducible apply State.setSheet_quiet
    | with_reducible apply State.beginRewind_quiet
    | with_reducible apply State.beginThread_quiet
    | with_reducible apply Quiet.modSheet
    | split
    | intro _
    | exact Sheet.Same.mk rfl rfl id id

theorem State.stepRoll_quiet {z s : State} (hz : Quiet z s) (t : Sheet) : Quiet z (s.stepRoll t) := by
  unfold State.stepRoll
  try dsimp only
  repeat' first
    | with_reducible assumption
    | with_reducible apply State.wantMedia_quiet
    | with_reducible apply State.takeRoll_quiet
    | split
    | intro _

theorem State.backToRoll_quiet {z s : State} (hz : Quiet z s) (t : Sheet) : Quiet z (s.backToRoll t) := by
  unfold State.backToRoll
  try dsimp only
  repeat' first
    | with_reducible assumption
    | with_reducible apply State.setSheet_quiet
    | split
    | intro _
    | exact Sheet.Same.mk rfl rfl id id

theorem State.stepInk_quiet {z s : State} (hz : Quiet z s) (t : Sheet) : Quiet z (s.stepInk t) := by
  unfold State.stepInk
  try dsimp only
  repeat' first
    | with_reducible assumption
    | with_reducible apply State.backToRoll_quiet
    | with_reducible apply State.setStep_quiet
    | with_reducible apply Quiet.post
    | with_reducible apply Quiet.modSheet
    | split
    | intro _
    | exact Sheet.Same.mk rfl rfl id id

theorem State.stepLead_quiet {z s : State} (hz : Quiet z s) (t : Sheet) : Quiet z (s.stepLead t) := by
  unfold State.stepLead
  try dsimp only
  repeat' first
    | with_reducible assumption
    | with_reducible apply State.backToRoll_quiet
    | with_reducible apply State.toLeading_quiet
    | split
    | intro _

theorem State.startHoldTest_quiet {z s : State} (hz : Quiet z s) : Quiet z (s.startHoldTest) := by
  unfold State.startHoldTest
  try dsimp only
  repeat' first
    | with_reducible assumption
    | with_reducible apply State.evalFront_quiet
    | with_reducible apply Quiet.wake
    | split
    | intro _

theorem State.stepTest_quiet {z s : State} (hz : Quiet z s) (t : Sheet) : Quiet z (s.stepTest t) := by
  unfold State.stepTest
  try dsimp only
  repeat' first
    | with_reducible assumption
    | with_reducible apply State.stepQuiet_quiet
    | with_reducible apply State.stepPrime_quiet
    | with_reducible apply State.stepRoll_quiet
    | with_reducible apply State.stepInk_quiet
    | with_reducible apply State.stepLead_quiet
    | split
    | intro _

theorem State.sheetStartTest_quiet {z s : State} (hz : Quiet z s) : Quiet z (s.sheetStartTest) := by
  unfold State.sheetStartTest
  try dsimp only
  repeat' first
    | with_reducible assumption
    | with_reducible apply State.stepTest_quiet
    | with_reducible apply State.startHoldTest_quiet
    | split
    | intro _

end Sys2Proof.Machine
end

