-- ==== Sys2Proof/Laws/React.lean ====
section
/-! SUPPORT. Laws/React.lean: what the reactions to a command leave as it is: `settle_keeps` for every state, `settle_quiet` where no read
waits behind the held one. -/
namespace Sys2Proof.Machine

theorem Keeps.quiet {z s t : State} (h : Keeps z s) (q : Quiet s t) : Keeps z t := h.trans q.toKeeps

/-! ### Counting -/

/-- A part-wide counter stays within 32 bits (R57). -/
theorem Counters.fit_set {k : Counters} (h : k.Fit) (i : CounterId) {v : Nat} (hv : v ≤ max32) : (k.set i v).Fit := by
  cases i
  · exact { h with strayFetches := hv }
  · exact { h with lateWrites := hv }
  · exact { h with unplaced := hv }
  · exact { h with overBudget := hv }
  · exact { h with holdExpiries := hv }
  · exact { h with fetchOrder := hv }

theorem State.setCounters_keeps {z s : State} (h : Keeps z s) (i : CounterId) {v : Nat} (hv : v ≤ max32) :
    Keeps z { s with counters := s.counters.set i v } :=
  h.trans { Keeps.refl s with counters := fun g => Counters.fit_set g i hv }

theorem State.count_keeps {z s : State} (h : Keeps z s) (i : CounterId) (n : Nat) : Keeps z (s.count i n) := by
  unfold State.count
  extract_lets v w
  split
  · exact State.setCounters_keeps h i (by assumption)
  · exact (State.setCounters_keeps h i (Nat.le_of_lt_succ (Nat.mod_lt _ (Nat.succ_pos _)))).quiet (Quiet.refl _).post

/-! ### Plane beats -/

theorem State.postBudget_quiet {z s : State} (h : Quiet z s) (i : SlotIx) (c : Chan) (cut : Nat) : Quiet z (s.postBudget i c cut) := by
  unfold State.postBudget
  split
  · exact h.post
  · exact h

theorem State.countedBeat_keeps {z s : State} (h : Keeps z s) (win : Window) (o : Nat) (codes : List Nat) : Keeps z (s.countedBeat win o codes).2 := by
  unfold State.countedBeat
  extract_lets i k c p
  split
  split
  rename_i moved unplaced _ _ kept cut _
  extract_lets a b d e
  have ha : Keeps z a := by
    change Keeps z (if _ then _ else _)
    split
    · exact h
    · exact State.count_keeps h ..
  have hb : Keeps z b := by
    change Keeps z (if _ then _ else _)
    split
    · exact ha
    · exact State.count_keeps ha ..
  have hd : Keeps z d := hb.quiet ((State.postBudget_quiet (Quiet.refl b) ..).modSlot fun _ => Slot.Same.mk rfl rfl rfl)
  have he : Keeps z e := hd.quiet ((Quiet.refl d).setWindows (Nat.le_of_eq (List.length_map _)))
  change Keeps z (if _ then _ else _)
  split
  · exact he.quiet (State.fetchCompletes_quiet (Quiet.refl e) _)
  · exact he

theorem State.fetchOrderFault_keeps {z s : State} (h : Keeps z s) (win : Window) (o : Nat) : Keeps z (s.fetchOrderFault win o) := by
  unfold State.fetchOrderFault
  extract_lets i t
  have ht : Keeps z t := State.count_keeps h ..
  split
  · exact ht
  · refine ht.quiet ?_
    with_reducible apply Quiet.post
    with_reducible apply Quiet.modSlot (Quiet.refl t)
    exact fun _ => Slot.Same.mk rfl rfl rfl

theorem State.startFiring_quiet {z s : State} (h : Quiet z s) (i : SlotIx) : Quiet z (s.startFiring i) := by
  unfold State.startFiring
  with_reducible apply Quiet.modSlot h
  exact fun _ => Slot.Same.mk rfl rfl rfl

theorem State.firingBeat_keeps {z s : State} (h : Keeps z s) (win : Window) (o : Nat) (mem : List Byte) : Keeps z (s.firingBeat win o mem).2 := by
  unfold State.firingBeat
  extract_lets codes
  split
  · exact State.fetchOrderFault_keeps h ..
  · split
    · exact State.countedBeat_keeps h ..
    · exact h

theorem State.planeAnswer_keeps {z s : State} (h : Keeps z s) (a wid : Nat) (mem : List Byte) : Keeps z (s.planeAnswer a wid mem).2 := by
  unfold State.planeAnswer
  split
  · exact State.count_keeps h ..
  · extract_lets k o
    split
    · exact State.firingBeat_keeps h ..
    · split
      · exact State.firingBeat_keeps (h.quiet (State.startFiring_quiet (Quiet.refl s) _)) ..
      · exact State.count_keeps h ..

/-! ### Reads -/

/-- Taking the oldest record keeps the bound of 32 records (R189, R190). -/
theorem EventQueue.take_length {q : EventQueue} (now : BitVec 32) (h : q.recs.length ≤ 32) : (q.take now).2.recs.length ≤ 32 := by
  unfold EventQueue.take
  split
  · exact h
  · rename_i e rest g
    rw [g, List.length_cons] at h
    split
    · exact Nat.le_of_succ_le h
    · rw [List.length_append, List.length_cons, List.length_nil]; omega

theorem EventQueue.take_overflow {q : EventQueue} (now : BitVec 32) (h : q.overflow ≤ max32) : (q.take now).2.overflow ≤ max32 := by
  unfold EventQueue.take
  repeat' split
  all_goals first | exact h | exact Nat.zero_le _

theorem EventQueue.take_masks (q : EventQueue) (now : BitVec 32) : (q.take now).2.masks = q.masks := by
  unfold EventQueue.take
  repeat' split
  all_goals rfl

theorem EventQueue.take_suspend (q : EventQueue) (now : BitVec 32) : (q.take now).2.suspend = q.suspend := by
  unfold EventQueue.take
  repeat' split
  all_goals rfl

theorem State.takeEvent_keeps {z s : State} (h : Keeps z s) : Keeps z { s with events := (s.events.take s.time.ms).2 } :=
  h.trans { Keeps.refl s with
    masks := EventQueue.take_masks ..
    suspend := EventQueue.take_suspend ..
    recs := EventQueue.take_length _
    overflow := EventQueue.take_overflow _ }

theorem State.answer_keeps {z s : State} (h : Keeps z s) (cls : ReqClass) (a : Nat) (d : List Byte) : Keeps z (s.answer cls a d) :=
  h.quiet (Quiet.refl s).answer

theorem State.forward_keeps {z s : State} (h : Keeps z s) (x : Forward) : Keeps z (s.forward x) := h.trans { Keeps.refl s with }

theorem State.answerEvent_keeps {z s : State} (h : Keeps z s) (cls : ReqClass) : Keeps z (s.answerEvent cls) := by
  unfold State.answerEvent
  exact State.answer_keeps (State.takeEvent_keeps h) ..

theorem State.takeRetired_keeps {z s : State} (h : Keeps z s) :
    Keeps z { s with parser := { s.parser with retired := s.parser.retired.tail, retireOverflow := 0 } } :=
  h.trans { Keeps.refl s with retired := fun g => Nat.le_trans (by rw [List.length_tail]; exact Nat.sub_le ..) g }

theorem State.answerRetirement_keeps {z s : State} (h : Keeps z s) (cls : ReqClass) : Keeps z (s.answerRetirement cls) := by
  unfold State.answerRetirement
  exact State.answer_keeps (State.takeRetired_keeps h) ..

theorem State.answerSpit_quiet {z s : State} (h : Quiet z s) (b : Fin 20) : Quiet z (s.answerSpit b) := State.spitTest_quiet h.answer _

theorem State.considerFetch_keeps {z s : State} (h : Keeps z s) (k : FetchKind) : Keeps z (s.considerFetch k) := by
  unfold State.considerFetch
  split
  · split
    · exact h.quiet ((Quiet.refl s).setLink ⟨rfl, rfl, rfl, rfl, rfl⟩)
    · exact h.quiet (State.answerGoWord_quiet (Quiet.refl s) ..)
  · exact State.answer_keeps h ..
  · exact State.answer_keeps (State.planeAnswer_keeps h ..) ..
  · exact h.quiet (State.answerSpit_quiet (Quiet.refl s) _)
  · exact State.answerEvent_keeps h _
  · exact State.answerRetirement_keeps h _
  · exact State.answer_keeps h ..

theorem State.setReads_keeps {z s : State} (h : Keeps z s) (w : List FetchBeat) (v : List FetchReq) :
    Keeps z { s with link := { s.link with waiting := w, stalled := v } } := h.trans { Keeps.refl s with }

theorem State.arrive_keeps {z s : State} (h : Keeps z s) : Keeps z s.arrive := by
  unfold State.arrive
  split
  · refine h.trans { Keeps.refl s with linkUp := fun u _ => ⟨u, ?_, rfl⟩ }
    exact (by decide : (0 : Nat) ≠ silenceLimit)
  · rename_i g
    refine Keeps.quiet (s := { s with link := { s.link with silence := 0, state := .up, lostMs := 0 } }) ?_ (Quiet.refl _).post.stirWalk
    exact h.trans { Keeps.refl s with linkUp := fun u _ => absurd (u.symm.trans g) (by decide) }

theorem State.queueFetch_keeps {z s : State} (h : Keeps z s) (bs : List FetchBeat) : Keeps z (s.queueFetch bs) := State.setReads_keeps h _ _

theorem State.acceptFetch_keeps {z s : State} (h : Keeps z s) (r : FetchReq) : Keeps z (s.acceptFetch r) := by
  unfold State.acceptFetch
  extract_lets t
  have ht : Keeps z t := State.forward_keeps h _
  split
  · exact ht
  · split
    · split
      · exact State.considerFetch_keeps ht _
      · exact (State.considerFetch_keeps (State.queueFetch_keeps ht _) _).quiet (Quiet.refl _).wake
    · exact State.queueFetch_keeps ht _

theorem State.acceptStalled_keeps {z s : State} (h : Keeps z s) (r : FetchReq) (rs : List FetchReq) : Keeps z (s.acceptStalled r rs) := by
  unfold State.acceptStalled
  split
  · exact (State.acceptFetch_keeps (State.arrive_keeps (State.setReads_keeps h _ _)) _).quiet (Quiet.refl _).wake
  · exact (State.arrive_keeps h).quiet (Quiet.refl _).wake

theorem State.drain_keeps {z s : State} (h : Keeps z s) : Keeps z s.drain := by
  unfold State.drain
  split
  · exact (State.considerFetch_keeps (State.setReads_keeps h _ _) _).quiet (Quiet.refl _).wake
  · split
    · exact State.acceptStalled_keeps h ..
    · exact h
  · exact h

/-- With no read behind the held one there is nothing to take. -/
theorem State.drain_none {s : State} (h : s.link.waiting = []) (g : s.link.stalled = []) : s.drain = s := by
  unfold State.drain
  split <;> simp_all

/-! ### The link -/

theorem State.enterLost_quiet {z s : State} (h : Quiet z s) (e : s.link.silence = silenceLimit) : Quiet z s.enterLost := by
  unfold State.enterLost
  extract_lets p a l f b
  have ha : Quiet z a := h.post
  have hb : Quiet z b := ha.trans { Quiet.refl a with
    linkUp := fun _ g => absurd e g
    lost := fun _ => rfl
    paused := fun _ => rfl }
  exact (State.serviceLost_quiet (State.inkLost_quiet hb)).wake.stir

theorem State.linkTest_quiet {z s : State} (h : Quiet z s) : Quiet z s.linkTest := by
  unfold State.linkTest
  split
  · rename_i g
    simp only [Bool.and_eq_true, decide_eq_true_eq] at g
    exact State.enterLost_quiet h g.1.2
  · exact h

/-! ### Reactions -/

theorem State.refillTests_quiet {z s : State} (h : Quiet z s) : Quiet z s.refillTests :=
  h.foldl fun _ _ ht => State.refillTest_quiet ht _

theorem State.inkReport_quiet {z s : State} (h : Quiet z s) (cs : ChanSet) (front : Bool) : Quiet z (s.inkReport cs front) := by
  unfold State.inkReport
  have ht := State.inkRetry_quiet (State.inkWalk_quiet h cs) cs
  split
  · exact State.evalFront_quiet ht
  · exact ht

theorem State.react_keeps {z s : State} (h : Keeps z s) (r : Reaction) : Keeps z (s.react r) := by
  have q := Quiet.refl s
  cases r with
  | drain => exact State.drain_keeps h
  | directives => exact h.quiet (State.runDirectives_quiet _ q)
  | evalFront => exact h.quiet (State.evalFront_quiet q)
  | inkReport cs f => exact h.quiet (State.inkReport_quiet q cs f)
  | quiet => exact h.quiet (State.quietTest_quiet q)
  | refill => exact h.quiet (State.refillTests_quiet q)
  | idle => exact h.quiet (State.idleTest_quiet q)
  | serviceStep => exact h.quiet (State.serviceStep_quiet q)
  | walk => exact h.quiet (State.walk_quiet q)
  | boundary => exact h.quiet (State.boundaryWalk_quiet q)
  | sheets => exact h.quiet (State.sheetsTest_quiet q)
  | sheetStart => exact h.quiet (State.sheetStartTest_quiet q)
  | mediaOps => exact h.quiet (State.mediaTest_quiet q)
  | starve => exact h.quiet (State.starveTest_quiet q)
  | uncap => exact h.quiet (State.uncapTest_quiet q)
  | heldRead => exact h.quiet (State.heldReadTest_quiet q)
  | linkCheck => exact h.quiet (State.linkTest_quiet q)

theorem State.react_quiet {z s : State} (h : Quiet z s) (hw : z.link.waiting = []) (hs : z.link.stalled = []) (r : Reaction) :
    Quiet z (s.react r) := by
  cases r with
  | drain =>
    change Quiet z s.drain
    rw [State.drain_none (h.waiting.trans hw) (h.stalled.trans hs)]
    exact h
  | directives => exact State.runDirectives_quiet _ h
  | evalFront => exact State.evalFront_quiet h
  | inkReport cs f => exact State.inkReport_quiet h cs f
  | quiet => exact State.quietTest_quiet h
  | refill => exact State.refillTests_quiet h
  | idle => exact State.idleTest_quiet h
  | serviceStep => exact State.serviceStep_quiet h
  | walk => exact State.walk_quiet h
  | boundary => exact State.boundaryWalk_quiet h
  | sheets => exact State.sheetsTest_quiet h
  | sheetStart => exact State.sheetStartTest_quiet h
  | mediaOps => exact State.mediaTest_quiet h
  | starve => exact State.starveTest_quiet h
  | uncap => exact State.uncapTest_quiet h
  | heldRead => exact State.heldReadTest_quiet h
  | linkCheck => exact State.linkTest_quiet h

/-- What every reaction to a command leaves as it is. -/
theorem settle_keeps {z s : State} (n : Nat) (h : Keeps z s) : Keeps z (settle n s) := by
  induction n generalizing s with
  | zero => exact h
  | succ n ih =>
    unfold settle
    split
    · exact h
    · exact ih (State.react_keeps (h.quiet (Quiet.refl s).setAgenda) _)

/-- What every reaction to a command leaves as it is while no read waits. -/
theorem settle_quiet {z s : State} (n : Nat) (h : Quiet z s) (hw : z.link.waiting = []) (hs : z.link.stalled = []) : Quiet z (settle n s) := by
  induction n generalizing s with
  | zero => exact h
  | succ n ih =>
    unfold settle
    split
    · exact h
    · exact ih (State.react_quiet h.setAgenda hw hs _)

/-- A request's arrival, and what follows from its ending LOST, keep what every reaction keeps (R13, R15). -/
theorem State.arrived_keeps {z s : State} (h : Keeps z s) : Keeps z s.arrived := by
  unfold State.arrived
  split
  · exact State.arrive_keeps h
  · exact settle_keeps _ (State.arrive_keeps h)

/-- With nothing scheduled nothing follows. -/
theorem settle_none {s : State} (n : Nat) (h : s.agenda = []) : settle n s = s := by
  cases n with
  | zero => rfl
  | succ n => unfold settle; rw [h]

end Sys2Proof.Machine
end

