-- ==== Sys2Proof/Laws/Commands.lean ====
section
/-! SUPPORT. Laws/Commands.lean: how a command is taken: its own effect and then the reactions, the arrival of a request, the taking of a directive,
and the one ink report of an event. -/
namespace Sys2Proof.Machine

/-! ### The effect and the reactions to it -/

/-- A command that leaves no reaction scheduled answers its own effect. -/
theorem State.event_eq {s t : State} {f : State → State} (h : f s.cleared = t) (g : t.agenda = []) : s.event f = t := by
  change settle settleFuel (f s.cleared) = t
  rw [h, settle_none _ g]

/-- The effect of a command as `Effects` says it. -/
theorem Effects.of {c : Instr} {s u : State} {f : State → State} (e : exec c s = .next (s.event f)) (h : { f s.cleared with agenda := u.agenda } = u) :
    Effects c s u := ⟨(f s.cleared).agenda, by rw [e, ← h]; rfl⟩

/-- A command that schedules nothing has its effect and no more. -/
theorem Effects.next {c : Instr} {s u : State} (h : exec c s = .next u) (g : u.agenda = []) : Effects c s u :=
  ⟨[], by rw [h]; exact congrArg _ ((settle_none _ rfl).trans (by rw [← g])).symm⟩

/-! ### Arrivals -/

theorem State.arrive_up {s : State} (h : s.link.state = .up) : s.arrive = { s with link := { s.link with silence := 0 } } := by
  unfold State.arrive; rw [h]

/-- A request that arrives in UP only restarts the silence count (R13, R15). -/
theorem State.arrived_up {s : State} (h : s.link.state = .up) : s.arrived = { s with link := { s.link with silence := 0 } } := by
  unfold State.arrived; rw [h]; exact State.arrive_up h

/-- A request that finds the link LOST ends LOST, with what follows from that, before it is handled (R15). -/
theorem State.arrived_lost {s : State} (h : s.link.state = .lost) : s.arrived = settle settleFuel s.arrive := by
  unfold State.arrived; rw [h]

/-- A write beat that arrives in UP (R2, R13). -/
theorem State.writeArrives_up {s : State} (h : s.link.state = .up) (a : Nat) (w : WriteBeat) :
    s.cleared.arrived.forward (.write a [w]) = s.afterWrite a w := by
  rw [State.arrived_up (show s.cleared.link.state = .up from h)]; rfl

/-- With no beat of its request behind it an answered FETCH beat completes the response: it returns with the beats before it (R3). -/
theorem State.answer_last {s : State} (h : s.moreBeats = false) (a : Nat) (d : List Byte) : s.answer .fetch a d =
    { s with out := { s.out with answers := s.out.answers ++ (s.link.gathered ++ [{ cls := .fetch, addr := a, data := d }]) },
             link := { s.link with gathered := [] } } := by
  simp [State.answer, State.returned, State.keptBack, h]

/-- An answered FETCH beat that others of its request follow is kept back (R3). -/
theorem State.answer_kept {s : State} (h : s.moreBeats = true) (a : Nat) (d : List Byte) : s.answer .fetch a d =
    { s with link := { s.link with gathered := s.link.gathered ++ [{ cls := .fetch, addr := a, data := d }] } } := by
  simp [State.answer, State.returned, State.keptBack, h]

/-- A RASTER or GENERAL beat returns as it is answered (R3, log 5). -/
theorem State.answer_other {s : State} {cls : ReqClass} (h : cls ≠ .fetch) (a : Nat) (d : List Byte) : s.answer cls a d =
    { s with out := { s.out with answers := s.out.answers ++ [{ cls := cls, addr := a, data := d }] } } := by
  cases cls <;> first | rfl | exact absurd rfl h

/-- A read beat of the RASTER or GENERAL class that arrives in UP and is answered (R3, R7). -/
theorem State.readArrives_up {s : State} (h : s.link.state = .up) {cls : ReqClass} (f : cls ≠ .fetch) (a : Nat) (d : List Byte) :
    (s.cleared.arrived.forward (.read a 1 cls)).answer cls a d = s.afterRead cls a d := by
  rw [State.arrived_up (show s.cleared.link.state = .up from h), State.answer_other f]; rfl

/-- A FETCH read beat that arrives in UP with no FETCH read in hand and is answered (R3, R7). -/
theorem State.fetchArrives_up {s : State} (h : s.link.state = .up) (r : NoReads s) (a : Nat) (d : List Byte) :
    (s.cleared.arrived.forward (.read a 1 .fetch)).answer .fetch a d = s.afterRead .fetch a d := by
  rw [State.arrived_up (show s.cleared.link.state = .up from h), State.answer_last (by unfold State.moreBeats; simp [State.forward, State.cleared, r.waiting])]
  simp [State.forward, State.cleared, State.afterRead, r.gathered]

/-! ### Directives (R179, R180) -/

/-- The state in which a directive that is taken in UP runs. -/
def State.atDirective (s : State) (w : WriteBeat) : State :=
  { s.afterWrite (s.spanBase + 0xC0) w with mail := { s.mail with lastTaken := some w.triggerSeq } }

/-- A trigger that is taken runs its directive and is answered (R179, R180). -/
theorem State.trigger_takes {s : State} {w : WriteBeat} (h : s.takesTrigger w) (u : s.link.state = .up) (k : Nat) (run : State → Taken) :
    (s.cleared.triggerArrives w).trigger k w run =
      (run (s.atDirective w)).after.putResult w.triggerSeq k (run (s.atDirective w)).code (run (s.atDirective w)).detail := by
  unfold State.triggerArrives
  rw [show s.cleared.spanBase = s.spanBase from rfl, State.writeArrives_up u]
  unfold State.trigger
  rw [if_neg (by rw [h.1]; decide), if_neg (show ¬ (s.afterWrite _ _).mail.lastTaken = some w.triggerSeq from h.2)]
  rfl

/-- A partial trigger, and a repeat, only arrive (R179). -/
theorem State.trigger_ignored {s : State} {w : WriteBeat} (h : w.isTrigger = false ∨ s.mail.lastTaken = some w.triggerSeq) (u : s.link.state = .up)
    (k : Nat) (run : State → Taken) : (s.cleared.triggerArrives w).trigger k w run = s.afterWrite (s.spanBase + 0xC0) w := by
  unfold State.triggerArrives
  rw [show s.cleared.spanBase = s.spanBase from rfl, State.writeArrives_up u]
  unfold State.trigger
  rcases h with h | h
  · rw [if_pos (by rw [h]; decide)]
  · split
    · rfl
    · rw [if_pos (show (s.afterWrite _ _).mail.lastTaken = some w.triggerSeq from h)]

/-- A directive that answers without an effect of its own (R180). -/
theorem State.directive_answers {s : State} {w : WriteBeat} (h : s.takesTrigger w) (r : Ready s) (k : Nat) (run : State → Taken) (c : ResultCode) (d : Nat)
    (e : run (s.atDirective w) = ⟨c, d, s.atDirective w⟩) :
    s.event (fun s => (s.triggerArrives w).trigger k w run) = s.afterDirective w k c d := by
  refine State.event_eq ?_ r.agenda
  rw [State.trigger_takes h r.up, e]
  rfl

/-! ### What the words of the statements leave -/

@[simp] theorem State.pending_cleared (s : State) : s.cleared.pending = s.pending := rfl
@[simp] theorem State.agenda_cleared (s : State) : s.cleared.agenda = s.agenda := rfl
@[simp] theorem State.time_cleared (s : State) : s.cleared.time = s.time := rfl
@[simp] theorem State.counters_cleared (s : State) : s.cleared.counters = s.counters := rfl
@[simp] theorem State.slots_cleared (s : State) : s.cleared.slots = s.slots := rfl
@[simp] theorem State.parser_cleared (s : State) : s.cleared.parser = s.parser := rfl
@[simp] theorem State.windows_cleared (s : State) : s.cleared.windows = s.windows := rfl
@[simp] theorem State.nextWid_cleared (s : State) : s.cleared.nextWid = s.nextWid := rfl
@[simp] theorem State.flow_cleared (s : State) : s.cleared.flow = s.flow := rfl
@[simp] theorem State.ink_cleared (s : State) : s.cleared.ink = s.ink := rfl
@[simp] theorem State.health_cleared (s : State) : s.cleared.health = s.health := rfl
@[simp] theorem State.svc_cleared (s : State) : s.cleared.svc = s.svc := rfl
@[simp] theorem State.media_cleared (s : State) : s.cleared.media = s.media := rfl
@[simp] theorem State.prof_cleared (s : State) : s.cleared.prof = s.prof := rfl
@[simp] theorem State.events_cleared (s : State) : s.cleared.events = s.events := rfl
@[simp] theorem State.link_cleared (s : State) : s.cleared.link = s.link := rfl
@[simp] theorem State.mail_cleared (s : State) : s.cleared.mail = s.mail := rfl
@[simp] theorem State.pending_afterWrite (s : State) (a : Nat) (w : WriteBeat) : (s.afterWrite a w).pending = s.pending := rfl
@[simp] theorem State.pending_afterRead (s : State) (c : ReqClass) (a : Nat) (d : List Byte) : (s.afterRead c a d).pending = s.pending := rfl
@[simp] theorem State.agenda_afterWrite (s : State) (a : Nat) (w : WriteBeat) : (s.afterWrite a w).agenda = s.agenda := rfl
@[simp] theorem State.agenda_afterRead (s : State) (c : ReqClass) (a : Nat) (d : List Byte) : (s.afterRead c a d).agenda = s.agenda := rfl
@[simp] theorem State.time_afterWrite (s : State) (a : Nat) (w : WriteBeat) : (s.afterWrite a w).time = s.time := rfl
@[simp] theorem State.time_afterRead (s : State) (c : ReqClass) (a : Nat) (d : List Byte) : (s.afterRead c a d).time = s.time := rfl
@[simp] theorem State.counters_afterWrite (s : State) (a : Nat) (w : WriteBeat) : (s.afterWrite a w).counters = s.counters := rfl
@[simp] theorem State.counters_afterRead (s : State) (c : ReqClass) (a : Nat) (d : List Byte) : (s.afterRead c a d).counters = s.counters := rfl
@[simp] theorem State.slots_afterWrite (s : State) (a : Nat) (w : WriteBeat) : (s.afterWrite a w).slots = s.slots := rfl
@[simp] theorem State.slots_afterRead (s : State) (c : ReqClass) (a : Nat) (d : List Byte) : (s.afterRead c a d).slots = s.slots := rfl
@[simp] theorem State.parser_afterWrite (s : State) (a : Nat) (w : WriteBeat) : (s.afterWrite a w).parser = s.parser := rfl
@[simp] theorem State.parser_afterRead (s : State) (c : ReqClass) (a : Nat) (d : List Byte) : (s.afterRead c a d).parser = s.parser := rfl
@[simp] theorem State.windows_afterWrite (s : State) (a : Nat) (w : WriteBeat) : (s.afterWrite a w).windows = s.windows := rfl
@[simp] theorem State.windows_afterRead (s : State) (c : ReqClass) (a : Nat) (d : List Byte) : (s.afterRead c a d).windows = s.windows := rfl
@[simp] theorem State.nextWid_afterWrite (s : State) (a : Nat) (w : WriteBeat) : (s.afterWrite a w).nextWid = s.nextWid := rfl
@[simp] theorem State.nextWid_afterRead (s : State) (c : ReqClass) (a : Nat) (d : List Byte) : (s.afterRead c a d).nextWid = s.nextWid := rfl
@[simp] theorem State.flow_afterWrite (s : State) (a : Nat) (w : WriteBeat) : (s.afterWrite a w).flow = s.flow := rfl
@[simp] theorem State.flow_afterRead (s : State) (c : ReqClass) (a : Nat) (d : List Byte) : (s.afterRead c a d).flow = s.flow := rfl
@[simp] theorem State.ink_afterWrite (s : State) (a : Nat) (w : WriteBeat) : (s.afterWrite a w).ink = s.ink := rfl
@[simp] theorem State.ink_afterRead (s : State) (c : ReqClass) (a : Nat) (d : List Byte) : (s.afterRead c a d).ink = s.ink := rfl
@[simp] theorem State.health_afterWrite (s : State) (a : Nat) (w : WriteBeat) : (s.afterWrite a w).health = s.health := rfl
@[simp] theorem State.health_afterRead (s : State) (c : ReqClass) (a : Nat) (d : List Byte) : (s.afterRead c a d).health = s.health := rfl
@[simp] theorem State.svc_afterWrite (s : State) (a : Nat) (w : WriteBeat) : (s.afterWrite a w).svc = s.svc := rfl
@[simp] theorem State.svc_afterRead (s : State) (c : ReqClass) (a : Nat) (d : List Byte) : (s.afterRead c a d).svc = s.svc := rfl
@[simp] theorem State.media_afterWrite (s : State) (a : Nat) (w : WriteBeat) : (s.afterWrite a w).media = s.media := rfl
@[simp] theorem State.media_afterRead (s : State) (c : ReqClass) (a : Nat) (d : List Byte) : (s.afterRead c a d).media = s.media := rfl
@[simp] theorem State.prof_afterWrite (s : State) (a : Nat) (w : WriteBeat) : (s.afterWrite a w).prof = s.prof := rfl
@[simp] theorem State.prof_afterRead (s : State) (c : ReqClass) (a : Nat) (d : List Byte) : (s.afterRead c a d).prof = s.prof := rfl
@[simp] theorem State.events_afterWrite (s : State) (a : Nat) (w : WriteBeat) : (s.afterWrite a w).events = s.events := rfl
@[simp] theorem State.events_afterRead (s : State) (c : ReqClass) (a : Nat) (d : List Byte) : (s.afterRead c a d).events = s.events := rfl
@[simp] theorem State.mail_afterWrite (s : State) (a : Nat) (w : WriteBeat) : (s.afterWrite a w).mail = s.mail := rfl
@[simp] theorem State.mail_afterRead (s : State) (c : ReqClass) (a : Nat) (d : List Byte) : (s.afterRead c a d).mail = s.mail := rfl
@[simp] theorem State.pending_afterDirective (s : State) (w : WriteBeat) (k : Nat) (r : ResultCode) (d : Nat) : (s.afterDirective w k r d).pending = s.pending := rfl
@[simp] theorem State.pending_atDirective (s : State) (w : WriteBeat) : (s.atDirective w).pending = s.pending := rfl
@[simp] theorem State.agenda_afterDirective (s : State) (w : WriteBeat) (k : Nat) (r : ResultCode) (d : Nat) : (s.afterDirective w k r d).agenda = s.agenda := rfl
@[simp] theorem State.agenda_atDirective (s : State) (w : WriteBeat) : (s.atDirective w).agenda = s.agenda := rfl
@[simp] theorem State.time_afterDirective (s : State) (w : WriteBeat) (k : Nat) (r : ResultCode) (d : Nat) : (s.afterDirective w k r d).time = s.time := rfl
@[simp] theorem State.time_atDirective (s : State) (w : WriteBeat) : (s.atDirective w).time = s.time := rfl
@[simp] theorem State.counters_afterDirective (s : State) (w : WriteBeat) (k : Nat) (r : ResultCode) (d : Nat) : (s.afterDirective w k r d).counters = s.counters := rfl
@[simp] theorem State.counters_atDirective (s : State) (w : WriteBeat) : (s.atDirective w).counters = s.counters := rfl
@[simp] theorem State.slots_afterDirective (s : State) (w : WriteBeat) (k : Nat) (r : ResultCode) (d : Nat) : (s.afterDirective w k r d).slots = s.slots := rfl
@[simp] theorem State.slots_atDirective (s : State) (w : WriteBeat) : (s.atDirective w).slots = s.slots := rfl
@[simp] theorem State.parser_afterDirective (s : State) (w : WriteBeat) (k : Nat) (r : ResultCode) (d : Nat) : (s.afterDirective w k r d).parser = s.parser := rfl
@[simp] theorem State.parser_atDirective (s : State) (w : WriteBeat) : (s.atDirective w).parser = s.parser := rfl
@[simp] theorem State.windows_afterDirective (s : State) (w : WriteBeat) (k : Nat) (r : ResultCode) (d : Nat) : (s.afterDirective w k r d).windows = s.windows := rfl
@[simp] theorem State.windows_atDirective (s : State) (w : WriteBeat) : (s.atDirective w).windows = s.windows := rfl
@[simp] theorem State.nextWid_afterDirective (s : State) (w : WriteBeat) (k : Nat) (r : ResultCode) (d : Nat) : (s.afterDirective w k r d).nextWid = s.nextWid := rfl
@[simp] theorem State.nextWid_atDirective (s : State) (w : WriteBeat) : (s.atDirective w).nextWid = s.nextWid := rfl
@[simp] theorem State.flow_afterDirective (s : State) (w : WriteBeat) (k : Nat) (r : ResultCode) (d : Nat) : (s.afterDirective w k r d).flow = s.flow := rfl
@[simp] theorem State.flow_atDirective (s : State) (w : WriteBeat) : (s.atDirective w).flow = s.flow := rfl
@[simp] theorem State.ink_afterDirective (s : State) (w : WriteBeat) (k : Nat) (r : ResultCode) (d : Nat) : (s.afterDirective w k r d).ink = s.ink := rfl
@[simp] theorem State.ink_atDirective (s : State) (w : WriteBeat) : (s.atDirective w).ink = s.ink := rfl
@[simp] theorem State.health_afterDirective (s : State) (w : WriteBeat) (k : Nat) (r : ResultCode) (d : Nat) : (s.afterDirective w k r d).health = s.health := rfl
@[simp] theorem State.health_atDirective (s : State) (w : WriteBeat) : (s.atDirective w).health = s.health := rfl
@[simp] theorem State.svc_afterDirective (s : State) (w : WriteBeat) (k : Nat) (r : ResultCode) (d : Nat) : (s.afterDirective w k r d).svc = s.svc := rfl
@[simp] theorem State.svc_atDirective (s : State) (w : WriteBeat) : (s.atDirective w).svc = s.svc := rfl
@[simp] theorem State.media_afterDirective (s : State) (w : WriteBeat) (k : Nat) (r : ResultCode) (d : Nat) : (s.afterDirective w k r d).media = s.media := rfl
@[simp] theorem State.media_atDirective (s : State) (w : WriteBeat) : (s.atDirective w).media = s.media := rfl
@[simp] theorem State.prof_afterDirective (s : State) (w : WriteBeat) (k : Nat) (r : ResultCode) (d : Nat) : (s.afterDirective w k r d).prof = s.prof := rfl
@[simp] theorem State.prof_atDirective (s : State) (w : WriteBeat) : (s.atDirective w).prof = s.prof := rfl
@[simp] theorem State.events_afterDirective (s : State) (w : WriteBeat) (k : Nat) (r : ResultCode) (d : Nat) : (s.afterDirective w k r d).events = s.events := rfl
@[simp] theorem State.events_atDirective (s : State) (w : WriteBeat) : (s.atDirective w).events = s.events := rfl
@[simp] theorem State.body_atDirective (s : State) (w : WriteBeat) : (s.atDirective w).mail.body = s.mail.body := rfl
@[simp] theorem State.slot_cleared (s : State) (i : SlotIx) : (s.cleared).slot i = s.slot i := rfl
@[simp] theorem State.line_cleared (s : State) (i : LineId) : (s.cleared).line i = s.line i := rfl
@[simp] theorem State.chanProf_cleared (s : State) (i : Chan) : (s.cleared).chanProf i = s.chanProf i := rfl
@[simp] theorem State.mediaProf_cleared (s : State) (i : Roll) : (s.cleared).mediaProf i = s.mediaProf i := by cases i <;> rfl
@[simp] theorem State.roll_cleared (s : State) (i : Roll) : (s.cleared).roll i = s.roll i := by cases i <;> rfl
@[simp] theorem State.sheetQ_cleared (s : State) (i : Nat) : (s.cleared).sheet? i = s.sheet? i := rfl
@[simp] theorem State.spanBase_cleared (s : State) : (s.cleared).spanBase = s.spanBase := rfl
@[simp] theorem State.slot_afterWrite (s : State) (a : Nat) (w : WriteBeat) (i : SlotIx) : (s.afterWrite a w).slot i = s.slot i := rfl
@[simp] theorem State.line_afterWrite (s : State) (a : Nat) (w : WriteBeat) (i : LineId) : (s.afterWrite a w).line i = s.line i := rfl
@[simp] theorem State.chanProf_afterWrite (s : State) (a : Nat) (w : WriteBeat) (i : Chan) : (s.afterWrite a w).chanProf i = s.chanProf i := rfl
@[simp] theorem State.mediaProf_afterWrite (s : State) (a : Nat) (w : WriteBeat) (i : Roll) : (s.afterWrite a w).mediaProf i = s.mediaProf i := by cases i <;> rfl
@[simp] theorem State.roll_afterWrite (s : State) (a : Nat) (w : WriteBeat) (i : Roll) : (s.afterWrite a w).roll i = s.roll i := by cases i <;> rfl
@[simp] theorem State.sheetQ_afterWrite (s : State) (a : Nat) (w : WriteBeat) (i : Nat) : (s.afterWrite a w).sheet? i = s.sheet? i := rfl
@[simp] theorem State.spanBase_afterWrite (s : State) (a : Nat) (w : WriteBeat) : (s.afterWrite a w).spanBase = s.spanBase := rfl
@[simp] theorem State.slot_afterRead (s : State) (c : ReqClass) (a : Nat) (d : List Byte) (i : SlotIx) : (s.afterRead c a d).slot i = s.slot i := rfl
@[simp] theorem State.line_afterRead (s : State) (c : ReqClass) (a : Nat) (d : List Byte) (i : LineId) : (s.afterRead c a d).line i = s.line i := rfl
@[simp] theorem State.chanProf_afterRead (s : State) (c : ReqClass) (a : Nat) (d : List Byte) (i : Chan) : (s.afterRead c a d).chanProf i = s.chanProf i := rfl
@[simp] theorem State.mediaProf_afterRead (s : State) (c : ReqClass) (a : Nat) (d : List Byte) (i : Roll) : (s.afterRead c a d).mediaProf i = s.mediaProf i := by cases i <;> rfl
@[simp] theorem State.roll_afterRead (s : State) (c : ReqClass) (a : Nat) (d : List Byte) (i : Roll) : (s.afterRead c a d).roll i = s.roll i := by cases i <;> rfl
@[simp] theorem State.sheetQ_afterRead (s : State) (c : ReqClass) (a : Nat) (d : List Byte) (i : Nat) : (s.afterRead c a d).sheet? i = s.sheet? i := rfl
@[simp] theorem State.spanBase_afterRead (s : State) (c : ReqClass) (a : Nat) (d : List Byte) : (s.afterRead c a d).spanBase = s.spanBase := rfl
@[simp] theorem State.slot_afterDirective (s : State) (w : WriteBeat) (k : Nat) (r : ResultCode) (d : Nat) (i : SlotIx) : (s.afterDirective w k r d).slot i = s.slot i := rfl
@[simp] theorem State.line_afterDirective (s : State) (w : WriteBeat) (k : Nat) (r : ResultCode) (d : Nat) (i : LineId) : (s.afterDirective w k r d).line i = s.line i := rfl
@[simp] theorem State.chanProf_afterDirective (s : State) (w : WriteBeat) (k : Nat) (r : ResultCode) (d : Nat) (i : Chan) : (s.afterDirective w k r d).chanProf i = s.chanProf i := rfl
@[simp] theorem State.mediaProf_afterDirective (s : State) (w : WriteBeat) (k : Nat) (r : ResultCode) (d : Nat) (i : Roll) : (s.afterDirective w k r d).mediaProf i = s.mediaProf i := by cases i <;> rfl
@[simp] theorem State.roll_afterDirective (s : State) (w : WriteBeat) (k : Nat) (r : ResultCode) (d : Nat) (i : Roll) : (s.afterDirective w k r d).roll i = s.roll i := by cases i <;> rfl
@[simp] theorem State.sheetQ_afterDirective (s : State) (w : WriteBeat) (k : Nat) (r : ResultCode) (d : Nat) (i : Nat) : (s.afterDirective w k r d).sheet? i = s.sheet? i := rfl
@[simp] theorem State.spanBase_afterDirective (s : State) (w : WriteBeat) (k : Nat) (r : ResultCode) (d : Nat) : (s.afterDirective w k r d).spanBase = s.spanBase := rfl
@[simp] theorem State.slot_atDirective (s : State) (w : WriteBeat) (i : SlotIx) : (s.atDirective w).slot i = s.slot i := rfl
@[simp] theorem State.line_atDirective (s : State) (w : WriteBeat) (i : LineId) : (s.atDirective w).line i = s.line i := rfl
@[simp] theorem State.chanProf_atDirective (s : State) (w : WriteBeat) (i : Chan) : (s.atDirective w).chanProf i = s.chanProf i := rfl
@[simp] theorem State.mediaProf_atDirective (s : State) (w : WriteBeat) (i : Roll) : (s.atDirective w).mediaProf i = s.mediaProf i := by cases i <;> rfl
@[simp] theorem State.roll_atDirective (s : State) (w : WriteBeat) (i : Roll) : (s.atDirective w).roll i = s.roll i := by cases i <;> rfl
@[simp] theorem State.sheetQ_atDirective (s : State) (w : WriteBeat) (i : Nat) : (s.atDirective w).sheet? i = s.sheet? i := rfl
@[simp] theorem State.spanBase_atDirective (s : State) (w : WriteBeat) : (s.atDirective w).spanBase = s.spanBase := rfl

/-! ### One event, one ink report (R89) -/

/-- Joining a report to others changes no reaction's being a report. -/
@[simp] theorem Reaction.reportsInk_joinReport (cs : ChanSet) (f : Bool) (r : Reaction) : (r.joinReport cs f).reportsInk = r.reportsInk := by
  cases r <;> rfl

/-- A reaction that one event adds leaves at most one ink report where at most one stood (R89). -/
theorem joinReaction_reports {a : List Reaction} (r : Reaction) (h : a.countP Reaction.reportsInk ≤ 1) :
    (joinReaction a r).countP Reaction.reportsInk ≤ 1 := by
  cases r
  case inkReport cs f =>
    unfold joinReaction
    dsimp only
    split
    · rw [List.countP_map]
      simpa only [Function.comp_def, Reaction.reportsInk_joinReport] using h
    · next g =>
      have : a.countP Reaction.reportsInk = 0 := by
        rw [List.countP_eq_zero]; simpa using g
      simp [List.countP_append, this, Reaction.reportsInk]
  all_goals
    unfold joinReaction
    dsimp only
    split
    · exact h
    · rw [List.countP_append]; exact h

/-- The reactions of one event, joined, hold at most one ink report. -/
theorem foldl_joinReaction_reports (l : List Reaction) {a : List Reaction} (h : a.countP Reaction.reportsInk ≤ 1) :
    (l.foldl joinReaction a).countP Reaction.reportsInk ≤ 1 := by
  induction l generalizing a with
  | nil => exact h
  | cons r l ih => exact ih (joinReaction_reports r h)

/-- A reaction added to an agenda adds at most itself to the ink reports. -/
theorem addReaction_reports (a : List Reaction) (r : Reaction) :
    (addReaction a r).countP Reaction.reportsInk ≤ a.countP Reaction.reportsInk + [r].countP Reaction.reportsInk := by
  unfold addReaction
  split
  · conv => rhs; rw [← List.takeWhile_append_dropWhile (p := fun x : Reaction => !x.evaluatesFront) (l := a)]
    simp only [List.countP_append, List.countP_cons, List.countP_nil]
    omega
  · split
    · exact Nat.le_of_eq List.countP_append
    · exact Nat.le_add_right _ _

/-- An ink report stands before every evaluation of the front that the agenda held (R89). -/
theorem addReaction_report {r : Reaction} (a : List Reaction) (h : r.reportsInk = true) :
    ∃ b c, addReaction a r = b ++ r :: c ∧ a = b ++ c ∧ ∀ x ∈ b, x.evaluatesFront = false := by
  refine ⟨_, _, if_pos h, (List.takeWhile_append_dropWhile (p := fun x : Reaction => !x.evaluatesFront)).symm, fun x hx => ?_⟩
  have := List.all_eq_true.1 (List.all_takeWhile (p := fun x : Reaction => !x.evaluatesFront) (l := a)) x hx
  simpa using this

/-- Reactions added to an agenda add at most their own ink reports. -/
theorem foldl_addReaction_reports (l a : List Reaction) :
    (l.foldl addReaction a).countP Reaction.reportsInk ≤ a.countP Reaction.reportsInk + l.countP Reaction.reportsInk := by
  induction l generalizing a with
  | nil => exact Nat.le_refl _
  | cons r l ih =>
    have h := addReaction_reports a r
    have := ih (addReaction a r)
    rw [List.countP_cons (l := l)]
    simp only [List.countP_cons, List.countP_nil, Nat.zero_add] at h
    exact Nat.le_trans this (by omega)

/-- What one event changes together adds at most one ink report to the agenda (R89). -/
theorem State.together_reports (s : State) (f : State → State) :
    (s.together f).agenda.countP Reaction.reportsInk ≤ s.agenda.countP Reaction.reportsInk + 1 :=
  Nat.le_trans (foldl_addReaction_reports _ _) (Nat.add_le_add_left (foldl_joinReaction_reports _ (Nat.zero_le _)) _)

end Sys2Proof.Machine
end

