-- ==== Sys2Proof/WellFormed.lean ====
section
/-! DEFINITION. WellFormed.lean: the operands a command of each row can have. A well-formed command is one the link or
the mechanisms can bring under the row's own name; exec gives every command a meaning, well-formed or not. -/
namespace Sys2Proof

/-- A beat carries 64 bytes and 64 byte enables (section 1.1). -/
def WriteBeat.wf (w : WriteBeat) : Bool := w.data.length == 64 && w.enable.length == 64

/-- An address is aligned to a beat (section 1.1). -/
def beatAligned (a : Addr) : Bool := a.toNat % 64 == 0

/-- A whole trigger whose kind is `k` (R179). -/
def WriteBeat.wfTrigger (w : WriteBeat) (k : Nat) : Bool := w.wf && w.isTrigger && w.byte 0 == k

/-- The operand checks of every row. -/
def WellFormed : Instr → Bool
  | .powerOnReset _ => true
  | .stationInitialCapState _ => true
  | .linkReset => true
  | .linkLost => true
  | .malformedRequest _ a n _ d _ => (!beatAligned a || n == 0 || decide (16 < n)) && d.all WriteBeat.wf
  | .plainWrite a ws => beatAligned a && ws.length != 0 && decide (ws.length ≤ 16) && ws.all WriteBeat.wf
  | .headerWrite _ _ w => w.wf
  | .openWord _ w => w.wf && w.hasOpen
  | .commitWord _ w => w.wf && w.hasCommit && !w.hasOpen
  | .partialCommit _ w => w.wf && w.touchesWord1 && !w.hasCommit && !w.hasOpen
  | .planeWrite a w => beatAligned a && w.wf
  | .goWordRead _ _ m => m.length == 64
  | .goWordHoldExpiry => true
  | .planeFetchRead _ a ms => beatAligned a && ms.length != 0 && decide (ms.length ≤ 16) && ms.all fun m => m.length == 64
  | .spitFetchRead _ m => m.length == 64
  | .mailboxBodyWrite _ w => w.wf
  | .directiveUnknownKind w => w.wf && w.isTrigger && (w.byte 0 == 0 || decide (15 < w.byte 0))
  | .pause w => w.wfTrigger 1
  | .resume w => w.wfTrigger 2
  | .cancelSheet w => w.wfTrigger 3
  | .cancelAll w => w.wfTrigger 4
  | .cartridgeInstalled w => w.wfTrigger 5
  | .calibratePump w => w.wfTrigger 6
  | .rollLoaded w => w.wfTrigger 7
  | .rollUnload w => w.wfTrigger 8
  | .mediaReset w => w.wfTrigger 9
  | .serviceNow w => w.wfTrigger 10
  | .serviceReset w => w.wfTrigger 11
  | .headReplaced w => w.wfTrigger 12
  | .releaseSlot w => w.wfTrigger 13
  | .setMasks w => w.wfTrigger 14
  | .countersClear w => w.wfTrigger 15
  | .starved => true
  | .strokeComplete _ => true
  | .lowFloatAssert _ _ => true
  | .lowFloatDeassert _ _ => true
  | .fullFloatAssert _ _ => true
  | .fullFloatDeassert _ _ => true
  | .presenceActive _ _ => true
  | .presenceInactive _ _ => true
  | .callTimeout => true
  | .carriageArrives _ => true
  | .stationLost _ => true
  | .cappedLineActive _ _ => true
  | .openLineActive _ _ => true
  | .capFault => true
  | .wiperHomeActive _ _ => true
  | .wiperFault => true
  | .suctionEnd => true
  | .decapExpiry _ => true
  | .idleTimerExpiry => true
  | .feedEncoderPulse => true
  | .feedStall => true
  | .cutterHomeActive _ _ => true
  | .cutterFault => true
  | .rollPresentActive _ _ => true
  | .rollPresentInactive _ _ => true
  | .rollEndLineActive _ _ _ => true
  | .feedPathClearActive _ _ => true
  | .platenMediaActive _ => true
  | .platenMediaInactive _ => true
  | .eventBeatRead _ m => m.length == 64
  | .retirementBeatRead _ m => m.length == 64

end Sys2Proof
end

