-- ==== Sys2Proof/Tests/Slice0.lean ====
section
/-! SUPPORT. Tests/Slice0.lean: the operand checks refuse what is ill-formed; small behaviour tests; a witness for the hypotheses of every statement. -/
open Sys2Proof Sys2Proof.Machine

namespace Sys2Proof.Tests

-- A kernel evaluation waits for every declaration before it; one after another, so that few threads wait at once.
set_option Elab.async false

/-! ### Helpers -/

/-- A write beat with the fields given (offset, length, value) and only their bytes enabled. -/
def beat (fs : List (Nat × Nat × Nat)) : WriteBeat :=
  { data := buildBeat fs, enable := (List.range 64).map fun k => fs.any fun f => decide (f.1 ≤ k) && decide (k < f.1 + f.2.1) }

/-- A record of 192 bytes whose first beat holds the fields given. -/
def record (fs : List (Nat × Nat × Nat)) : List Byte := buildBeat fs ++ List.replicate 128 0

/-- A trigger of a kind with a sequence. -/
def trig (k q : Nat) : WriteBeat := beat [(0, 1, k), (2, 2, q)]

/-- A commit word with a sequence, and an open word. -/
def commitBeat (q : Nat) : WriteBeat := beat [(8, 2, q)]

/-- An open word. -/
def openBeat : WriteBeat := beat [(0, 8, 1)]

/-- A SWATH header: flags, columns, sheet number, presence mask, advance, cyan plane base (none where 0). -/
def header (flags cols sheet mask adv base : Nat) : List Byte :=
  record ([(0, 1, 1), (1, 1, flags), (2, 2, cols), (4, 2, sheet), (6, 2, mask), (8, 4, adv), (18, 2, 10)] ++
    (if base = 0 then [] else [(24 + 16, 5, base), (24 + 21, 1, 1)]))

/-- A state with a mailbox body. -/
def withBody (fs : List (Nat × Nat × Nat)) (s : State) : State := { s with mail := { s.mail with body := record fs } }

/-- The machine after reset with slot 3 changed. -/
def slot3 (f : Slot → Slot) : State := State.reset.modSlot 3 f

/-- The state that a command leaves. -/
def after (c : Instr) (s : State) : State :=
  match exec c s with
  | .next t => t
  | _ => s

/-- A sheet record in a state. -/
def sheetIn (st : SheetState) : Sheet :=
  { newSheet (header 1 1 7 0 0 0) 0 0 with st := st, roll := some .a }

/-- The machine after reset with one sheet in the table. -/
def withSheet (t : Sheet) (s : State) : State := s.modMedia fun m => { m with table := [t], nextSid := 1 }

/-! ### Operand checks -/

/-- Each operand check refuses a term that fails it alone. -/
theorem test_wellformed_refuses :
    WellFormed (.plainWrite 1 [beat []]) = false ∧
    WellFormed (.plainWrite 0x10000 []) = false ∧
    WellFormed (.plainWrite 0x10000 (List.replicate 17 (beat []))) = false ∧
    WellFormed (.plainWrite 0x10000 [beat [], { beat [] with data := [] }]) = false ∧
    WellFormed (.malformedRequest .read 0 16 .general [] []) = false ∧
    WellFormed (.malformedRequest .write 0 17 .general [{ data := [], enable := [] }] []) = false ∧
    WellFormed (.headerWrite 0 0 { beat [] with enable := [] }) = false ∧
    WellFormed (.openWord 0 (commitBeat 1)) = false ∧
    WellFormed (.commitWord 0 openBeat) = false ∧
    WellFormed (.commitWord 0 (beat [(0, 1, 1), (8, 2, 1)])) = false ∧
    WellFormed (.partialCommit 0 (commitBeat 1)) = false ∧
    WellFormed (.partialCommit 0 (beat [])) = false ∧
    WellFormed (.partialCommit 0 (beat [(0, 1, 1), (8, 1, 1)])) = false ∧
    WellFormed (.planeWrite 0x10001 (beat [])) = false ∧
    WellFormed (.planeFetchRead .fetch 0x10001 [zeroBeat]) = false ∧
    WellFormed (.planeFetchRead .fetch 0x10000 []) = false ∧
    WellFormed (.planeFetchRead .raster 0x10000 (List.replicate 17 zeroBeat)) = false ∧
    WellFormed (.planeFetchRead .general 0x10000 [zeroBeat, []]) = false ∧
    WellFormed (.goWordRead .fetch 0 []) = false ∧
    WellFormed (.spitFetchRead 0 []) = false ∧
    WellFormed (.eventBeatRead .general []) = false ∧
    WellFormed (.retirementBeatRead .general []) = false ∧
    WellFormed (.mailboxBodyWrite 0 { beat [] with data := [] }) = false ∧
    WellFormed (.directiveUnknownKind (trig 15 1)) = false ∧
    WellFormed (.pause (trig 2 1)) = false ∧
    WellFormed (.pause (beat [(0, 1, 1), (2, 1, 1)])) = false := by decide +kernel

/-- The operand checks of the directives refuse a trigger of another kind. -/
theorem test_wellformed_refuses_kinds :
    ∀ c ∈ [Instr.resume (trig 1 1), .cancelSheet (trig 1 1), .cancelAll (trig 1 1), .cartridgeInstalled (trig 1 1), .calibratePump (trig 1 1),
      .rollLoaded (trig 1 1), .rollUnload (trig 1 1), .mediaReset (trig 1 1), .serviceNow (trig 1 1), .serviceReset (trig 1 1),
      .headReplaced (trig 1 1), .releaseSlot (trig 1 1), .setMasks (trig 1 1), .countersClear (trig 1 1)], WellFormed c = false := by
  decide +kernel

/-- Well-formed terms of the rows with operands are taken. -/
theorem test_wellformed_takes :
    ∀ c ∈ [Instr.plainWrite 0x10000 [beat []], .plainWrite 0x10000 (List.replicate 16 (beat [])), .malformedRequest .read 1 1 .general [] zeroBeat,
      .malformedRequest .write 0 17 .general [beat []] [],
      .headerWrite 0 0 (beat []), .openWord 0 openBeat, .commitWord 0 (commitBeat 1), .partialCommit 0 (beat [(8, 1, 1)]),
      .planeWrite 0x10000 (beat []), .planeFetchRead .fetch 0x10000 [zeroBeat], .planeFetchRead .general 0x10000 (List.replicate 16 zeroBeat), .mailboxBodyWrite 0 (beat []),
      .directiveUnknownKind (trig 0 1), .directiveUnknownKind (trig 16 1), .pause (trig 1 1), .countersClear (trig 15 1)],
      WellFormed c = true := by decide +kernel


/-! ### Witnesses: the part, slots, commits -/

/-- The parts of a fixed state that the statements ask to be in order. -/
theorem ready_reset : Ready State.reset := ⟨rfl, rfl⟩

/-- No FETCH read stands at reset. -/
theorem noReads_reset : NoReads State.reset := ⟨rfl, rfl, rfl, rfl⟩

/-- EmptyQueueStepIsOneMillisecond; StrapsAreSampledAtPowerOnOnly at both ends of the span; LinkResetClearsTheFlowOfWork. -/
theorem test_witness_part :
    State.reset.pending = [] ∧ (∀ v, Instr.linkReset ≠ .powerOnReset v) ∧
    (let t := after (.powerOnReset 15) State.reset; t.spanBase ≤ 0xF0000000 ∧ 0xF000FFFF < t.spanBase + 64 * 1024) ∧
    State.reset.events.recs.length < 32 := ⟨rfl, nofun, by decide +kernel, by decide +kernel⟩

/-- RequestsPassAndEndLinkLoss: plain beats at the ends of the plain ranges, and a LOST link with no read and room. -/
theorem test_witness_requests :
    Ready State.reset ∧ (∀ a ∈ [0x5000, 0x7FC0, 0x8500, 0xFFC0, 0x10000], State.reset.classify a = .plain) ∧
    (let s := { State.reset with link := { State.reset.link with state := .lost } };
     s.link.state = .lost ∧ s.link.waiting = [] ∧ s.link.stalled = [] ∧ s.events.recs.length < 32) := by
  refine ⟨ready_reset, ?_, ?_⟩ <;> decide +kernel

/-- SilenceWhileActiveLosesTheLink: a part that only refills, a part that is idle, a LOST link. -/
theorem test_witness_silence :
    (let s := State.reset.modInk .cyan fun k => { k with running := true };
     s.link.state = .up ∧ s.active = true ∧ NoReads s ∧ s.events.recs.length < 32) ∧
    (State.reset.agenda = [] ∧ State.reset.active = false) ∧
    (let s := { State.reset with link := { State.reset.link with state := .lost } }; s.agenda = [] ∧ s.link.state = .lost) :=
  ⟨⟨rfl, by decide +kernel, ⟨rfl, rfl, rfl, rfl⟩, by decide +kernel⟩, ⟨rfl, by decide +kernel⟩, rfl, rfl⟩

/-- OpenChecksInOrder: a header for every row of the table, each at a boundary of its check. -/
theorem test_witness_open_checks :
    let full := { State.reset with slots := Vector.replicate 64 { Slot.reset with st := .opened, kind := some .swath } }
    let w : Window := { wid := 0, base := 0x20000, len := 256, slot := 0, chan := .cyan, mark := 0 }
    let many := { State.reset with windows := List.replicate 60 w }
    let clash := { State.reset with windows := [w] }
    let good := header 0 1 1 0 0 0x20100
    byteAt (record []) 0 ≠ 1 ∧
    (byteAt (header 0 0 1 0 0 0x20100) 0 = 1 ∧ leAt (header 0 0 1 0 0 0x20100) 2 2 = 0) ∧
    (leAt (header 0 1 1 0 0 0) 2 2 ≠ 0 ∧ (geometryOf (header 0 1 1 0 0 0)).present = []) ∧
    (byteAt good 0 = 1 ∧ leAt good 2 2 ≠ 0 ∧ (geometryOf good).present = [(.cyan, 0x20100)]) ∧
    ((geometryOf (header 0 1 1 0 0 0xFFFFFFFFC0)).present = [(.cyan, 0xFFFFFFFFC0)] ∧ ¬ 0xFFFFFFFFC0 + 1 * 256 ≤ 2 ^ 40) ∧
    ((geometryOf (header 0 1 1 0 0 0x20101)).present = [(.cyan, 0x20101)] ∧ 0x20101 % 64 ≠ 0) ∧
    16 ≤ full.countSlots Slot.holdsWindows ∧
    (many.countSlots Slot.holdsWindows < 16 ∧ 60 < many.windows.length + (geometryOf good).present.length) ∧
    (clash.countSlots Slot.holdsWindows < 16 ∧ clash.windows.length + (geometryOf good).present.length ≤ 60 ∧
      ¬ (0x20100 < w.base + w.len ∧ w.base < 0x20100 + 1 * 256) ∧ (0x200C0 < w.base + w.len ∧ w.base < 0x200C0 + 1 * 256)) := by
  decide +kernel

/-- OpenWordTaken: a slot that is not FREE, an open that is refused, one that is taken. -/
theorem test_witness_open :
    openBeat.hasOpen = true ∧ openBeat.touchesWord1 = false ∧
    (Ready (slot3 fun k => { k with st := .posted }) ∧ ((slot3 fun k => { k with st := .posted }).slot 3).st ≠ .free) ∧
    (Ready State.reset ∧ (State.reset.slot 3).st = .free ∧ State.reset.openError (State.reset.slot 3).shadow = some (.kind, 0)) ∧
    (let s := slot3 fun k => { k with shadow := header 0 1 1 0 0 0x20000 };
     Ready s ∧ (s.slot 3).st = .free ∧ s.openError (s.slot 3).shadow = none) :=
  ⟨by decide +kernel, by decide +kernel, ⟨⟨rfl, rfl⟩, by decide +kernel⟩, ⟨ready_reset, by decide +kernel, by decide +kernel⟩,
    ⟨rfl, rfl⟩, by decide +kernel, by decide +kernel⟩

/-- CommitRepeatsAndFaults: a partial commit, a repeat of the last accepted sequence, a FREE slot with a SWATH header, a POSTED slot. -/
theorem test_witness_commit_faults :
    let part := beat [(8, 1, 1)]
    let last := { State.reset with parser := { State.reset.parser with lastAccepted := some 0 } }
    Ready State.reset ∧ (part.hasOpen = false ∧ part.hasCommit = false ∧ part.touchesWord1 = true) ∧
    ((commitBeat 0).hasOpen = false ∧ (commitBeat 0).hasCommit = true) ∧
    (Ready last ∧ last.parser.lastAccepted = some (commitBeat 0).commitSeq) ∧
    (let s := slot3 fun k => { k with shadow := header 0 1 1 0 0 0x20000 };
     Ready s ∧ s.parser.lastAccepted ≠ some (commitBeat 0).commitSeq ∧ (s.slot 3).st = .free ∧ byteAt (s.slot 3).shadow 0 = 1) ∧
    (let s := slot3 fun k => { k with st := .posted };
     Ready s ∧ s.parser.lastAccepted ≠ some (commitBeat 0).commitSeq ∧ (s.slot 3).st ≠ .free ∧ (s.slot 3).st ≠ .opened) :=
  ⟨ready_reset, by decide +kernel, by decide +kernel, ⟨⟨rfl, rfl⟩, by decide +kernel⟩, ⟨⟨rfl, rfl⟩, by decide +kernel⟩, ⟨rfl, rfl⟩,
    by decide +kernel⟩

/-- An OPEN slot 3 of a SWATH with a header. -/
def openSlot3 (h : List Byte) : State := slot3 fun k => { k with st := .opened, kind := some .swath, shadow := h }

/-- The hypotheses that a commit in turn of slot 3 has in common. -/
def CommitInTurn (s : State) : Prop :=
  s.link.state = .up ∧ NoReads s ∧ (commitBeat 0).hasOpen = false ∧ (commitBeat 0).hasCommit = true ∧
    s.parser.lastAccepted ≠ some (commitBeat 0).commitSeq ∧ (s.slot 3).takesCommit = true ∧ (commitBeat 0).commitSeq = s.parser.expected ∧
    s.sequenceStands (commitBeat 0).commitSeq = false ∧ s.parser.retired.length < 64

/-- CommitOutOfTurnIsRejected. -/
theorem test_witness_out_of_turn :
    let s := openSlot3 (header 1 1 7 0 0 0x20000)
    s.link.state = .up ∧ NoReads s ∧ (commitBeat 5).hasOpen = false ∧ (commitBeat 5).hasCommit = true ∧
      s.parser.lastAccepted ≠ some (commitBeat 5).commitSeq ∧ (s.slot 3).takesCommit = true ∧ (commitBeat 5).commitSeq ≠ s.parser.expected ∧
      s.parser.retired.length < 64 ∧ s.events.recs.length < 32 ∧ (s.slot 3).commitKind = some .swath :=
  ⟨rfl, ⟨rfl, rfl, rfl, rfl⟩, by decide +kernel⟩

/-- A header whose checks pass. -/
theorem good_header (f n : Nat) (h : leAt (header f 1 n 8 0 0x20000) 8 4 = 0) (g : (trailingOf (header f 1 n 8 0 0x20000)).isSome ∨
    sheetEndFlag (header f 1 n 8 0 0x20000) = false) (p : rollChoicePresent (header f 1 n 8 0 0x20000) = false) :
    HeaderGood (header f 1 n 8 0 0x20000) := by
  refine ⟨by omega, fun e => ?_, fun e => ?_⟩
  · rcases g with g | g
    · exact g
    · rw [e] at g; cases g
  · rw [p] at e; cases e

/-- The machine after reset with slot 3 OPEN and a sheet open. -/
def openInSheet (h : List Byte) : State :=
  { withSheet (sheetIn .printing) (openSlot3 h) with parser := { State.reset.parser with openSheet := some { number := 7, sid := 0 } } }

/-- CommitInTurnContentChecks: a kind code that is none, a header that fails, and the rows of the sheet checks. -/
theorem test_witness_content_checks :
    (CommitInTurn State.reset ∧ (State.reset.slot 3).commitKind = none) ∧
    (let s := openSlot3 (header 1 1 7 0 1000001 0x20000);
     CommitInTurn s ∧ (s.slot 3).commitKind = some .swath ∧ ¬ leAt (s.slot 3).shadow 8 4 ≤ 1000000) ∧
    (let s := openInSheet (header 1 1 7 8 0 0x20000);
     CommitInTurn s ∧ HeaderGood (s.slot 3).shadow ∧ (s.slot 3).commitKind = some .swath ∧ sheetStartFlag (s.slot 3).shadow = true ∧
       s.parser.openSheet.isSome) ∧
    (let s := openSlot3 (header 0 1 7 8 0 0x20000);
     CommitInTurn s ∧ HeaderGood (s.slot 3).shadow ∧ (s.slot 3).commitKind = some .swath ∧ sheetStartFlag (s.slot 3).shadow = false ∧
       s.parser.openSheet = none) ∧
    (let s := openInSheet (header 0 1 8 8 0 0x20000);
     CommitInTurn s ∧ HeaderGood (s.slot 3).shadow ∧ (s.slot 3).commitKind = some .swath ∧ sheetStartFlag (s.slot 3).shadow = false ∧
       s.parser.openSheet = some { number := 7, sid := 0 } ∧ leAt (s.slot 3).shadow 4 2 ≠ 7) ∧
    (let s := (openSlot3 (header 1 1 7 8 0 0x20000)).modMedia fun m => { m with table := List.replicate 4 (sheetIn .done) };
     CommitInTurn s ∧ HeaderGood (s.slot 3).shadow ∧ (s.slot 3).commitKind = some .swath ∧ sheetStartFlag (s.slot 3).shadow = true ∧
       s.parser.openSheet = none ∧ 4 ≤ s.media.table.length ∧ s.agenda = []) := by
  refine ⟨⟨⟨rfl, ⟨rfl, rfl, rfl, rfl⟩, ?_⟩, ?_⟩, ⟨⟨rfl, ⟨rfl, rfl, rfl, rfl⟩, ?_⟩, ?_⟩, ⟨⟨rfl, ⟨rfl, rfl, rfl, rfl⟩, ?_⟩, good_header 1 7 ?_ (.inr ?_) ?_, ?_⟩,
    ⟨⟨rfl, ⟨rfl, rfl, rfl, rfl⟩, ?_⟩, good_header 0 7 ?_ (.inr ?_) ?_, ?_⟩, ⟨⟨rfl, ⟨rfl, rfl, rfl, rfl⟩, ?_⟩, good_header 0 8 ?_ (.inr ?_) ?_, ?_⟩,
    ⟨⟨rfl, ⟨rfl, rfl, rfl, rfl⟩, ?_⟩, good_header 1 7 ?_ (.inr ?_) ?_, ?_⟩⟩ <;> decide +kernel

/-- CommitAccepted: a directive from FREE, the first swath of a sheet that is its last too, a further swath of the open sheet. -/
theorem test_witness_accepted :
    (let s := slot3 fun k => { k with shadow := record [(0, 1, 5)] };
     CommitInTurn s ∧ (s.slot 3).commitKind = some .mark ∧ (s.slot 3).st = .free) ∧
    (let s := openSlot3 (header 3 1 7 8 0 0x20000);
     CommitInTurn s ∧ HeaderGood (s.slot 3).shadow ∧ (s.slot 3).commitKind = some .swath ∧ sheetStartFlag (s.slot 3).shadow = true ∧
       s.parser.openSheet = none ∧ s.media.table.length < 4 ∧ (∀ v ∈ s.media.table, v.sid < s.media.nextSid)) ∧
    (let s := openInSheet (header 0 1 7 8 0 0x20000);
     CommitInTurn s ∧ HeaderGood (s.slot 3).shadow ∧ (s.slot 3).commitKind = some .swath ∧ sheetStartFlag (s.slot 3).shadow = false ∧
       s.parser.openSheet = some { number := 7, sid := 0 } ∧ leAt (s.slot 3).shadow 4 2 = 7 ∧ s.sheet? 0 = some (sheetIn .printing) ∧
       (sheetIn .printing).spoil = none) := by
  refine ⟨⟨⟨rfl, ⟨rfl, rfl, rfl, rfl⟩, ?_⟩, ?_⟩, ⟨⟨rfl, ⟨rfl, rfl, rfl, rfl⟩, ?_⟩, good_header 3 7 ?_ (.inl ?_) ?_, ?_⟩,
    ⟨⟨rfl, ⟨rfl, rfl, rfl, rfl⟩, ?_⟩, good_header 0 7 ?_ (.inr ?_) ?_, ?_⟩⟩ <;> decide +kernel

/-- RetirementBeatRemovesTheOldest, and HeaderWriteByState where it gives the whole state. -/
theorem test_witness_reads : Ready State.reset ∧ NoReads State.reset := ⟨ready_reset, noReads_reset⟩

/-- ReleaseSlotFreesARetiredSlot: a RETIRED slot 63, a slot that is not RETIRED, an index above 63. -/
theorem test_witness_release :
    (let s := withBody [(0, 1, 63)] (State.reset.modSlot 63 fun k => { k with st := .retired });
     s.takesTrigger (trig 13 1) ∧ s.link.state = .up ∧ byteAt s.mail.body 0 = 63 ∧ (s.slot 63).st = .retired) ∧
    (let s := withBody [(0, 1, 63)] State.reset; Ready s ∧ s.takesTrigger (trig 13 1) ∧ byteAt s.mail.body 0 = 63 ∧ (s.slot 63).st ≠ .retired) ∧
    (let s := withBody [(0, 1, 64)] State.reset; Ready s ∧ s.takesTrigger (trig 13 1) ∧ 63 < byteAt s.mail.body 0) := by
  refine ⟨⟨⟨?_, ?_⟩, rfl, ?_⟩, ⟨⟨rfl, rfl⟩, ⟨?_, ?_⟩, ?_⟩, ⟨rfl, rfl⟩, ⟨?_, ?_⟩, ?_⟩ <;> decide +kernel

/-- RetirementListHolds64 at 63 and 64 entries. -/
theorem test_witness_retired_list :
    let e : RetireEntry := { seq := none, slot := 0, outcome := .done, reason := none }
    let with_ := fun n => { State.reset with parser := { State.reset.parser with retired := List.replicate n e } }
    (with_ 63).parser.retired.length < 64 ∧ 64 ≤ (with_ 64).parser.retired.length := by decide +kernel

/-! ### Witnesses: planes, counters, go words, flow -/

/-- The window of slot 3's cyan plane at 0x20000, one column long. -/
def win3 : Window := { wid := 0, base := 0x20000, len := 256, slot := 3, chan := .cyan, mark := 64 }

/-- A second window of slot 3, not fetched. -/
def winB : Window := { wid := 1, base := 0x30000, len := 256, slot := 3, chan := .yellow, mark := 0 }

/-- The machine after reset with slot 3 changed and both its windows live. -/
def planes (f : Slot → Slot) : State := { slot3 f with windows := [win3, winB], nextWid := 2 }

/-- A plane beat of one byte of drops, and one with no byte enabled. -/
theorem beat_writes : beatWrites (beat [(63, 1, 0xE4)]) := ⟨63, by decide, by decide +kernel⟩

/-- The empty beat writes nothing. -/
theorem beat_silent : ¬ beatWrites (beat []) := by
  rintro ⟨j, h, e⟩
  have : ∀ j < 64, (beat []).en j = false := by decide +kernel
  rw [this j h] at e
  cases e

/-- PlaneWritesCountWhileOpen at the last beat of the window; LateWrites in a POSTED and in a FIRING swath, one below the wrap of the counter. -/
theorem test_witness_plane_writes :
    (let s := planes fun k => { k with st := .opened };
     Ready s ∧ s.classify (0x200C0 : Addr).toNat = .plane win3 ∧ (s.slot win3.slot).st = .opened) ∧
    (∀ st ∈ [SlotState.posted, .held, .admitted, .firing, .advancing],
      let s := { planes fun k => { k with st := st } with counters := { Counters.zero with lateWrites := 4294967294 } }
      s.link.state = .up ∧ s.link.held = none ∧ s.link.waiting = [] ∧ s.link.stalled = [] ∧ s.classify (0x200C0 : Addr).toNat = .plane win3 ∧
        s.counters.lateWrites < max32 ∧ (s.slot win3.slot).st = st ∧ s.parser.retired.length < 64 ∧ s.agenda = []) := by
  refine ⟨⟨⟨rfl, rfl⟩, ?_⟩, ?_⟩ <;> decide +kernel

/-- FetchReadsThatDoNotCount: a plain beat, a window whose swath is HELD, a beat past the mark, a beat below it. CountedBeatAdvancesTheMark: a beat at
the mark of an armed and of a FIRING swath with another window left. -/
theorem test_witness_fetches :
    (Ready State.reset ∧ NoReads State.reset ∧ State.reset.classify (0x10000 : Addr).toNat = .plain) ∧
    (let s := planes fun k => { k with st := .held };
     Ready s ∧ NoReads s ∧ s.classify (0x20000 : Addr).toNat = .plane win3 ∧ (s.windows.find? fun v => v.wid == win3.wid) = some win3 ∧
       (s.slot win3.slot).st ≠ .firing ∧ (s.slot win3.slot).st ≠ .admitted ∧ s.counters.strayFetches < max32) ∧
    (let s := planes fun k => { k with st := .firing };
     Ready s ∧ NoReads s ∧ s.classify (0x20080 : Addr).toNat = .plane win3 ∧ (s.windows.find? fun v => v.wid == win3.wid) = some win3 ∧
       (s.slot win3.slot).st = .firing ∧ win3.mark < (0x20080 : Addr).toNat - win3.base ∧ s.counters.fetchOrder < max32 ∧
       (0x20000 : Addr).toNat - win3.base < win3.mark ∧ s.classify (0x20000 : Addr).toNat = .plane win3) ∧
    (∀ f ∈ [fun k : Slot => { k with st := .firing }, fun k => { k with st := .admitted, armed := true }],
      let s := planes f
      Ready s ∧ NoReads s ∧ zeroBeat.length = 64 ∧ s.classify (0x20040 : Addr).toNat = .plane win3 ∧
        (s.windows.find? fun v => v.wid == win3.wid) = some win3 ∧ (0x20040 : Addr).toNat - win3.base = win3.mark ∧
        (∀ c, (s.health.get c).nozzles.length = 1024) ∧
        ((s.slot win3.slot).st = .firing ∨ (s.slot win3.slot).st = .admitted ∧ (s.slot win3.slot).armed = true) ∧
        (s.slot win3.slot).cancel = none ∧ (∃ v ∈ s.windows, v.slot = win3.slot ∧ v.wid ≠ win3.wid ∧ v.mark ≠ v.len)) := by
  refine ⟨⟨ready_reset, noReads_reset, by decide +kernel⟩, ⟨⟨rfl, rfl⟩, ⟨rfl, rfl, rfl, rfl⟩, by decide +kernel⟩,
    ⟨⟨rfl, rfl⟩, ⟨rfl, rfl, rfl, rfl⟩, by decide +kernel⟩, ?_⟩
  intro f hf
  simp only [List.mem_cons, List.not_mem_nil, or_false] at hf
  rcases hf with rfl | rfl
  · exact ⟨⟨rfl, rfl⟩, ⟨rfl, rfl, rfl, rfl⟩, by decide +kernel, by decide +kernel, by decide +kernel, by decide +kernel,
      fun c => by cases c <;> decide +kernel, .inl (by decide +kernel), by decide +kernel, winB, by decide +kernel, by decide +kernel⟩
  · exact ⟨⟨rfl, rfl⟩, ⟨rfl, rfl, rfl, rfl⟩, by decide +kernel, by decide +kernel, by decide +kernel, by decide +kernel,
      fun c => by cases c <;> decide +kernel, .inr (by decide +kernel), by decide +kernel, winB, by decide +kernel, by decide +kernel⟩

/-- ClippingKeepsWithinTheNeed and CountersWrapPast32Bits where their ranges meet; CountersClear. -/
theorem test_witness_counts :
    (10 : Nat) ≤ 10 ∧
    (let s := { State.reset with counters := { Counters.zero with unplaced := 4294967295 } };
     s.counters.get .unplaced + 0 ≤ 4294967295 ∧ 4294967295 < s.counters.get .unplaced + 1) ∧
    (Ready State.reset ∧ State.reset.takesTrigger (trig 15 1) ∧ State.reset.link.waiting = [] ∧ State.reset.link.stalled = []) := by
  refine ⟨?_, ?_, ready_reset, ⟨?_, ?_⟩, ?_⟩ <;> decide +kernel

/-- A part that may print slot 3: a sheet is PRINTING, the station is UNCAPPED, slot 3 is on the posted list. -/
def printing3 (f : Slot → Slot) : State :=
  let s := withSheet (sheetIn .printing) (slot3 fun k => { f k with kind := some .swath, sheet := some 0 })
  { s with svc := { s.svc with station := .uncapped, cap := .opened }, parser := { s.parser with posted := [3] } }

/-- GoWordReads: an answer that says PRINT, one that waits, the expiry of a hold, an expiry with no read held. -/
theorem test_witness_go_reads :
    (let s := printing3 fun k => { k with st := .admitted };
     Ready s ∧ NoReads s ∧ s.disposition 3 ≠ .wait ∧ s.disposition 3 = .print ∧ (s.slot 3).st = .admitted) ∧
    (Ready State.reset ∧ NoReads State.reset ∧ State.reset.disposition 3 = .wait ∧ ReqClass.raster ≠ .fetch) ∧
    (let s := { State.reset with link := { State.reset.link with held := some 3 }, counters := { Counters.zero with holdExpiries := 4294967294 } };
     s.agenda = [] ∧ s.link.held = some 3 ∧ s.link.waiting = [] ∧ s.link.stalled = [] ∧ s.disposition 3 = .wait ∧ s.counters.holdExpiries < max32) ∧
    State.reset.link.held = none :=
  ⟨⟨⟨rfl, rfl⟩, ⟨rfl, rfl, rfl, rfl⟩, by decide +kernel⟩, ⟨ready_reset, noReads_reset, by decide +kernel⟩, ⟨rfl, by decide +kernel⟩, rfl⟩

/-- GoWordDisposition: a state for each row of the table of R65. -/
theorem test_witness_disposition :
    (∀ st ∈ [SlotState.free, .opened, .advancing, .firing], ((slot3 fun k => { k with st := st }).slot 3).st = st) ∧
    (∀ st ∈ [SlotState.posted, .held, .admitted],
      let s := printing3 fun k => { k with st := st }
      let a := { s with svc := { s.svc with asking := true } }
      (s.slot 3).st = st ∧ (s.slot 3).armed = false ∧ s.nextSwath? = some 3 ∧ s.svc.asking = false ∧ a.svc.asking = true ∧ a.nextSwath? = some 3) ∧
    (let s := printing3 fun k => { k with st := .admitted, armed := true }; (s.slot 3).st = .admitted ∧ (s.slot 3).armed = true) ∧
    (let s := slot3 fun k => { k with st := .admitted }; (s.slot 3).armed = false ∧ ¬ s.nextSwath? = some 3) ∧
    (let s := printing3 fun k => { k with st := .admitted };
     s.flow.pause = false ∧ s.media.op = none ∧ s.svc.station = .uncapped ∧ ∃ t, s.sheetOfSlot 3 = some t ∧ t.st = .printing) ∧
    (let s := { printing3 fun k => { k with st := .admitted } with flow := { Flow.powerOn with pause := true } }; s.flow.pause ≠ false) ∧
    (∀ o ∈ [SlotOutcome.skipped, .cancelled, .rejected, .printed, .done, .refused],
      let s := slot3 fun k => { k with st := .retired, outcome := some o }
      (s.slot 3).st = .retired ∧ (s.slot 3).outcome = some o) := by
  refine ⟨?_, ?_, ?_, ?_, ⟨?_, ?_, ?_, sheetIn .printing, ?_, ?_⟩, ?_, ?_⟩ <;> decide +kernel

/-- A posted front at slot 3 with one large drop of cyan written, and cyan with a level and a sync state. -/
def front3 (level : Nat) (synced : Bool) : State :=
  (printing3 fun k => { k with st := .posted, tally := { k.tally with written := k.tally.written.set .cyan ⟨0, 0, 1⟩ } }).modInk .cyan
    fun k => { k with level := level, synced := synced }

/-- FrontIsHeldOrAdmitted: a pause, a channel that is not SYNCED, a level one below what fits, a level that just fits. -/
theorem test_witness_front :
    (∀ s ∈ [front3 0 false, front3 500000011 true, front3 500000012 true],
      s.admittedCount < 2 ∧ s.front? = some 3 ∧ (s.slot 3).kind = some .swath ∧ s.flow.pause = false ∧
      (s.slot 3).tally.written.get .cyan = ⟨0, 0, 1⟩ ∧ (s.chanProf .cyan).large = 12 ∧ s.sheetOfSlot 3 = some (sheetIn .printing) ∧
      (s.ink.get .cyan).reserved = 0 ∧ (s.svc.decap.get .cyan).stale = false ∧ s.svc.station ≠ .fault ∧
      (∀ c ∈ [Chan.matteBlack, .darkGrey, .magenta, .yellow], (s.slot 3).tally.written.get c = ⟨0, 0, 0⟩)) ∧
    ((front3 0 false).ink.get .cyan).synced = false ∧
    (((front3 500000011 true).ink.get .cyan).synced = true ∧ ¬ 0 + 12 + 500000000 ≤ ((front3 500000011 true).ink.get .cyan).level) ∧
    0 + 12 + 500000000 ≤ ((front3 500000012 true).ink.get .cyan).level ∧
    ({ front3 0 false with flow := { Flow.powerOn with pause := true } } : State).flow.pause = true := by decide +kernel

/-- PauseAndResume: a clear and a set flag. CancelAllRetiresWhatWaits. -/
theorem test_witness_pause :
    (Ready State.reset ∧ State.reset.takesTrigger (trig 1 1) ∧ State.reset.flow.pause = false) ∧
    (let s := { State.reset with flow := { Flow.powerOn with pause := true } };
     Ready s ∧ s.takesTrigger (trig 2 1) ∧ s.flow.pause = true) := by
  refine ⟨⟨ready_reset, ⟨?_, ?_⟩, ?_⟩, ⟨rfl, rfl⟩, ⟨?_, ?_⟩, ?_⟩ <;> decide +kernel

/-- CancelSheetSpoilsTheCurrentSheet: a table whose first record is over, and one with no current sheet. -/
theorem test_witness_cancel_sheet :
    (let s := State.reset.modMedia fun m => { m with table := [{ sheetIn .done with sid := 5 }, sheetIn .printing] };
     s.takesTrigger (trig 3 1) ∧ s.link.state = .up ∧ s.media.table = [{ sheetIn .done with sid := 5 }] ++ sheetIn .printing :: [] ∧
       (∀ x ∈ [{ sheetIn .done with sid := 5 }], (x.st = .done ∨ x.st = .spoiled ∨ x.spoil.isSome) ∧ x.sid ≠ (sheetIn .printing).sid) ∧
       ¬ ((sheetIn .printing).st = .done ∨ (sheetIn .printing).st = .spoiled ∨ (sheetIn .printing).spoil.isSome)) ∧
    (let s := withSheet { sheetIn .printing with spoil := some .cancelled } State.reset;
     Ready s ∧ s.takesTrigger (trig 3 1) ∧ ∀ x ∈ s.media.table, x.st = .done ∨ x.st = .spoiled ∨ x.spoil.isSome) := by
  refine ⟨⟨⟨?_, ?_⟩, ?_⟩, ⟨rfl, rfl⟩, ⟨?_, ?_⟩, ?_⟩ <;> decide +kernel

/-- A front HELD for INK at slot 3 in a PRINTING sheet under a starvation action. -/
def starving (a : StarveAction) : State :=
  let s := printing3 fun k => { k with st := .held, reason := some .ink }
  { s with prof := { s.prof with flow := { FlowProfile.powerOn with starveAction := a } } }

/-- StarvedAction: both actions, and no front that waits for ink. -/
theorem test_witness_starved :
    (∀ a ∈ [StarveAction.wait, .spoil],
      let s := starving a
      s.front? = some 3 ∧ s.printing? = some (sheetIn .printing) ∧ (s.slot 3).st = .held ∧ (s.slot 3).reason = some .ink ∧
        (s.slot 3).sheet = some (sheetIn .printing).sid ∧ s.starveCounts = true ∧ s.agenda = [] ∧ s.prof.flow.starveAction = a ∧
        s.sheet? (sheetIn .printing).sid = some (sheetIn .printing) ∧ (sheetIn .printing).spoil = none ∧ s.link.held = none ∧
        s.link.waiting = [] ∧ s.link.stalled = []) ∧
    (State.reset.agenda = [] ∧ State.reset.inkHeld? = none) := by decide +kernel

/-! ### Witnesses: ink, health, service -/

/-- ReservationDebitAndRelease: a request every channel passes, one that fails at cyan alone, at the boundary of the floor. -/
theorem test_witness_reservation :
    let s := State.reset.modInk .cyan fun k => { k with level := 500000012, synced := true }
    let vols := fun v : Nat => (PerChan.of fun _ => 0).set .cyan v
    (∀ c, (vols 12).get c = 0 ∨ (s.ink.get c).synced = true ∧ (s.ink.get c).reserved + (vols 12).get c + 500000000 ≤ (s.ink.get c).level ∧
      ((s.ink.get c).servicePart = 0 ∧ (vols 12).get c ≤ 2000000000)) ∧
    ¬ ((vols 13).get .cyan = 0 ∨ (s.ink.get .cyan).synced = true ∧ (s.ink.get .cyan).reserved + (vols 13).get .cyan + 500000000 ≤ (s.ink.get .cyan).level) ∧
    ∀ d : Chan, d.num < Chan.cyan.num → (vols 13).get d = 0 := by
  refine ⟨fun c => by cases c <;> decide +kernel, by decide +kernel, fun d => by cases d <;> decide +kernel⟩

/-- LowFloatChanges, FullFloatChanges, PresenceLineChanges: lines of each filtered state, a measuring run at both ends of the good range, a cartridge
that is absent and one that is not. -/
theorem test_witness_lines :
    (∀ l ∈ [LineState.inactive, .active, .unknown],
      let s := State.reset.modInk .cyan fun k => { k with lowFloat := { Line.reset with filt := l }, fullFloat := { Line.reset with filt := l },
                                                          presence := { Line.reset with filt := l }, cart := .active }
      s.agenda = [] ∧ (s.ink.get .cyan).lowFloat.filt = l ∧ (s.ink.get .cyan).fullFloat.filt = l ∧ (s.ink.get .cyan).presence.filt = l ∧
        (s.ink.get .cyan).cart ≠ .absent ∧ s.events.recs.length + 1 ≤ 32) ∧
    ((State.reset.ink.get .cyan).presence.filt = .unknown ∧ (State.reset.ink.get .cyan).cart = .absent ∧ State.reset.link.waiting = []) ∧
    (∀ n ∈ [256, 426],
      let s := State.reset.modInk .cyan fun k => { k with running := true, phase := .measuring, counting := true, measCount := n }
      let m := ((s.chanProf .cyan).fullMark - (s.chanProf .cyan).lowMark) * 1000000 / n
      (s.ink.get .cyan).fullFloat.filt ≠ .active ∧ (s.ink.get .cyan).running = true ∧ (s.ink.get .cyan).phase = .measuring ∧
        (s.ink.get .cyan).counting = true ∧ (75 * 50000000 ≤ 100 * m ∧ 100 * m ≤ 125 * 50000000)) ∧
    ¬ 100 * (16000 * 1000000 / 255) ≤ 125 * 50000000 ∧ ¬ 75 * 50000000 ≤ 100 * (16000 * 1000000 / 427) := by decide +kernel

/-- StrokeCompletes: for each phase a run with a stroke in progress, with an estimate one stroke long and one pL longer, and no run. -/
theorem test_witness_stroke :
    (∀ p ∈ [Phase.credited, .overrun, .uncredited],
      let s := State.reset.modInk .cyan fun k => { k with running := true, stroke := some 0, phase := p, estimate := 50000001, strokes := 65534 }
      (s.ink.get .cyan).running = true ∧ (s.ink.get .cyan).stroke.isSome ∧ (s.ink.get .cyan).phase = p ∧ (s.ink.get .cyan).cal = .idle ∧
        (s.ink.get .cyan).endAfter = false ∧ (s.chanProf .cyan).nominal * 1000000 < (s.ink.get .cyan).estimate ∧
        (s.ink.get .cyan).estimate - 1 ≤ (s.chanProf .cyan).nominal * 1000000 ∧ (s.ink.get .cyan).strokes < 65535) ∧
    (State.reset.agenda = [] ∧ (State.reset.ink.get .cyan).running = false) := by decide +kernel

/-- CartridgeInstalled: a channel above 4, a volume one too small and one too large, the boundary volumes for each cartridge state. -/
theorem test_witness_cartridge :
    (let s := withBody [(0, 1, 5)] State.reset; Ready s ∧ s.takesTrigger (trig 5 1) ∧ 4 < byteAt s.mail.body 0) ∧
    (∀ v ∈ [9999, 2000001], let s := withBody [(0, 1, 2), (4, 4, v)] State.reset;
      byteAt s.mail.body 0 = Chan.cyan.num ∧ ¬ (10000 ≤ leAt s.mail.body 4 4 ∧ leAt s.mail.body 4 4 ≤ 2000000)) ∧
    (∀ v ∈ [10000, 2000000], ∀ st ∈ [CartState.absent, .present, .active, .empty],
      let s := withBody [(0, 1, 2), (4, 4, v)] (State.reset.modInk .cyan fun k => { k with cart := st });
      byteAt s.mail.body 0 = Chan.cyan.num ∧ 10000 ≤ leAt s.mail.body 4 4 ∧ leAt s.mail.body 4 4 ≤ 2000000 ∧ (s.ink.get .cyan).cart = st) := by
  refine ⟨⟨⟨rfl, rfl⟩, ⟨?_, ?_⟩, ?_⟩, ?_, ?_⟩ <;> decide +kernel

/-- CalibratePump: a channel above 4, and every calibration state of channel 4. -/
theorem test_witness_calibrate :
    (let s := withBody [(0, 1, 5)] State.reset; Ready s ∧ s.takesTrigger (trig 6 1) ∧ 4 < byteAt s.mail.body 0) ∧
    (∀ st ∈ [CalState.idle, .armed, .measuring, .done, .bad],
      let s := withBody [(0, 1, 4)] (State.reset.modInk .yellow fun k => { k with cal := st });
      byteAt s.mail.body 0 = Chan.yellow.num ∧ (s.ink.get .yellow).cal = st) := by
  refine ⟨⟨⟨rfl, rfl⟩, ⟨?_, ?_⟩, ?_⟩, ?_⟩ <;> decide +kernel

/-- ReportJudgesNozzles: nozzles of every clause, and a report that covers cyan and not magenta. -/
theorem test_witness_report :
    (∀ st ∈ [NozzleState.good, .weak, .missing, .retired], ({ Nozzle.good with st := st } : Nozzle).st = st ∧ ({ Nozzle.good with st := st } : Nozzle).pending = false) ∧
    (let n : Nozzle := { Nozzle.good with st := .missing, passes := 2 }; n.st = .missing ∧ 2 ≤ n.passes) ∧
    (let n : Nozzle := { Nozzle.good with st := .missing, passes := 1, pending := true, survived := 1 };
     n.st = .missing ∧ n.pending = true ∧ Verdict.pass ≠ .none ∧ n.passes < 2) ∧
    (let h := record [(1, 1, 4)]; hasBit (byteAt h 1) Chan.cyan.num = true ∧ ¬ hasBit (byteAt h 1) Chan.magenta.num = true) := by decide +kernel

/-- CompensationByPairs: two nozzles, the second dead. -/
theorem test_witness_compensation :
    ([false, true] : List Bool).length = 2 * 1 ∧ ([1, 2] : List Nat).length = 2 * 1 ∧ ([false, true] : List Bool)[1]? = some true := by decide

/-- HeadReplaced: masks at the boundaries of its cases. -/
theorem test_witness_head :
    (∀ m ∈ [0, 32], (let b := (withBody [(0, 1, m)] State.reset).mail.body; byteAt b 0 = 0 ∨ 31 < byteAt b 0)) ∧
    (∀ m ∈ [1, 31], (let b := (withBody [(0, 1, m)] State.reset).mail.body; byteAt b 0 ≠ 0 ∧ byteAt b 0 ≤ 31)) ∧
    (∀ m, Ready (withBody [(0, 1, m)] State.reset) ∧ (withBody [(0, 1, m)] State.reset).takesTrigger (trig 12 1)) := by
  refine ⟨?_, ?_, fun m => ⟨⟨rfl, rfl⟩, ?_, ?_⟩⟩
  · decide +kernel
  · decide +kernel
  · decide +kernel
  · exact nofun

/-- The machine after reset with the Service Sequencer changed. -/
def station (f : Service → Service) : State := State.reset.modSvc f

/-- A request record. -/
def req (l : Level) (st : ReqState) : ServiceReq := { level := l, chans := ChanSet.single .cyan, flow := false, started := false, state := st }

/-- CapLines, StationFaults, ServiceReset: every station state that a clause names, and a capped line that is unknown, active and inactive. -/
theorem test_witness_station :
    (State.reset.svc.cappedLine.filt = .unknown ∧ State.reset.agenda = [] ∧ State.reset.svc.station ≠ .capping ∧ State.reset.svc.station ≠ .uncapping ∧
      State.reset.svc.station ≠ .wiping ∧ State.reset.svc.station ≠ .fault ∧ State.reset.events.recs.length + 1 ≤ 32) ∧
    (∀ st ∈ [Station.capping, .uncapping, .wiping, .fault], ∀ b ∈ [true, false],
      let s := station fun v => { v with station := st, cap := .opened, cappedLine := Line.take b, queue := [req .wipe .running] }
      s.svc.station = st ∧ s.svc.cappedLine.filt ≠ .unknown ∧ s.svc.stepEnd.capAfter = false ∧ s.svc.cap = .opened ∧
        s.running? = some (req .wipe .running) ∧ (s.svc.stepEnd.dropFlow && (req .wipe .running).flow) = false ∧ s.link.state = .up) ∧
    State.reset.takesTrigger (trig 11 1) := by
  refine ⟨by decide +kernel, by decide +kernel, by decide +kernel, by decide +kernel⟩

/-- ServiceNow: levels and channel sets at the boundaries of their checks, a queue with room, one that is full, one request that merges and one that
absorbs. -/
theorem test_witness_service_now :
    (∀ l ∈ [0, 7], (let b := (withBody [(0, 1, l)] State.reset).mail.body; byteAt b 0 = 0 ∨ 6 < byteAt b 0)) ∧
    (∀ m ∈ [0, 32], (let b := (withBody [(0, 1, 2), (1, 1, m)] State.reset).mail.body;
      byteAt b 0 = Level.wipe.code ∧ ¬ (byteAt b 1 ≠ 0 ∧ byteAt b 1 ≤ 31))) ∧
    (∀ m ∈ [1, 31], (let b := (withBody [(0, 1, 6), (1, 1, m)] State.reset).mail.body;
      byteAt b 0 = Level.uncap.code ∧ byteAt b 1 ≠ 0 ∧ byteAt b 1 ≤ 31)) ∧
    (∀ n ∈ [7, 8], let s := station fun v => { v with queue := List.replicate n (req .cap .running) };
      s.agenda = [] ∧ s.link.state = .up ∧ (∀ r ∈ s.svc.queue, r.state = .running) ∧ s.svc.queue.length = n) ∧
    (let s := withBody [(0, 1, 2), (1, 1, 4)] (station fun v => { v with queue := [req .wipe .queued] });
     s.takesTrigger (trig 10 1) ∧ byteAt s.mail.body 0 = Level.wipe.code ∧ s.svc.queue = [req .wipe .queued] ∧ (req .wipe .queued).started = false) ∧
    (let s := withBody [(0, 1, 1), (1, 1, 4)] (station fun v => { v with queue := [req .prime .queued] });
     s.takesTrigger (trig 10 1) ∧ byteAt s.mail.body 0 = Level.spit.code ∧ s.svc.queue = [req .prime .queued] ∧ (req .prime .queued).level = .prime ∧
       ∀ c, (ChanSet.ofMask (byteAt s.mail.body 1)).get c = true → (req .prime .queued).chans.get c = true) := by
  refine ⟨?_, ?_, ?_, ?_, ⟨⟨?_, ?_⟩, ?_⟩, ⟨?_, ?_⟩, ?_, ?_, ?_, fun c => by cases c <;> decide +kernel⟩ <;> decide +kernel

/-- CallAndCarriage: a call that runs, a spit, a wipe, a LOST link with an UNCAPPED station, a carriage line of each state. -/
theorem test_witness_call :
    (∀ st ∈ [Station.calling, .spitting, .wiping],
      let s := station fun v => { v with station := st, callRunning := true, carriageLine := Line.take true, queue := [req .spit .running] }
      s.agenda = [] ∧ s.svc.station = st ∧ s.svc.callRunning = true ∧ s.running? = some (req .spit .running) ∧ s.svc.carriageLine.filt ≠ .inactive ∧
        s.svc.stepEnd.lostWipe = false ∧ s.events.recs.length + 1 ≤ 32 ∧ (req .spit .running).chans.get .cyan = true) ∧
    (State.reset.agenda = [] ∧ State.reset.svc.callRunning = false ∧ State.reset.svc.carriageLine.filt ≠ .active ∧ State.reset.link.state = .up ∧
      State.reset.svc.carriageLine.filt ≠ .inactive ∧ State.reset.svc.station ≠ .spitting ∧ State.reset.svc.station ≠ .wiping) ∧
    (let s := { station fun v => { v with station := .uncapped } with link := { State.reset.link with state := .lost } };
     s.svc.carriageLine.filt ≠ .active ∧ s.link.state = .lost ∧ s.running? = none ∧ s.svc.station = .uncapped) ∧
    ∀ b : Bool, (station fun v => { v with carriageLine := Line.take b }).svc.carriageLine.filt = (if b = true then .active else .inactive) := by
  decide +kernel

/-- SpitAndSuction: no spit, a beat off the mark, a beat at it, the last beat with a pass left and with none; a suction of two channels, and none. -/
theorem test_witness_spit :
    (Ready State.reset ∧ NoReads State.reset ∧ State.reset.svc.station ≠ .spitting) ∧
    (∀ own ∈ [1, 2],
      let p := { SpitWork.none with set := ChanSet.single .yellow, own := PerChan.of fun _ => own, mark := 64 * 19 }
      let s := station fun v => { v with station := .spitting, spit := p }
      s.svc.station = .spitting ∧ s.svc.spit.mark = 64 * (19 : Fin 20).val ∧ s.svc.spit.mark ≠ 64 * (18 : Fin 20).val ∧ p.set.get .yellow = true ∧
        (p.passes + 1 < p.own.get .yellow ∨ p.own.get .yellow ≤ p.passes + 1)) ∧
    (let p := { SpitWork.none with set := ChanSet.single .yellow, own := PerChan.of fun _ => 2, mark := 64 * 19 };
     ∀ d, p.set.get d = true → p.passes + 1 < p.own.get d) ∧
    (let s := station fun v => { v with station := .spitting, spit := { SpitWork.none with mark := 64 * 18 } };
     s.svc.spit.mark = 64 * (18 : Fin 20).val ∧ (18 : Fin 20).val < 19) ∧
    (let s := station fun v => { v with station := .suction, toSuck := [.cyan, .yellow] };
     s.svc.station = .suction ∧ s.svc.toSuck = .cyan :: [.yellow] ∧ [Chan.yellow] ≠ [] ∧ s.svc.stepEnd.returns = false) ∧
    (State.reset.agenda = [] ∧ State.reset.svc.toSuck = []) := by
  refine ⟨⟨ready_reset, noReads_reset, ?_⟩, ?_, fun d => ?_, ?_, ?_, ?_⟩
  rotate_left 2
  · cases d <;> decide +kernel
  all_goals decide +kernel

/-- DecapAndIdle: a running timer under each policy, a closed cap, an idle station and one that is not. -/
theorem test_witness_decap :
    (∀ p ∈ [SpitPolicy.any, .needed],
      let s := { station fun v => { v with cap := .opened, station := .uncapped } with prof := { Profiles.powerOn with flow := { FlowProfile.powerOn with spitPolicy := p } } }
      s.svc.cap = .opened ∧ (s.svc.decap.get .cyan).expired = false ∧ s.prof.flow.spitPolicy = p ∧ s.svc.queue = [] ∧
        s.svc.station = .uncapped ∧ (∀ i, (s.slot i).st ≠ .admitted ∧ (s.slot i).st ≠ .firing) ∧ (∀ r ∈ s.svc.queue, r.state ≠ .running)) ∧
    (∀ e, State.reset.svc.spitOwed.get e = false) ∧
    (State.reset.agenda = [] ∧ ¬ State.reset.svc.cap = .opened ∧ ¬ State.reset.svc.station = .uncapped) := by
  refine ⟨by decide +kernel, fun e => by cases e <;> rfl, by decide +kernel⟩

/-! ### Witnesses: media, mailbox, events, the bounds -/

/-- The body of a ROLL_LOADED for roll A: width, correction, tail length, roll low, remaining length (declared where it is above 0). -/
def rollBody (width corr tail low len : Nat) : List (Nat × Nat × Nat) :=
  [(1, 1, if len = 0 then 0 else 1), (4, 4, len), (16, 2, width), (20, 2, corr), (22, 2, tail), (24, 1, low)]

/-- RollDirectives: a roll that is none, each field one outside its range with the fields before it at a boundary, and the boundaries taken. -/
theorem test_witness_roll_fields :
    (let s := withBody [(0, 1, 2)] State.reset; Ready s ∧ s.takesTrigger (trig 7 1) ∧ 1 < byteAt s.mail.body 0) ∧
    (∀ w ∈ [279, 1119], let p := mediaSection (record (rollBody w 0 100 1 0)) 16; ¬ (280 ≤ p.width ∧ p.width ≤ 1118)) ∧
    (∀ c ∈ [2001, 63535], let p := mediaSection (record (rollBody 280 c 100 1 0)) 16; 280 ≤ p.width ∧ ¬ (-2000 ≤ p.correction ∧ p.correction ≤ 2000)) ∧
    (∀ t ∈ [99, 3001], let p := mediaSection (record (rollBody 280 2000 t 1 0)) 16; p.correction = 2000 ∧ ¬ (100 ≤ p.tailLength ∧ p.tailLength ≤ 3000)) ∧
    (∀ l ∈ [0, 51], let p := mediaSection (record (rollBody 1118 63536 100 l 0)) 16;
      p.correction = -2000 ∧ p.tailLength = 100 ∧ ¬ (1 ≤ p.rollLow ∧ p.rollLow ≤ 50)) ∧
    (let b := record (rollBody 1118 0 3000 50 1000001); ¬ (byteAt b 1 = 0 ∨ 1 ≤ leAt b 4 4 ∧ leAt b 4 4 ≤ 1000000)) ∧
    (∀ n ∈ [0, 1, 1000000], let b := record (rollBody 1118 0 3000 50 n); let p := mediaSection b 16;
      (280 ≤ p.width ∧ p.width ≤ 1118) ∧ (-2000 ≤ p.correction ∧ p.correction ≤ 2000) ∧ (100 ≤ p.tailLength ∧ p.tailLength ≤ 3000) ∧
        (1 ≤ p.rollLow ∧ p.rollLow ≤ 50) ∧ (byteAt b 1 = 0 ∨ 1 ≤ leAt b 4 4 ∧ leAt b 4 4 ≤ 1000000)) := by
  refine ⟨⟨⟨rfl, rfl⟩, ⟨?_, ?_⟩, ?_⟩, ?_⟩ <;> decide +kernel

/-- A media operation in flight. -/
def op (k : OpKind) (sheet : Option Nat) : MediaOp :=
  { kind := k, roll := .a, sheet := sheet, slot := none, dist := 1000, target := 100, progress := 3, ms := 0, limit := 502, prev := none, next := none }

/-- The machine after reset with roll A in a state, its present line active, and an operation or none. -/
def rollIn (st : RollState) (o : Option MediaOp) : State :=
  State.reset.modMedia fun m => { m with rollA := { m.rollA with st := st, presentLine := Line.take true }, op := o }

/-- RollDirectives: each roll state with no sheet on the path; a sheet on the path; an operation in flight; a media fault. -/
theorem test_witness_rolls :
    (∀ st ∈ [RollState.absent, .present, .loaded, .threading, .active, .ended, .out, .rewinding],
      let s := withBody (rollBody 1118 0 1000 10 0) (rollIn st none)
      byteAt s.mail.body 0 = Roll.a.num ∧ (s.roll .a).st = st ∧ s.media.table = [] ∧ s.media.op = none ∧ s.media.fault = false ∧ s.agenda = [] ∧
        s.link.state = .up) ∧
    (∀ st ∈ [SheetState.leading, .printing, .trailing, .cutting], (withSheet (sheetIn st) (rollIn .active none)).media.table = [] ++ sheetIn st :: []) ∧
    (rollIn .active (some (op .clearing none))).media.op.isSome ∧
    ((rollIn .active none).modMedia fun m => { m with fault := true }).media.fault = true := by decide +kernel

/-- MediaFaultsAndReset: an operation of every kind, of a sheet that is not over; no operation; a fault with an engaged roll and with none, by the platen
line of each state. -/
theorem test_witness_media_faults :
    (∀ k ∈ [OpKind.advance, .leading, .trailing, .clearing, .rewind, .thread, .cut],
      let s := withSheet (sheetIn .trailing) (rollIn .active (some (op k (some 0))))
      s.media.op = some (op k (some 0)) ∧ s.sheet? 0 = some (sheetIn .trailing) ∧ (sheetIn .trailing).spoil = none ∧ (op k (some 0)).kind = k ∧
        s.events.recs.length + 1 ≤ 32 ∧ s.agenda = []) ∧
    (State.reset.media.op = none ∧ State.reset.agenda = [] ∧ State.reset.media.fault = false ∧ State.reset.takesTrigger (trig 9 1)) ∧
    (let s := State.reset.modMedia fun m => { m with fault := true };
     s.link.state = .up ∧ s.media.fault = true ∧ s.takesTrigger (trig 9 1) ∧ ∀ r, (s.roll r).st.engaged = false) ∧
    (∀ st ∈ [RollState.active, .ended, .threading, .rewinding], ∀ b ∈ [true, false],
      let s := (rollIn st none).modMedia fun m => { m with fault := true, platen := Line.take b }
      s.media.fault = true ∧ (s.roll .a).st.engaged = true ∧ (s.roll (Roll.other .a)).st.engaged = false ∧ (s.roll .a).presentLine.filt = .active ∧
        s.media.platen.filt = LineState.ofLevel b) := by
  refine ⟨?_, ⟨?_, ?_, ?_, ?_, ?_⟩, ⟨?_, ?_, ⟨?_, ?_⟩, fun r => by cases r <;> rfl⟩, ?_⟩ <;> decide +kernel

/-- FeedAndCut: the boundaries of the correction, a feed and a clearing feed, no feed, a cut of a sheet that is spoiled and of one that is not, platen
lines of each state, a roll that a run-out frees. -/
theorem test_witness_feed :
    (∀ c ∈ [(-2000 : Int), 2000], -2000 ≤ c ∧ c ≤ 2000) ∧
    (∀ k ∈ [OpKind.advance, .clearing], (op k none).kind.isFeed = true ∨ (op k none).kind = .clearing) ∧
    (State.reset.media.op = none ∧ State.reset.agenda = []) ∧
    (∀ r ∈ [none, some Reason.cancelled],
      let v := { sheetIn .cutting with spoil := r }
      let s := withSheet v (rollIn .active (some (op .cut (some 0))))
      s.media.op = some (op .cut (some 0)) ∧ (op .cut (some 0)).sheet = some 0 ∧ s.sheet? 0 = some v ∧ v.st = .cutting ∧ v.spoil = r ∧
        s.events.recs.length + 1 ≤ 32) ∧
    (State.reset.media.platen.filt ≠ .active ∧ State.reset.media.platen.filt ≠ .inactive) ∧
    (State.reset.modMedia fun m => { m with platen := Line.take false }).media.platen.filt = .inactive ∧
    (∀ st ∈ [RollState.ended, .active],
      let s := withSheet (sheetIn .printing) (rollIn st none)
      s.fedSheet? = some (sheetIn .printing) ∧ s.sheet? 0 = some (sheetIn .printing) ∧ (sheetIn .printing).spoil = none ∧
        (s.roll .a).presentLine.filt = .active ∧ (s.roll (Roll.other .a)).st.engaged = false ∧ (s.roll .a).st = st) := by decide +kernel

/-- RollLines: roll states and lines of every clause; a sheet of the roll in LEADING, PRINTING and TRAILING, with and without an expected length, its
trailing feed in flight or not. -/
theorem test_witness_roll_lines :
    (State.reset.agenda = [] ∧ (State.reset.roll .a).presentLine.filt = .unknown ∧ (State.reset.roll .a).st = .absent) ∧
    (∀ st ∈ [RollState.present, .loaded, .out, .threading, .active, .ended, .rewinding],
      let s := rollIn st none
      s.agenda = [] ∧ (s.roll .a).presentLine.filt = .active ∧ (s.roll .a).st = st ∧ s.fedSheet? = none ∧ s.events.recs.length + 2 ≤ 32) ∧
    (∀ st ∈ [SheetState.leading, .printing, .trailing], ∀ e ∈ [none, some 1001],
      let v := { sheetIn st with expected := e }
      let s := withSheet v (rollIn .active none)
      (s.roll .a).st = .active ∧ s.fedSheet? = some v ∧ s.sheet? v.sid = some v ∧ v.roll = some .a ∧ v.spoil = none ∧ v.expected = e ∧ v.st = st ∧
        s.media.op = none) ∧
    (let s := withSheet (sheetIn .trailing) (rollIn .active (some (op .trailing (some 0))));
     s.fedSheet? = some (sheetIn .trailing) ∧ s.media.op = some (op .trailing (some 0)) ∧ (op .trailing (some 0)).sheet = some (sheetIn .trailing).sid) := by
  decide +kernel

/-- MailboxBodyAndTriggers and MasksAndAttention: a trigger that is taken, one that is not whole, a repeat; masks and flags at their boundaries. -/
theorem test_witness_mailbox :
    (Ready State.reset ∧ State.reset.takesTrigger (trig 16 1)) ∧
    (beat [(0, 1, 1), (2, 1, 1)]).isTrigger = false ∧
    (let s := { State.reset with mail := { State.reset.mail with lastTaken := some 1 } }; Ready s ∧ s.mail.lastTaken = some (trig 1 1).triggerSeq) ∧
    (31 < byteAt (record [(0, 1, 32)]) 0) ∧
    (byteAt (record [(0, 1, 31), (1, 1, 2)]) 0 ≤ 31 ∧ 1 < byteAt (record [(0, 1, 31), (1, 1, 2)]) 1) ∧
    (byteAt (record [(0, 1, 31), (1, 1, 1)]) 0 ≤ 31 ∧ byteAt (record [(0, 1, 31), (1, 1, 1)]) 1 ≤ 1) := by
  refine ⟨⟨ready_reset, ⟨?_, ?_⟩⟩, ?_, ⟨⟨rfl, rfl⟩, ?_⟩, ?_⟩ <;> decide +kernel

/-- EventBeatReads and ReactionsKeep: queues of 31 and 32 records, an empty queue, a queue with and without an overflow. -/
theorem test_witness_events :
    (let e := Event.make 0 .low 0 0 0;
     ({ State.reset.events with recs := List.replicate 31 e } : EventQueue).recs.length < 32 ∧
       32 ≤ ({ State.reset.events with recs := List.replicate 32 e } : EventQueue).recs.length) ∧
    (let s := { State.reset with events := { State.reset.events with recs := [] } }; Ready s ∧ s.events.recs = []) ∧
    (let s := { State.reset with events := { State.reset.events with overflow := 1 } };
     Ready s ∧ s.events.recs = { kind := .powerUp, subject := 0xFF, d1 := 0, d2 := 0, time := 0 } :: [] ∧ s.events.overflow ≠ 0 ∧ State.reset.events.overflow = 0) ∧
    (State.reset.link.waiting = [] ∧ State.reset.link.stalled = [] ∧ State.reset.events.recs.length ≤ 32) := by
  refine ⟨?_, ⟨⟨rfl, rfl⟩, rfl⟩, ⟨⟨rfl, rfl⟩, ?_⟩, ?_⟩ <;> decide +kernel

/-- EveryStepKeepsTheBounds: a state at the limits of the silence count and the event queue. -/
theorem test_witness_bounds :
    Bounded { State.reset with link := { State.reset.link with silence := 5000 },
                               events := { State.reset.events with recs := List.replicate 32 (Event.make 0 .low 0 0 0), overflow := max32 } } := by
  refine ⟨?_, ?_, ?_, ?_, ?_, ?_, ?_, fun i => by cases i <;> decide +kernel, ?_, ?_, fun c => by cases c <;> decide +kernel⟩ <;> decide +kernel

/-! ### Behaviour, one command each -/

/-- A power-on reset samples the straps and posts POWER_UP (R4, R194). -/
theorem test_power_on :
    let t := after (.powerOnReset 9) State.reset
    t.link.straps = 9 ∧ t.spanBase = 9 * 0x10000000 ∧ t.events.recs = [{ kind := .powerUp, subject := 0xFF, d1 := 9, d2 := 0, time := 0 }] := by
  decide +kernel

/-- A step on an empty queue is a millisecond (log 1). -/
theorem test_tick : (match step State.reset with | .next t => t.time.ms | _ => 0) = 1 := by decide +kernel

/-- The capped line found inactive at power-on uncaps the station (R131). -/
theorem test_initial_cap : (after (.stationInitialCapState false) State.reset).svc.station = .uncapped := by decide +kernel

/-- A refilling part that goes silent is LOST and paused (R14). -/
theorem test_link_lost :
    let t := after .linkLost (State.reset.modInk .cyan fun k => { k with running := true, stroke := some 0 })
    t.link.state = .lost ∧ t.flow.pause = true ∧ t.events.recs.map (fun e => (e.kind, e.d1, e.d2)) = [(.powerUp, 0, 0), (.linkLost, 8, 5000)] := by
  decide +kernel

/-- A header write into a FREE slot is kept; into an OPEN one its geometry is not (R19, R20). -/
theorem test_header_write :
    let w := beat [(2, 2, 5), (8, 2, 6)]
    leAt ((after (.headerWrite 3 0 w) State.reset).slot 3).shadow 2 2 = 5 ∧
    (let k := (after (.headerWrite 3 0 w) (openSlot3 (header 1 1 7 8 0 0x20000))).slot 3
     leAt k.shadow 2 2 = 1 ∧ leAt k.shadow 8 2 = 6 ∧ k.lateHeaders = 1) := by decide +kernel

/-- An open word registers a window (R23). -/
theorem test_open_word :
    let t := after (.openWord 3 openBeat) (slot3 fun k => { k with shadow := header 1 1 7 8 0 0x20000 })
    (t.slot 3).st = .opened ∧ t.windows = [{ wid := 0, base := 0x20000, len := 256, slot := 3, chan := .cyan, mark := 0 }] := by decide +kernel

/-- The first swath of a sheet is posted, starts its sheet and is held while the sheet starts (R28, R161, R62). -/
theorem test_commit_word :
    let t := after (.commitWord 3 (commitBeat 0)) (openSlot3 (header 1 1 7 8 0 0x20000))
    t.parser.posted = [3] ∧ (t.slot 3).st = .held ∧ t.parser.expected = 1 ∧ t.media.table.map (fun v => (v.number, v.st, v.start)) =
      [(7, .starting, some .roll)] := by decide +kernel

/-- A MARK executes at once and its slot retires DONE (R30, R34). -/
theorem test_commit_mark :
    let t := after (.commitWord 3 (commitBeat 0)) (slot3 fun k => { k with shadow := record [(0, 1, 5), (4, 4, 77)] })
    (t.slot 3).st = .free ∧ t.parser.retired = [{ seq := some 0, slot := 3, outcome := .done, reason := none }] ∧
      t.events.recs.getLast? = some { kind := .markReached, subject := 0, d1 := 77, d2 := 0, time := 0 } := by decide +kernel

/-- A plane write of the four drop codes counts one drop of each size (R46, R47). -/
theorem test_plane_write :
    ((after (.planeWrite 0x200C0 (beat [(63, 1, 0xE4)])) (planes fun k => { k with st := .opened })).slot 3).tally.written.get .cyan = ⟨1, 1, 1⟩ := by
  decide +kernel

/-- A FETCH read of a go word that says PRINT arms the swath; one that says WAIT is held (R9, R69). -/
theorem test_go_word :
    ((after (.goWordRead .fetch 3 zeroBeat) (printing3 fun k => { k with st := .admitted })).slot 3).armed = true ∧
    (after (.goWordRead .fetch 3 zeroBeat) State.reset).link.held = some 3 ∧
    (after (.goWordRead .general 3 zeroBeat) State.reset).out.answers.length = 1 := by decide +kernel

/-- A beat at the mark counts what it returns, clipped to the need (R50, R53). -/
theorem test_plane_fetch :
    let s := planes fun k => { k with st := .firing, kind := some .swath, need := k.need.set .cyan 13 }
    let t := after (.planeFetchRead .fetch 0x20040 [zeroBeat.set 0 0xE4]) s
    (t.slot 3).tally.fired.get .cyan = ⟨1, 1, 0⟩ ∧ (t.slot 3).tally.overBudget = 1 ∧ t.out.answers.map (fun a => a.data.take 2) = [[0x24, 0]] ∧
      t.windows.map Window.mark = [128, 0] := by decide +kernel

/-- The last beat of a SHEET_END swath retires it PRINTED (R55, R73). -/
theorem test_fetch_completion :
    let s := { slot3 (fun k => { k with st := .firing, kind := some .swath, seq := some 4, shadow := header 2 1 7 8 0 0x20000 }) with
      windows := [{ win3 with mark := 192 }], parser := { State.reset.parser with posted := [3] } }
    (after (.planeFetchRead .fetch 0x200C0 [zeroBeat]) s).parser.retired = [{ seq := some 4, slot := 3, outcome := .printed, reason := none }] := by
  decide +kernel

/-- Spit data is large drops for a channel of the spit set (R11). -/
theorem test_spit_fetch :
    let s := station fun v => { v with station := .spitting, spit := { SpitWork.none with set := ChanSet.single .matteBlack, own := PerChan.of fun _ => 2 } }
    let t := after (.spitFetchRead 0 zeroBeat) s
    t.out.answers.map (fun a => a.data.take 1) = [[0xFF]] ∧ t.svc.spit.mark = 64 ∧ t.svc.spit.counted.get .matteBlack = 256 := by decide +kernel

/-- The event beat returns the oldest record and removes it; the retirement beat of an empty list shows slot 0xFF (R37, R189). -/
theorem test_beats :
    let t := after (.eventBeatRead .general zeroBeat) State.reset
    t.events.recs = [] ∧ t.out.answers.map (fun a => a.data.take 3) = [[0x80, 4, 0xFF]] ∧
    (after (.retirementBeatRead .general zeroBeat) State.reset).out.answers.map (fun a => a.data.take 4) = [[0, 0, 0xFF, 0]] := by decide +kernel

/-- A directive is answered in the result beat (R180, 11.4). -/
theorem test_set_masks :
    let t := after (.setMasks (trig 14 3)) (withBody [(0, 1, 0x1E), (1, 1, 1)] State.reset)
    t.events.masks = 0x1E ∧ t.events.suspend = true ∧ t.resultBeat.take 8 = [3, 0, 14, 1, 1, 0, 1, 0] := by decide +kernel

/-- A cartridge declared starts a refill of its empty sub-tank (R103, R96). -/
theorem test_cartridge :
    let s := withBody [(0, 1, 2), (4, 4, 10000)] (State.reset.modInk .cyan fun k => { k with cart := .present })
    ((after (.cartridgeInstalled (trig 5 1)) s).inkOf .cyan).running = true := by decide +kernel

/-- A stroke takes the nominal volume from the cartridge (R97). -/
theorem test_stroke :
    let s := State.reset.modInk .cyan fun k => { k with cart := .active, estimate := 60000000, running := true, phase := .uncredited, limit := 490, stroke := some 0 }
    let k := (after (.strokeComplete .cyan) s).inkOf .cyan
    k.estimate = 10000000 ∧ k.strokes = 1 ∧ k.level = 0 := by decide +kernel

/-- The full float synchronises a channel at its full mark (R94). -/
theorem test_full_float :
    let k := (after (.fullFloatAssert .cyan) State.reset).inkOf .cyan
    k.synced = true ∧ k.level = 22000000000 ∧ k.low = false := by decide +kernel

/-- SERVICE_NOW with CAP from an UNCAPPED station calls for the carriage; the carriage starts the cap step; the capped line ends it (R135, R136, R142). -/
theorem test_service_now :
    let s := withBody [(0, 1, 5), (1, 1, 1)] (after (.stationInitialCapState false) State.reset)
    let t := after (.serviceNow (trig 10 1)) s
    t.svc.station = .calling ∧ t.svc.asking = true ∧ (after (.carriageArrives) t).svc.station = .capping := by decide +kernel

/-- The capped line ends a cap step (R142); past its limit the station is in FAULT (R145). -/
theorem test_cap_step :
    let s := station fun v => { v with station := .capping, cap := .opened, steps := [.cap], cappedLine := Line.take false,
                                       queue := [{ req .cap .running with chans := ChanSet.empty }] }
    (after (.cappedLineActive) s).svc.station = .capped ∧ (after (.cappedLineActive) s).svc.queue = [] ∧ (after .capFault s).svc.station = .fault := by
  decide +kernel

/-- A thread ends when the platen line becomes active: the roll is ACTIVE (R162). -/
theorem test_thread :
    ((after (.platenMediaActive) (rollIn .threading (some (op .thread none)))).roll .a).st = .active := by decide +kernel

/-- An encoder pulse at the target ends a leading feed: the sheet is PRINTING and 1,000 µm longer (R164, R165). -/
theorem test_feed :
    let s := withSheet (sheetIn .leading) (rollIn .active (some { op .leading (some 0) with progress := 99 }))
    (after .feedEncoderPulse s).media.table.map (fun v => (v.st, v.fed)) = [(.printing, 1000)] := by decide +kernel

/-- A cut comes home: the sheet is DONE (R169). -/
theorem test_cut :
    let s := withSheet (sheetIn .cutting) (rollIn .active (some (op .cut (some 0))))
    (after (.cutterHomeActive) s).media.table.map Sheet.st = [.done] ∧ (after .cutterFault s).media.table.map Sheet.st = [.spoiled] ∧
      (after .cutterFault s).media.fault = true := by decide +kernel

/-- A link reset clears the slots and keeps the rolls (R17). -/
theorem test_link_reset :
    let t := after .linkReset (withSheet (sheetIn .pending) (rollIn .loaded none))
    (t.slot 3).st = .free ∧ t.media.table = [] ∧ (t.roll .a).st = .loaded ∧ t.events.recs.getLast?.map Event.kind = some .linkReset := by decide +kernel

/-! ### Witnesses: the clauses on timers, samples, whole requests, directives in the ring -/

/-- EmptyQueueStepIsOneMillisecond: each timer one count below the last count that its clause admits, and a part in which nothing runs. -/
theorem test_witness_timers :
    (let s := { State.reset with link := { State.reset.link with held := some 3, holdMs := 48 } }; s.link.held = some 3 ∧ s.link.holdMs + 1 < 50) ∧
    (let s := State.reset.modInk .yellow fun k => { k with stroke := some 248 }; (s.ink.get .yellow).stroke = some 248 ∧ 248 + 1 < 250) ∧
    (let s := station fun v => { v with station := .calling, callRunning := true, callMs := 9998 };
     s.svc.station = .calling ∧ s.svc.callRunning = true ∧ s.svc.callMs + 1 < 10000) ∧
    (∀ st ∈ [Station.capping, .uncapping], let s := station fun v => { v with station := st, motorMs := 1998 };
      (s.svc.station = .capping ∨ s.svc.station = .uncapping) ∧ s.svc.motorMs + 1 < 2000) ∧
    (let s := station fun v => { v with station := .wiping, motorMs := 2998 }; s.svc.station = .wiping ∧ s.svc.motorMs + 1 < 3000) ∧
    (let s := station fun v => { v with station := .suction, toSuck := [.cyan], motorMs := 7998 };
     s.svc.station = .suction ∧ s.svc.toSuck = .cyan :: [] ∧ s.svc.motorMs + 1 < (s.chanProf .cyan).suctionTime * 1000) ∧
    (let s := station fun v => { v with cap := .opened, decap := PerChan.of fun _ => { ms := 19998, expired := false, stale := false } };
     s.svc.cap = .opened ∧ (s.svc.decap.get .cyan).expired = false ∧ (s.svc.decap.get .cyan).ms + 1 < (s.chanProf .cyan).decapLimit * 1000) ∧
    (let s := station fun v => { v with station := .uncapped, idleMs := 119998 }; s.idleCounts = true ∧ s.svc.idleMs + 1 < s.prof.flow.idleCap * 1000) ∧
    (let s := rollIn .active (some { op .advance none with ms := 500 });
     s.media.op = some { op .advance none with ms := 500 } ∧ ({ op .advance none with ms := 500 } : MediaOp).ms + 1 < (op .advance none).limit) ∧
    (let s := { State.reset with link := { State.reset.link with silence := 4998 }, time := { State.reset.time with phase := 8 } };
     s.pending = [] ∧ s.agenda = [] ∧ s.link.state = .up ∧ s.link.silence < 4999 ∧ s.link.held = none ∧ s.starveCounts = false ∧
       (∀ c ∈ Chan.all, (s.ink.get c).stroke = none) ∧ s.svc.station = .capped ∧ s.svc.cap = .closed ∧ s.media.op = none ∧ s.time.phase < 9) := by
  decide +kernel

/-- EmptyQueueStepIsOneMillisecond: a line for each clause on a sample. -/
theorem test_witness_samples :
    Line.reset.pin = none ∧
    (let l : Line := { Line.take true with pin := some true }; l.pin = some true ∧ LineState.ofLevel true = l.filt) ∧
    (∀ n ∈ [0, 1, 2], ∀ b : Bool, let l : Line := { filt := .unknown, run := n, last := b, pin := some true };
      l.pin = some true ∧ LineState.ofLevel true ≠ l.filt ∧ ((l.run = 0 ∨ l.last ≠ true) ∨ l.run = n ∧ l.last = true)) := by decide +kernel

/-- RequestsPassAndEndLinkLoss: a request of 16 plain beats up to the end of the address space, one from the span base, a malformed FETCH read. -/
theorem test_witness_beats :
    (List.replicate 16 (beat []) ≠ [] ∧ ∀ k < 16, State.reset.classify ((0xFFFFFFFC00 : Addr).toNat + 64 * k) = .plain) ∧
    (0 : Addr).toNat = State.reset.spanBase ∧ NoReads State.reset := ⟨by decide +kernel, by decide +kernel, noReads_reset⟩

/-- SilenceWhileActiveLosesTheLink: each step that runs on, a call and a spit with a request behind the RUNNING one, an UNCAPPED station. -/
theorem test_witness_lost_station :
    (∀ st ∈ [Station.capping, .uncapping, .wiping, .suction, .calling, .spitting],
      let s := station fun v => { v with station := st, queue := [req .spit .running, req .wipe .queued] }
      s.link.state = .up ∧ s.active = true ∧ s.svc.station = st ∧ s.svc.stepEnd.outside = false ∧ s.svc.stepEnd.dropFlow = false ∧
        s.svc.queue = req .spit .running :: [req .wipe .queued] ∧ (req .spit .running).state = .running ∧ (req .wipe .queued).state ≠ .running) ∧
    (let s := (station fun v => { v with station := .uncapped, carriageLine := Line.take true }).modInk .cyan fun k => { k with running := true };
     s.link.state = .up ∧ s.active = true ∧ s.svc.station = .uncapped ∧ s.running? = none ∧ s.svc.carriageLine.filt = .active) := by decide +kernel

/-- A beat with an open and a commit word. -/
def openCommit (q : Nat) : WriteBeat := beat [(0, 8, 1), (8, 2, q)]

/-- OpenWordTaken: both words, with an open that is refused and with one that passes. -/
theorem test_witness_open_commit :
    (openCommit 0).hasOpen = true ∧ (openCommit 0).hasCommit = true ∧ (openCommit 0).commitSeq = 0 ∧
    (let s := slot3 fun k => { k with shadow := header 1 0 7 8 0 0x20000 };
     s.link.state = .up ∧ s.agenda = [] ∧ (s.slot 3).st = .free ∧ s.parser.lastAccepted ≠ some 0 ∧
       s.openError (s.slot 3).shadow = some (.noColumns, 0) ∧ byteAt (s.slot 3).shadow 0 = 1) ∧
    (let s := slot3 fun k => { k with shadow := header 1 1 7 8 0 0x20000 };
     (s.slot 3).st = .free ∧ s.openError (s.slot 3).shadow = none ∧ 0 = s.parser.expected ∧ s.sequenceStands 0 = false ∧
       sheetStartFlag (s.slot 3).shadow = true ∧ s.parser.openSheet = none ∧ s.media.table.length < 4 ∧
       (∀ v ∈ s.media.table, v.sid < s.media.nextSid)) := by decide +kernel

/-- The checks of that header pass. -/
theorem test_witness_open_commit_header : HeaderGood (header 1 1 7 8 0 0x20000) :=
  good_header 1 7 (by decide +kernel) (.inr (by decide +kernel)) (by decide +kernel)

/-- Slot 3 with a directive written to its first beat. -/
def directive3 (fs : List (Nat × Nat × Nat)) (f : Service → Service) : State :=
  (slot3 fun k => { k with shadow := record fs }).modSvc f

/-- The queue apart from every new CAP at a length: WIPEs that have started, under a RUNNING SPIT. -/
def apartQueue (n : Nat) (v : Service) : Service := { v with queue := req .spit .running :: List.replicate n { req .wipe .queued with started := true } }

/-- CommitAccepted: a directive of each kind on an empty list, in each of its cases, at the boundaries of its fields. -/
theorem test_witness_ring :
    (∀ fs ∈ [[(0, 1, 5), (4, 4, 77)], [(0, 1, 4), (1, 1, 0)], [(0, 1, 4), (1, 1, 6), (2, 1, 31)], [(0, 1, 2)]],
      let s := directive3 fs id
      s.link.state = .up ∧ s.agenda = [] ∧ s.parser.lastAccepted ≠ some (commitBeat 0).commitSeq ∧ (s.slot 3).takesCommit = true ∧
        (commitBeat 0).commitSeq = s.parser.expected ∧ s.parser.posted = [] ∧ s.parser.retired.length < 64) ∧
    (directive3 [(0, 1, 5), (4, 4, 77)] id |>.slot 3).commitKind = some .mark ∧
    (∀ l ∈ [0, 7], let h := record [(0, 1, 4), (1, 1, l)]; Level.ofCode? (byteAt h 1) = none) ∧
    (∀ m ∈ [0, 32], let h := record [(0, 1, 4), (1, 1, 5), (2, 1, m)]; Level.ofCode? (byteAt h 1) = some .cap ∧ (byteAt h 2 = 0 ∨ 31 < byteAt h 2)) ∧
    (∀ m ∈ [1, 31], let h := record [(0, 1, 4), (1, 1, 5), (2, 1, m)]; byteAt h 2 ≠ 0 ∧ byteAt h 2 ≤ 31) ∧
    ((directive3 [(0, 1, 4), (1, 1, 5), (2, 1, 31)] (apartQueue 6)).svc.queue.length < 8 ∧
      (directive3 [(0, 1, 4), (1, 1, 5), (2, 1, 31)] (apartQueue 7)).svc.queue.length = 8) ∧
    profileError (record [(0, 1, 2)]) = some 0 ∧
    profileError (record [(0, 1, 2), (2, 2, 1), (16, 1, 1), (17, 1, 1), (18, 1, 255), (19, 1, 1), (20, 2, 10000), (22, 2, 10000), (24, 2, 6000), (26, 2, 6000),
      (28, 1, 10), (29, 2, 5), (31, 1, 1), (32, 2, 0), (34, 1, 2), (35, 1, 1)]) = none := by decide +kernel

/-- CommitAccepted and ServiceNow: the queue of those lengths stands apart from a CAP. -/
theorem test_witness_apart : ∀ n ∈ [6, 7], (directive3 [] (apartQueue n)).apart .cap := by
  unfold State.apart
  decide +kernel

/-- CommitAccepted: no staged copy, and staged copies at the quiet point. -/
theorem test_witness_quiet :
    State.reset.prof.stagedMask = 0 ∧
    (let s := { State.reset with prof := { State.reset.prof with stagedFlow := some { FlowProfile.powerOn with wipeInterval := 7 } } };
     s.quietPoint = true ∧ s.prof.stagedMask ≠ 0 ∧ s.events.recs.length + 9 ≤ 32) := by decide +kernel

/-- FetchReadsThatDoNotCount: 16 beats of a RASTER read that touch no beat whose read has an effect, a status beat, a header beat. -/
theorem test_witness_class_reads :
    (∀ a ∈ [0x1C0, 0x8000, 0xFFFFFFFC00], ∀ k < 16,
      State.reset.classify (a + 64 * k) ≠ .event ∧ State.reset.classify (a + 64 * k) ≠ .retirement ∧ ∀ i, State.reset.classify (a + 64 * k) ≠ .exchange i) ∧
    State.reset.classify 0x1000 = .header 0 0 ∧ State.reset.classify 0x580 = .control 0x580 ∧ (State.reset.statusBeat? 0x580).isSome ∧
    State.reset.svc.queue.length ≤ 8 ∧ State.reset.shownSheet? = none ∧ (withSheet (sheetIn .printing) State.reset).shownSheet? = some (sheetIn .printing) := by
  decide +kernel

/-- Slot 3 at the last beat of its one window, in a PRINTING sheet: cancelled or not, with flags and an advance, 13 pL of cyan reserved. -/
def lastBeat3 (cancel : Option Reason) (flags adv : Nat) : State :=
  { withSheet (sheetIn .printing) (slot3 fun k =>
      { k with st := .firing, kind := some .swath, sheet := some 0, seq := some 4, cancel := cancel, need := k.need.set .cyan 13,
               shadow := header flags 1 7 8 adv 0x20000 }) with
    windows := [{ win3 with mark := 192 }], parser := { State.reset.parser with posted := [3] } }

/-- CountedBeatAdvancesTheMark: the last beat of a cancelled swath, of one that ends its sheet, of one with an advance. -/
theorem test_witness_last_beat :
    ∀ s ∈ [lastBeat3 (some .cancelled) 0 1000, lastBeat3 none 2 0, lastBeat3 none 0 1000],
      s.link.state = .up ∧ s.agenda = [] ∧ s.link.held = none ∧ s.link.waiting = [] ∧ s.link.stalled = [] ∧
        s.classify (0x200C0 : Addr).toNat = .plane { win3 with mark := 192 } ∧ (0x200C0 : Addr).toNat - win3.base = 192 ∧
        (s.slot 3).st = .firing ∧ s.counters.unplaced + (s.stageCompensate .cyan 192 (codesOf (zeroBeat.set 0 0xE4))).2 ≤ max32 ∧
        (∀ v ∈ s.windows, v.mark + 64 = v.len) ∧ s.parser.retired.length < 64 ∧ s.opMayStart = true ∧ s.sheetOfSlot 3 = some (sheetIn .printing) := by
  decide +kernel

/-- CountedBeatAdvancesTheMark: what those beats leave (R55, R71 to R73). -/
theorem test_last_beats :
    (after (.planeFetchRead .fetch 0x200C0 [zeroBeat.set 0 0xE4]) (lastBeat3 (some .cancelled) 0 1000)).parser.retired.map RetireEntry.outcome = [.cancelled] ∧
    (after (.planeFetchRead .fetch 0x200C0 [zeroBeat.set 0 0xE4]) (lastBeat3 (some .cancelled) 0 1000)).out.answers.map Answer.data = [zeroBeat] ∧
    (let t := after (.planeFetchRead .fetch 0x200C0 [zeroBeat.set 0 0xE4]) (lastBeat3 none 0 1000)
     (t.slot 3).st = .advancing ∧ (t.slot 3).capVolume.get .cyan = 11 ∧ (t.slot 3).capOverBudget = 1 ∧ t.media.op.map MediaOp.kind = some .advance) := by
  decide +kernel

/-- StrokeCompletes: a MEASURING run that counts, at its limit and one below it, and one that does not count yet, at the full mark and below it. -/
theorem test_witness_measuring :
    (∀ n ∈ [488, 489], let s := State.reset.modInk .cyan fun k =>
        { k with running := true, stroke := some 0, phase := .measuring, cal := .measuring, counting := true, measCount := n, limit := 490, estimate := 50000001 }
      let k := s.ink.get .cyan
      k.running = true ∧ k.stroke.isSome ∧ k.phase = .measuring ∧ k.counting = true ∧ k.measCount < 65535 ∧ 50000000 < k.estimate ∧ k.endAfter = false) ∧
    (∀ l ∈ [21950000000, 21949999999], let s := State.reset.modInk .cyan fun k =>
        { k with running := true, stroke := some 0, phase := .measuring, cal := .measuring, synced := true, level := l, estimate := 50000001 }
      let k := s.ink.get .cyan
      k.phase = .measuring ∧ k.counting = false ∧ k.synced = true ∧ k.cal = .measuring ∧
        (22000 * 1000000 ≤ min (k.level + 50000000) (24000 * 1000000) ∨ min (k.level + 50000000) (24000 * 1000000) < 22000 * 1000000)) := by decide +kernel

/-- ServiceNow: an opposed request, one that a PRIME absorbs, and a CAP entered where the queue stands apart. -/
theorem test_witness_gives_way :
    (let s := withBody [(0, 1, 5), (1, 1, 4)] (station fun v => { v with queue := [req .uncap .queued] });
     s.takesTrigger (trig 10 1) ∧ s.svc.queue = [req .uncap .queued] ∧ opposed .cap = some (req .uncap .queued).level) ∧
    (let s := withBody [(0, 1, 4), (1, 1, 4)] (station fun v => { v with queue := [req .spit .queued] });
     absorbs s.prof.flow.midSheetWipe .prime (req .spit .queued).level (req .spit .queued).flow = true ∧
       ∀ c, (req .spit .queued).chans.get c = true → (ChanSet.ofMask (byteAt s.mail.body 1)).get c = true) := by
  refine ⟨⟨⟨by decide +kernel, by decide +kernel⟩, rfl, rfl⟩, by decide +kernel, fun c => by cases c <;> decide +kernel⟩

/-- A full queue refuses a request that stands apart; one with room enters it at the tail (R133, R150). -/
theorem test_service_queue :
    (let s := withBody [(0, 1, 5), (1, 1, 4)] (station (apartQueue 7))
     let t := after (.serviceNow (trig 10 1)) s
     t.svc.queue = s.svc.queue ∧ t.mail.result = some .busy ∧ t.mail.detail = 8 ∧ t.events.recs.getLast?.map Event.kind = some .serviceQueueFull) ∧
    (let s := withBody [(0, 1, 5), (1, 1, 4)] (station (apartQueue 6))
     (after (.serviceNow (trig 10 1)) s).svc.queue.getLast? = some (req .cap .queued)) := by decide +kernel

/-- SpitAndSuction: a beat of a channel of the spit set and one of a channel that is not in it, while SPITTING. -/
theorem test_witness_spit_data :
    let s := station fun v => { v with station := .spitting, spit := { SpitWork.none with set := ChanSet.single .cyan } }
    s.svc.station = .spitting ∧ Chan.ofServiceOffset (64 * (11 : Fin 20).val) = .cyan ∧ s.svc.spit.set.get .cyan = true ∧
      (s.health.get .cyan).nozzles.length = 1024 ∧ Chan.ofServiceOffset (64 * (12 : Fin 20).val) = .magenta ∧ s.svc.spit.set.get .magenta = false := by
  decide +kernel

/-- A pin form changes the pin alone; the lines' becoming inactive is recorded (R130, R154, log 3). -/
theorem test_pins_and_lines :
    (∀ i ∈ [LineId.capped, .wiperHome, .rollEnd .b, .lowFloat .cyan], ∀ b : Bool,
      after (pinCommand i b) State.reset = State.reset.cleared.setLine i { State.reset.line i with pin := some b }) ∧
    (after (.wiperHomeActive false) State.reset).svc.wiperLine = Line.take false ∧
    (after (.openLineActive false) State.reset).svc.openLine = Line.take false ∧
    (after (.cutterHomeActive false) State.reset).media.cutterHome = Line.take false ∧
    (after (.cappedLineActive false) State.reset).svc.station = .uncapped := by decide +kernel

/-- A malformed read returns its data; a RASTER read of a status beat is an overlay (R1, R7). -/
theorem test_reads_pass :
    (after (.malformedRequest .read 1 1 .fetch [] [5]) State.reset).out.answers = [{ cls := .fetch, addr := 1, data := [5] }] ∧
    (after (.planeFetchRead .raster 0x540 [zeroBeat, zeroBeat]) State.reset).out.answers.map Answer.data =
      [State.reset.serviceBeat, State.reset.countersBeat] := by decide +kernel

/-! ### One event, one report; leaving LOST; complete responses -/

/-- GoWordReads: a request of the last header beat of slot 0 and its exchange beat, whose go word says WAIT. -/
theorem test_witness_kept_beat :
    Ready State.reset ∧ NoReads State.reset ∧ State.reset.classify (0x1080 : Addr).toNat = .header 0 2 ∧ State.reset.disposition 0 = .wait :=
  ⟨ready_reset, noReads_reset, by decide +kernel, by decide +kernel⟩

/-- The response of a FETCH read returns when it is complete (R3, R9); a link reset returns nothing of it (R16). -/
theorem test_complete_response :
    let s := after (.planeFetchRead .fetch 0x1080 [[7], [8]]) State.reset
    s.out.answers = [] ∧ s.link.held = some 0 ∧ s.link.gathered.map Answer.data = [[7]] ∧
      (after .goWordHoldExpiry s).out.answers.map Answer.data = [[7], State.reset.exchangeBeat 0] ∧ (after .goWordHoldExpiry s).link.gathered = [] ∧
      (after .linkReset s).out.answers = [] ∧ (after .linkReset s).link.gathered = [] := by decide +kernel

/-- The machine after reset, the link LOST, roll A ENDED on the platen and roll B LOADED: a clearing feed is due. -/
def lostEnded : State :=
  let s := (State.reset.modRoll .a fun k => { k with st := .ended, presentLine := Line.take true }).modRoll .b fun k => { k with st := .loaded }
  { s.modMedia fun m => { m with platen := Line.take true } with link := { s.link with state := .lost } }

/-- The request that ends LOST acts after what follows from leaving LOST: the clearing feed has started, and ROLL_UNLOAD is BUSY (R15, R155, R158). -/
theorem test_leaves_lost_first :
    let t := after (.rollUnload (trig 8 1)) (withBody [(0, 1, 1)] lostEnded)
    t.link.state = .up ∧ t.media.op.map MediaOp.kind = some .clearing ∧ t.mail.result = some .busy ∧ t.mail.detail = 0xFFFF ∧
      (t.roll .b).st = .loaded := by decide +kernel

/-- A refused SPIT is not offered again within the expiry that made it: SERVICE_QUEUE_FULL is posted once (R147). The next expiry offers it again. -/
theorem test_refused_spit_once :
    let s := station fun v => { v with queue := req .wipe .running :: (apartQueue 8 v).queue.drop 1, cap := .opened, station := .uncapped }
    let full := fun t : State => t.events.recs.countP fun e => e.kind == .serviceQueueFull
    let t := s.decapExpires .cyan
    full t = 1 ∧ t.svc.spitOwed.get .cyan = true ∧ full (t.decapExpires .magenta) = 3 := by decide +kernel

/-- Two swaths that one event releases are one ink report (R89); while the admitted count is 2 no event evaluates the front (R59). -/
theorem test_one_report :
    (State.reset.together fun s => (s.inkChanged (ChanSet.single .cyan)).inkChanged (ChanSet.single .magenta)).agenda.filter Reaction.reportsInk =
      [.inkReport ((ChanSet.single .cyan).union (ChanSet.single .magenta)) true] ∧
    (let s := (State.reset.modSlot 3 fun k => { k with st := .firing }).modSlot 4 fun k => { k with st := .admitted }
     (s.wake [.evalFront]).agenda = [] ∧
       (s.inkChanged (ChanSet.single .cyan)).agenda.filter Reaction.reportsInk = [.inkReport (ChanSet.single .cyan) false]) := by decide +kernel

/-- A directive that retires is no front: its retirement evaluates nothing (R59). -/
theorem test_directive_is_no_front :
    let s := { slot3 fun k => { k with st := .posted, kind := some .mark } with parser := { State.reset.parser with posted := [3] } }
    (s.retire 3 .done none 0).agenda.contains .evalFront = false := by decide +kernel

/-- GoWordDisposition: a POSTED directive at the head of the list while the station asks for the carriage says WAIT; a SWATH there says SERVICE (R65). -/
theorem test_directive_waits :
    ∀ k ∈ [SlotKind.mark, .swath],
      let s := { slot3 fun v => { v with st := .posted, kind := some k } with parser := { State.reset.parser with posted := [3] } }
      (s.modSvc fun v => { v with asking := true }).disposition 3 = if k = .swath then .service else .wait := by decide +kernel


/-- A suction that a LOST link ends after this channel: the debit of cyan and the release of yellow are one ink report (R89, R152). -/
theorem test_suction_one_report :
    let s := (((station fun v => { v with station := .suction, toSuck := [.cyan, .yellow], stepEnd := { StepEnd.normal with returns := true } }).modInk
      .cyan fun k => { k with level := 5000000000, reserved := 1200000000, servicePart := 1200000000 }).modInk
      .yellow fun k => { k with level := 5000000000, reserved := 1200000000, servicePart := 1200000000 })
    s.svc.station = .suction ∧ s.svc.toSuck = .cyan :: [.yellow] ∧ s.svc.stepEnd.returns = true ∧ s.svc.stepEnd.outside = false ∧
      s.suctionEnds.agenda.filter Reaction.reportsInk = [.inkReport ((ChanSet.single .cyan).union (ChanSet.single .yellow)) true] ∧
      (s.suctionEnds.inkOf .yellow).reserved = 0 := by decide +kernel

/-- The application of a channel section alone makes the Service Sequencer look for a request to start (R183 step 4). -/
theorem test_channel_section_walks :
    let s := State.reset.stageChan .cyan { State.reset.chanProf .cyan with primeVolume := 500 }
    s.prof.stagedFlow.isNone = true ∧ s.quietPoint = true ∧ s.quietTest.agenda.contains .walk = true ∧ (s.quietTest.chanProf .cyan).primeVolume = 500 := by
  decide +kernel

/-- LinkResetClearsTheFlowOfWork: a FIRING and an ADMITTED swath on cyan, a SPIT of cyan in progress, and a sheet of every state. -/
def resetCase : State :=
  let vol (n : Nat) : PerChan Nat := (PerChan.of fun _ => 0).set .cyan n
  let s := (slot3 fun k => { k with st := .firing, need := vol 100, tally := { Tally.zero with volume := vol 30 } }).modSlot 4 fun k =>
    { k with st := .admitted, need := vol 50 }
  let s := s.modInk .cyan fun k => { k with level := 900000, reserved := 450, servicePart := 300 }
  let s := s.modSvc fun v => { v with station := .spitting, cap := .opened, steps := [.spit], asking := true, queue := [req .spit .running],
                                      spit := { SpitWork.none with reserved := true, counted := vol 2 } }
  s.modMedia fun m => { m with table := [{ sheetIn .done with sid := 0 }, { sheetIn .printing with sid := 1 }, { sheetIn .pending with sid := 2 }] }

/-- A link reset debits, releases, abandons the spit, and spoils the sheet that has begun (R83, R153, R176). -/
theorem test_link_reset_case :
    let u := resetCase.linkResets
    let k := u.inkOf .cyan
    k.level = 900000 - 30 - 2 * (resetCase.chanProf .cyan).large ∧ k.reserved = 0 ∧ k.servicePart = 0 ∧
      u.svc.station = .uncapped ∧ u.svc.queue = [req .spit .queued] ∧ u.svc.steps = [] ∧ u.svc.asking = false ∧
      u.media.table.map (fun x => (x.sid, x.spoil, x.endCommitted)) = [(0, none, true), (1, some .linkReset, true)] ∧
      (let v := (station fun v => { v with station := .wiping, steps := [.wipe] }).linkResets.svc
       v.station = .wiping ∧ v.stepEnd = { StepEnd.normal with returns := true, dropFlow := true }) := by decide +kernel

/-- CallAndCarriage: a wipe that the loss of the link lets run, and one of a link reset; STATION_LOST is posted of the second alone (R152, R144). -/
theorem test_wipe_under_loss :
    ∀ cap ∈ [true, false],
      let s := station fun v => { v with station := .wiping, carriageLine := Line.take true, queue := [req .wipe .running],
                                         stepEnd := { StepEnd.normal with returns := true, capAfter := cap } }
      s.svc.carriageLine.filt ≠ .inactive ∧ s.running?.isSome = true ∧ s.agenda = [] ∧ s.svc.stepEnd.lostWipe = false ∧
        (after .stationLost s).svc.stepEnd.lostWipe = true ∧
        ((after .stationLost s).events.recs.any fun e => e.kind == .stationLost) = !cap := by decide +kernel

/-- A LIGHT that returns after its wipe: the report of the released ink comes before every evaluation of the front, and after the quiet point
(R89, R183). -/
theorem test_report_before_front :
    let s := ((station fun v => { v with station := .wiping, cap := .opened, queue := [req .light .running], steps := [.wipe, .spit],
                                         stepEnd := { StepEnd.normal with returns := true } }).modInk .cyan fun k =>
      { k with level := 900000, reserved := 300, servicePart := 300 })
    s.stepEnds.agenda.filter (fun r => r == .quiet || r.reportsInk || r.evaluatesFront) =
      [.quiet, .inkReport (ChanSet.single .cyan) true, .evalFront] := by decide +kernel

end Sys2Proof.Tests
end

/-! O3: the straps are sampled at a power-on reset (R4), and no other command and no millisecond changes the value sampled. What the reactions
of the blocks leave is `Keeps`, which names the straps; added here is what the effects of the commands themselves leave, block by block in the
order of the model. -/
namespace Sys2Proof.Machine

/-! ### The relation -/

/-- The straps of a state are those sampled in another. -/
def SameStraps (z s : State) : Prop := s.link.straps = z.link.straps

section
variable {z s t : State} (h : SameStraps z s)
include h

theorem SameStraps.keeps (k : Keeps s t) : SameStraps z t := k.straps.trans h
theorem SameStraps.quiet (q : Quiet s t) : SameStraps z t := h.keeps q.toKeeps
/-- A change that leaves the mediator as it is. -/
theorem SameStraps.frame (e : t.link = s.link) : SameStraps z t := (congrArg Link.straps e).trans h
theorem SameStraps.setMail (m : Mailbox) : SameStraps z { s with mail := m } := h

/-! ### Events and what follows from them -/

theorem settle_straps (n : Nat) : SameStraps z (settle n s) := h.keeps (settle_keeps n (.refl s))

/-- An event leaves the straps where its own effect does. -/
theorem State.event_straps {f : State → State} (hf : ∀ t, SameStraps z t → SameStraps z (f t)) : SameStraps z (s.event f) :=
  settle_straps (hf _ (h.frame (State.link_cleared s))) _

theorem runEvents_straps {fs : List (State → State)} (hf : ∀ f ∈ fs, ∀ t, SameStraps z t → SameStraps z (f t)) : SameStraps z (runEvents s fs) :=
  List.foldlRecOn (motive := SameStraps z) fs _ h fun t ht f hm => settle_straps (hf f hm t ht) _

theorem SameStraps.foldl {α : Type} {f : State → α → State} (hf : ∀ t a, SameStraps z t → SameStraps z (f t a)) (l : List α) :
    SameStraps z (l.foldl f s) :=
  List.foldlRecOn (motive := SameStraps z) l f h fun t ht a _ => hf t a ht

theorem State.together_straps {f : State → State} (hf : ∀ t, SameStraps z t → SameStraps z (f t)) : SameStraps z (s.together f) :=
  hf _ (h.frame rfl)

/-! ### Shared operations -/

theorem State.retire_straps (i : SlotIx) (o : SlotOutcome) (r : Option Reason) (d : Nat) : SameStraps z (s.retire i o r d) :=
  h.quiet (State.retire_quiet (.refl s) i o r d)
theorem State.rejectSwath_straps (i : SlotIx) (r : Reason) (d : Nat) : SameStraps z (s.rejectSwath i r d) :=
  h.quiet (State.rejectSwath_quiet (.refl s) i r d)
theorem State.spoil_straps (sid : Nat) (r : Reason) : SameStraps z (s.spoil sid r) := h.quiet (State.spoil_quiet (.refl s) sid r)
theorem State.becomeSpoiled_straps (t : Sheet) (cut : Bool) : SameStraps z (s.becomeSpoiled t cut) :=
  h.quiet (State.becomeSpoiled_quiet (.refl s) t cut)
theorem State.setRoll_straps (r : Roll) (st : RollState) : SameStraps z (s.setRoll r st) := h.quiet (State.setRoll_quiet (.refl s) r st)
theorem State.setStation_straps (st : Station) : SameStraps z (s.setStation st) := h.quiet (State.setStation_quiet (.refl s) st)
theorem State.stopRun_straps (c : Chan) : SameStraps z (s.stopRun c) := h.quiet (State.stopRun_quiet (.refl s) c)
theorem State.count_straps (i : CounterId) (n : Nat) : SameStraps z (s.count i n) := h.keeps (State.count_keeps (.refl s) i n)
theorem State.stir_straps : SameStraps z s.stir := h.frame (State.link_stir s)
theorem State.stirWalk_straps : SameStraps z s.stirWalk := h.frame (State.link_wake s _)

/-! ### The ink channels -/

theorem State.cartridgeEmpty_straps (c : Chan) (r : EmptyReason) : SameStraps z (s.cartridgeEmpty c r) := by
  unfold State.cartridgeEmpty
  exact State.stopRun_straps ((h.frame (State.link_modInk ..)).frame (State.link_post ..)) c

theorem State.afterStroke_straps (c : Chan) : SameStraps z (s.afterStroke c) := by
  unfold State.afterStroke
  extract_lets k u
  have hu : SameStraps z u := by
    unfold u
    split
    · exact h.frame (State.link_modInk ..)
    · exact h
  split
  · exact State.cartridgeEmpty_straps h c _
  · split
    · exact State.cartridgeEmpty_straps h c _
    · split
      · exact State.stopRun_straps hu c
      · exact hu.frame (State.link_modInk ..)

theorem State.strokeEnds_straps (c : Chan) : SameStraps z (s.strokeEnds c) := by
  unfold State.strokeEnds
  extract_lets k u v
  have hu : SameStraps z u := h.frame (State.link_modInk ..)
  have hv : SameStraps z v := by
    unfold v
    split
    · exact hu.quiet (State.inkChanged_quiet (State.evalLow_quiet (.refl u) c) _)
    · exact hu
  split
  · exact State.stir_straps (State.afterStroke_straps hv c)
  · exact h

theorem State.fullFloatChanged_straps (c : Chan) (old : LineState) : SameStraps z (s.fullFloatChanged c old) := by
  unfold State.fullFloatChanged State.fullFloatAsserts
  extract_lets mark u
  have hu : SameStraps z u := by
    unfold u
    split
    · exact h.quiet (State.resyncTo_quiet (.refl s) c mark true)
    · exact h.frame rfl
  split
  · exact hu.quiet (State.inkChanged_quiet (State.evalLow_quiet (State.stopRun_quiet (State.takeMeasurement_quiet (.refl u) c) c) c) _)
  · exact State.stir_straps h

theorem State.presenceChanged_straps (c : Chan) : SameStraps z (s.presenceChanged c) := by
  unfold State.presenceChanged
  extract_lets k
  split
  · split
    · exact h.frame (by simp)
    · exact h
  · split
    · exact h
    · exact State.stir_straps ((State.stopRun_straps (h.frame (State.link_modInk ..)) c).frame (State.link_post ..))

/-! ### The media operations -/

theorem State.opStalls_straps (o : MediaOp) : SameStraps z (s.opStalls o) := by
  unfold State.opStalls
  extract_lets u v w x
  have hu : SameStraps z u := h.quiet (State.endOp_quiet (.refl s)).post
  have hv : SameStraps z v := hu.frame (State.link_modMedia ..)
  have hw : SameStraps z w := hv.quiet (State.addFed_quiet (.refl v) o _)
  have hx : SameStraps z x := by
    unfold x
    split
    · exact State.spoil_straps hw _ _
    · exact hw
  split
  · split
    · exact hx.quiet (State.advanceEnds_quiet (.refl x) o _)
    · split
      · split
        · exact hx.quiet (State.toCutting_quiet (.refl x) _)
        · exact hx
      · exact hx
    · exact hx
  · exact State.stir_straps hv

theorem State.cutFails_straps (o : MediaOp) : SameStraps z (s.cutFails o) := by
  unfold State.cutFails
  extract_lets sheet u v
  have hu : SameStraps z u := h.quiet (State.endOp_quiet (.refl s)).post
  have hv : SameStraps z v := hu.frame (State.link_modMedia ..)
  split
  · extract_lets w
    have hw : SameStraps z w := State.spoil_straps hv _ _
    split
    · exact State.becomeSpoiled_straps hw _ _
    · exact hw
  · exact hv

theorem State.opLimit_straps (o : MediaOp) : SameStraps z (s.opLimit o) := by
  unfold State.opLimit
  split
  · exact State.cutFails_straps h o
  · exact State.opStalls_straps h o

/-! ### Job slots -/

theorem State.protocolFault_straps (i : SlotIx) (f : ProtocolFault) (d : Nat) : SameStraps z (s.protocolFault i f d) := h.frame rfl

theorem State.openSlot_straps (i : SlotIx) : SameStraps z (s.openSlot i) := by
  unfold State.openSlot
  split
  · split <;> exact h.frame rfl
  · exact State.protocolFault_straps h i _ _

theorem State.rejectCommit_straps (i : SlotIx) (q : Seq) (r : Reason) (d : Nat) : SameStraps z (s.rejectCommit i q r d) := by
  unfold State.rejectCommit
  extract_lets swath u
  have hu : SameStraps z u := h.frame (State.link_modSlot ..)
  split
  · exact State.rejectSwath_straps hu i r d
  · exact State.retire_straps hu i _ _ d

theorem State.joinSheet_straps (i : SlotIx) (b : List Byte) (q : Seq) : SameStraps z (s.joinSheet i b q) := by
  unfold State.joinSheet
  split
  · exact h.frame rfl
  · split <;> exact h.frame rfl

theorem State.closeSheet_straps (b : List Byte) : SameStraps z (s.closeSheet b) := by
  unfold State.closeSheet
  split
  · split <;> exact h.frame rfl
  · exact h

theorem State.postSlot_straps (i : SlotIx) : SameStraps z (s.postSlot i) := by
  unfold State.postSlot
  extract_lets u v
  split <;> exact h.frame rfl

theorem State.acceptCommit_straps (i : SlotIx) (q : Seq) : SameStraps z (s.acceptCommit i q) := by
  unfold State.acceptCommit
  extract_lets b swath u v
  have hu : SameStraps z u := h.frame rfl
  have hv : SameStraps z v := State.closeSheet_straps (State.joinSheet_straps hu i b q) b
  split
  · split
    · exact State.retire_straps hv i _ _ _
    · exact State.stir_straps (State.postSlot_straps hv i)
  · exact State.stir_straps (State.postSlot_straps hu i)

theorem State.sheetChecks_straps (i : SlotIx) (q : Seq) : SameStraps z (s.sheetChecks i q) := by
  have hq : SameStraps z (s.takeSequence q) := h.frame (State.link_takeSequence s q)
  unfold State.sheetChecks
  extract_lets b
  split
  · exact State.rejectCommit_straps hq i q _ _
  · exact State.rejectCommit_straps hq i q _ _
  · split
    · exact State.rejectCommit_straps hq i q _ _
    · exact State.acceptCommit_straps h i q
  · split
    · exact h.frame rfl
    · exact State.acceptCommit_straps h i q

theorem State.contentChecks_straps (i : SlotIx) (q : Seq) : SameStraps z (s.contentChecks i q) := by
  have hq : SameStraps z (s.takeSequence q) := h.frame (State.link_takeSequence s q)
  unfold State.contentChecks
  extract_lets k
  split
  · exact State.rejectCommit_straps hq i q _ _
  · split
    · exact State.rejectCommit_straps hq i q _ _
    · exact State.sheetChecks_straps h i q
  · exact State.acceptCommit_straps h i q

theorem State.sequenceChecks_straps (i : SlotIx) (q : Seq) : SameStraps z (s.sequenceChecks i q) := by
  unfold State.sequenceChecks
  extract_lets e
  split
  · exact State.rejectCommit_straps h i q _ _
  · split
    · exact h.frame rfl
    · exact State.contentChecks_straps h i q

theorem State.commitSlot_straps (i : SlotIx) (q : Seq) : SameStraps z (s.commitSlot i q) := by
  unfold State.commitSlot
  split
  · exact h
  · split
    · exact State.sequenceChecks_straps h i q
    · exact State.protocolFault_straps h i _ _

theorem State.exchangeWrite_straps (i : SlotIx) (w : WriteBeat) : SameStraps z (s.exchangeWrite i w) := by
  unfold State.exchangeWrite
  extract_lets u
  have hu : SameStraps z u := by
    unfold u
    split
    · exact State.openSlot_straps h i
    · exact h
  split
  · exact State.commitSlot_straps hu i _
  · split
    · exact State.protocolFault_straps hu i _ _
    · exact hu

/-! ### Plane beats -/

theorem State.lateWriteFiring_straps (i : SlotIx) (c : Chan) (o : Nat) : SameStraps z (s.lateWriteFiring i c o) := by
  unfold State.lateWriteFiring
  extract_lets k u
  have hu : SameStraps z u := State.count_straps h _ _
  split
  · exact hu
  · exact hu.frame rfl

theorem State.planeBeatWrite_straps (win : Window) (o : Nat) (w : WriteBeat) : SameStraps z (s.planeBeatWrite win o w) := by
  unfold State.planeBeatWrite
  extract_lets i
  have rejected : SameStraps z ((s.rejectSwath i .lateWrite win.chan.num).count .lateWrites 1) :=
    State.count_straps (State.rejectSwath_straps h i _ _) _ _
  split
  · exact h
  · split
    · exact h.frame (State.link_modSlot ..)
    · exact rejected
    · exact rejected
    · exact rejected
    · exact State.lateWriteFiring_straps h i _ o
    · exact State.lateWriteFiring_straps h i _ o
    · exact h

/-! ### Immediate directives -/

theorem State.doPause_straps : SameStraps z s.doPause.after := by
  unfold State.doPause
  dsimp only
  split
  · exact h
  · exact h.frame (by simp [State.setPause])

theorem State.doResume_straps : SameStraps z s.doResume.after := by
  unfold State.doResume
  dsimp only
  split
  · exact h.frame (by simp)
  · exact h

theorem State.doCancelSheet_straps : SameStraps z s.doCancelSheet.after := by
  unfold State.doCancelSheet
  split
  · exact State.spoil_straps h _ _
  · exact h

theorem State.cancelEntry_straps (i : SlotIx) : SameStraps z (s.cancelEntry i) := by
  unfold State.cancelEntry
  split <;> exact State.retire_straps h i _ _ _

theorem State.cancelEntries_straps : SameStraps z s.cancelEntries := by
  unfold State.cancelEntries
  extract_lets u
  have hu : SameStraps z u := by
    unfold u
    split
    · exact State.spoil_straps h _ _
    · exact h
  exact hu.foldl (fun t i ht => State.cancelEntry_straps ht i) _

theorem State.doCancelAll_straps : SameStraps z s.doCancelAll.after := by
  have hc : SameStraps z (s.together State.cancelEntries) := State.together_straps h fun _ => State.cancelEntries_straps
  exact State.stir_straps (hc.frame rfl)

theorem State.doCartridge_straps (b : List Byte) : SameStraps z (s.doCartridge b).after := by
  unfold State.doCartridge
  split
  · exact h
  · split
    · exact h
    · split
      · exact State.stir_straps (h.frame (State.link_modInk ..))
      · exact h

theorem State.doCalibrate_straps (b : List Byte) : SameStraps z (s.doCalibrate b).after := by
  unfold State.doCalibrate
  split
  · exact h
  · split
    · exact h
    · exact h
    · exact h.frame rfl

theorem State.putMedia_straps (r : Roll) (p : MediaProfile) : SameStraps z (s.putMedia r p) := by
  cases r <;> exact h.frame rfl

theorem State.stageDeclared_straps (r : Roll) (p : MediaProfile) : SameStraps z (s.stageDeclared r p) := by
  cases r <;> exact h.frame rfl

theorem State.declareLength_straps (r : Roll) (n : Option Nat) : SameStraps z (s.declareLength r n) :=
  State.stir_straps ((h.frame (State.link_modRoll ..)).quiet (State.rollLowTest_quiet (.refl _) r))

theorem State.doRollLoaded_straps (b : List Byte) : SameStraps z (s.doRollLoaded b).after := by
  have loads (r : Roll) (p : MediaProfile) (n : Option Nat) : SameStraps z (((s.setRoll r .loaded).putMedia r p).declareLength r n) :=
    State.declareLength_straps (State.putMedia_straps (State.setRoll_straps h r _) r p) r n
  unfold State.doRollLoaded
  split
  · exact h
  · split
    · exact h
    · extract_lets p
      split
      · exact h
      · exact loads _ p _
      · exact loads _ p _
      · split
        · exact State.declareLength_straps (State.stageDeclared_straps h _ p) _ _
        · exact State.declareLength_straps (State.putMedia_straps h _ p) _ _
      · exact h

theorem State.doRollUnload_straps (b : List Byte) : SameStraps z (s.doRollUnload b).after := by
  unfold State.doRollUnload
  split
  · exact h
  · split
    · exact h
    · split
      · exact (State.setRoll_straps h _ _).frame (State.link_modRoll ..)
      · split
        · exact h
        · exact h.quiet (State.beginRewind_quiet (.refl s) _ _ _)
      · exact h

theorem State.resetRoll_straps (r : Roll) : SameStraps z (s.resetRoll r) := by
  unfold State.resetRoll
  split
  · split
    · exact h
    · exact State.setRoll_straps h r _
  · split
    · exact h.quiet (State.rollOut_quiet (.refl s) r)
    · exact State.setRoll_straps h r _

theorem State.resetSpoiled_straps : SameStraps z s.resetSpoiled := by
  unfold State.resetSpoiled
  split
  · split
    · exact h
    · exact State.becomeSpoiled_straps (h.quiet (State.dropDue_quiet (.refl s) _)) _ _
  · exact h

theorem State.doMediaReset_straps : SameStraps z s.doMediaReset.after := by
  unfold State.doMediaReset
  split
  · extract_lets r u v
    have hu : SameStraps z u := by
      unfold u
      cases r with
      | some r => exact State.resetRoll_straps h r
      | none => exact h
    exact State.stir_straps (State.resetSpoiled_straps (hu.frame (State.link_modMedia ..)))
  · exact h

theorem State.doServiceNow_straps (b : List Byte) : SameStraps z (s.doServiceNow b).after := by
  unfold State.doServiceNow
  split
  · exact h
  · split
    · exact h
    · split <;> exact h.quiet (State.offer_quiet_of (by assumption) (.refl s))

theorem State.flushQueue_straps : SameStraps z s.flushQueue := by
  unfold State.flushQueue
  extract_lets q u
  have hu : SameStraps z u := h.frame (State.link_modSvc ..)
  exact State.stir_straps ((hu.foldl (fun t r ht => ht.quiet (State.cleaningLeft_quiet (.refl t) r.level r.chans)) q).frame (State.link_wake ..))

theorem State.leaveFault_straps : SameStraps z s.leaveFault := by
  unfold State.leaveFault
  split
  · exact State.setStation_straps (h.quiet (State.capCloses_quiet (.refl s))) _
  · exact State.setStation_straps (h.frame (State.link_modSvc ..)) _

theorem State.doServiceReset_straps (b : List Byte) : SameStraps z (s.doServiceReset b).after := by
  unfold State.doServiceReset
  split
  · extract_lets u v
    have hu : SameStraps z u := State.leaveFault_straps h
    have hv : SameStraps z v := by
      unfold v
      split
      · exact hu
      · exact State.flushQueue_straps hu
    exact State.stirWalk_straps hv
  · exact h

theorem State.doHeadReplaced_straps (b : List Byte) : SameStraps z (s.doHeadReplaced b).after := by
  unfold State.doHeadReplaced
  split
  · exact h.quiet (State.replaceHeads_quiet (.refl s) _)
  · exact h

theorem State.doRelease_straps (b : List Byte) : SameStraps z (s.doRelease b).after := by
  unfold State.doRelease
  split
  · extract_lets i
    split
    · exact h.frame rfl
    · exact h
  · exact h

theorem State.doSetMasks_straps (b : List Byte) : SameStraps z (s.doSetMasks b).after := by
  unfold State.doSetMasks
  split
  · exact h
  · split
    · exact h
    · exact h.frame rfl

theorem State.doCountersClear_straps : SameStraps z s.doCountersClear.after := h.frame rfl

/-- No directive changes the straps, whichever its kind code names. -/
theorem runDirective_straps (k : Nat) : SameStraps z (runDirective k s).after := by
  unfold runDirective
  extract_lets b
  split
  · exact State.doPause_straps h
  · exact State.doResume_straps h
  · exact State.doCancelSheet_straps h
  · exact State.doCancelAll_straps h
  · exact State.doCartridge_straps h b
  · exact State.doCalibrate_straps h b
  · exact State.doRollLoaded_straps h b
  · exact State.doRollUnload_straps h b
  · exact State.doMediaReset_straps h
  · exact State.doServiceNow_straps h b
  · exact State.doServiceReset_straps h b
  · exact State.doHeadReplaced_straps h b
  · exact State.doRelease_straps h b
  · exact State.doSetMasks_straps h b
  · exact State.doCountersClear_straps h
  · exact h

/-- A trigger leaves the straps where its directive does. -/
theorem State.trigger_straps (k : Nat) (w : WriteBeat) {run : State → Taken} (hr : ∀ t, SameStraps z t → SameStraps z (run t).after) :
    SameStraps z (s.trigger k w run) := by
  unfold State.trigger
  split
  · exact h
  · split
    · exact h
    · extract_lets m t
      have ht : SameStraps z t.after := hr _ (h.setMail m)
      exact ht.frame (State.link_putResult ..)

/-! ### Requests -/

theorem State.arrived_straps : SameStraps z s.arrived := h.keeps (State.arrived_keeps (.refl s))

/-- A request that arrives and is forwarded. -/
theorem State.forwarded_straps (f : Forward) : SameStraps z (s.arrived.forward f) := (State.arrived_straps h).frame (State.link_forward ..)

end

/-- What a write beat can teach the part (table of R6): one of the five rows, or nothing. The definition is unfolded as a function and not at its
arguments, for there the kernel would work out the class of the beat. -/
theorem State.learnWrite_cases {P : State → Prop} (s : State) (a : Nat) (w : WriteBeat) (nothing : P s) (body : ∀ o, P (s.bodyWrite o w))
    (trigger : P (s.trigger (w.byte 0) w (runDirective (w.byte 0)))) (header : ∀ i o, P (s.modSlot i fun k => k.headerWrite o w))
    (exchange : ∀ i, P (s.exchangeWrite i w)) (plane : ∀ win o, P (s.planeBeatWrite win o w)) : P (s.learnWrite a w) := by
  generalize hf : State.learnWrite = f
  delta State.learnWrite at hf
  subst hf
  dsimp only
  generalize s.classify a = k
  cases k with
  | body k => exact body _
  | trigger => exact trigger
  | header i k => exact header i _
  | exchange i => exact exchange i
  | plane win => exact plane win _
  | event | retirement | control | service | plain => exact nothing

/-- What a RASTER or GENERAL read beat is answered with (R7): the go word, the event beat, the retirement beat, or other data. -/
theorem State.answerRead_cases {P : State → Prop} (s : State) (cls : ReqClass) (a : Nat) (mem : List Byte) (goWord : ∀ i, P (s.answerGoWord cls i))
    (event : P (s.answerEvent cls)) (retirement : P (s.answerRetirement cls)) (other : ∀ d, P (s.answer cls a d)) :
    P (s.answerRead cls a mem) := by
  generalize hf : State.answerRead = f
  delta State.answerRead at hf
  subst hf
  dsimp only
  generalize s.classify a = k
  cases k with
  | exchange i => exact goWord i
  | event => exact event
  | retirement => exact retirement
  | body | trigger | control | header | service | plane | plain => exact other _

section
variable {z s : State} (h : SameStraps z s)
include h

theorem State.learnWrite_straps (a : Nat) (w : WriteBeat) : SameStraps z (s.learnWrite a w) :=
  State.learnWrite_cases s a w h (fun _ => h.frame (State.link_bodyWrite ..)) (State.trigger_straps h _ w fun _ ht => runDirective_straps ht _)
    (fun _ _ => h.frame (State.link_modSlot ..)) (fun i => State.exchangeWrite_straps h i w) (fun win o => State.planeBeatWrite_straps h win o w)

theorem State.writeFirst_straps (a : Nat) (ws : List WriteBeat) : SameStraps z (s.writeFirst a ws) := by
  have hf : SameStraps z (s.forward (.write a ws)) := h.frame (State.link_forward ..)
  cases ws with
  | nil => exact hf
  | cons w ws => exact State.learnWrite_straps hf a w

omit h in
theorem laterWrites_straps (a : Nat) (ws : List WriteBeat) : ∀ f ∈ laterWrites a ws, ∀ t, SameStraps z t → SameStraps z (f t) := by
  induction ws generalizing a with
  | nil => exact fun _ hm => absurd hm List.not_mem_nil
  | cons w ws ih => exact List.forall_mem_cons.2 ⟨fun t ht => State.learnWrite_straps ht a w, ih (a + 64)⟩

theorem State.fetchRead_straps (r : State → FetchReq) : SameStraps z (s.fetchRead r) := by
  unfold State.fetchRead
  split
  · exact h.keeps (State.acceptFetch_keeps (State.arrived_keeps (.refl s)) _)
  · exact h

theorem State.answer_straps (cls : ReqClass) (a : Nat) (d : List Byte) : SameStraps z (s.answer cls a d) := h.keeps (State.answer_keeps (.refl s) cls a d)
theorem State.answerGoWord_straps (cls : ReqClass) (i : SlotIx) : SameStraps z (s.answerGoWord cls i) :=
  h.quiet (State.answerGoWord_quiet (.refl s) cls i)
theorem State.answerEvent_straps (cls : ReqClass) : SameStraps z (s.answerEvent cls) := h.keeps (State.answerEvent_keeps (.refl s) cls)
theorem State.answerRetirement_straps (cls : ReqClass) : SameStraps z (s.answerRetirement cls) := h.keeps (State.answerRetirement_keeps (.refl s) cls)

theorem State.answerRead_straps (cls : ReqClass) (a : Nat) (mem : List Byte) : SameStraps z (s.answerRead cls a mem) :=
  State.answerRead_cases s cls a mem (State.answerGoWord_straps h cls) (State.answerEvent_straps h cls) (State.answerRetirement_straps h cls)
    (State.answer_straps h cls a)

omit h in
theorem State.answerReads_straps (cls : ReqClass) (a : Nat) (mems : List (List Byte)) (h : SameStraps z s) :
    SameStraps z (s.answerReads cls a mems) := by
  induction mems generalizing s a with
  | nil => exact h
  | cons mem mems ih => exact ih _ (State.answerRead_straps h cls a mem)

theorem State.malformed_straps (dir : Direction) (a n : Nat) (cls : ReqClass) (data : List WriteBeat) (mem : List Byte) :
    SameStraps z (s.malformed dir a n cls data mem) := by
  unfold State.malformed
  extract_lets f
  split
  · exact State.forwarded_straps h f
  · exact State.fetchRead_straps h _
  · exact State.answer_straps (State.forwarded_straps h f) _ a mem

theorem State.holdExpires_straps : SameStraps z s.holdExpires := by
  unfold State.holdExpires
  split
  · exact State.count_straps (h.quiet (State.answerHeld_quiet (.refl s) _)) _ _
  · exact h

/-! ### Link loss and link reset -/

theorem State.lostNow_straps : SameStraps z s.lostNow := by
  unfold State.lostNow
  split
  · exact SameStraps.quiet (s := { s with link := { s.link with silence := silenceLimit } }) h (State.enterLost_quiet (.refl _) rfl)
  · exact h

theorem State.resetSlotInk_straps (i : SlotIx) : SameStraps z (s.resetSlotInk i) := by
  unfold State.resetSlotInk
  extract_lets k
  split
  · exact h.quiet (State.swathDebit_quiet (.refl s) _ _)
  · exact h.quiet (State.releaseNeed_quiet (.refl s) _)
  · exact h

omit h in
@[simp] theorem State.link_clearFlow (s : State) : s.clearFlow.link = s.link := rfl

theorem State.mediaReset_straps : SameStraps z s.mediaReset := by
  unfold State.mediaReset
  extract_lets u v
  have hu : SameStraps z u := h.foldl (fun t sid ht => State.spoil_straps ht sid .linkReset) _
  have hv : SameStraps z v := hu.frame rfl
  split
  · split
    · exact hv.frame (State.link_modMedia ..)
    · exact hv
  · exact hv

theorem State.linkResetSteps_straps : SameStraps z s.linkResetSteps := by
  unfold State.linkResetSteps
  extract_lets lost boundary p l ink flow m
  have hl : SameStraps z l := h
  have hink : SameStraps z ink := hl.foldl (fun t i ht => State.resetSlotInk_straps ht i) _
  have hclear : SameStraps z ink.clearFlow := hink.frame (State.link_clearFlow ink)
  have hflow : SameStraps z flow := State.mediaReset_straps (hclear.quiet (State.serviceReset_quiet (.refl _)))
  have hm : SameStraps z m := hflow.setMail _
  split
  · exact State.stirWalk_straps hm
  · split
    · exact State.stir_straps hm
    · exact hm.frame (State.link_wake ..)

theorem State.linkResets_straps : SameStraps z s.linkResets := State.together_straps h fun _ ht => State.linkResetSteps_straps ht

/-! ### Sensor lines -/

omit h in
@[simp] theorem State.link_setLine (s : State) (i : LineId) (l : Line) : (s.setLine i l).link = s.link := by
  cases i <;> simp [State.setLine]

theorem State.setLine_straps (i : LineId) (l : Line) : SameStraps z (s.setLine i l) := h.frame (State.link_setLine s i l)

theorem State.lineChanged_straps (i : LineId) (old : LineState) : SameStraps z (s.lineChanged i old) := by
  cases i with
  | lowFloat c => exact h.quiet (State.lowFloatChanged_quiet (.refl s) c old)
  | fullFloat c => exact State.fullFloatChanged_straps h c old
  | presence c => exact State.presenceChanged_straps h c
  | capped => exact h.quiet (State.cappedChanged_quiet (.refl s) old)
  | openLine => exact h.quiet (State.openChanged_quiet (.refl s))
  | wiperHome => exact h.quiet (State.wiperChanged_quiet (.refl s) old)
  | carriage => exact h.quiet (State.carriageChanged_quiet (.refl s))
  | rollPresent r => exact h.quiet (State.rollPresentChanged_quiet (.refl s) r)
  | rollEnd r => exact h.quiet (State.rollEndChanged_quiet (.refl s) r)
  | feedPath => exact h.quiet (State.feedPathChanged_quiet (.refl s))
  | platen => exact h.quiet (State.platenChanged_quiet (.refl s))
  | cutterHome => exact h.quiet (State.cutterChanged_quiet (.refl s) old)

theorem State.lineCommand_straps (i : LineId) (b : Bool) : SameStraps z (s.lineCommand i b) := by
  unfold State.lineCommand
  extract_lets old u
  have hu : SameStraps z u := State.setLine_straps h i _
  split
  · exact hu
  · exact State.lineChanged_straps hu i old

theorem State.returnCommand_straps (i : LineId) : SameStraps z (s.returnCommand i) := State.lineChanged_straps (State.setLine_straps h i _) i _

theorem State.lineInput_straps (i : LineId) (b : Bool) (how : LineInput) : SameStraps z (s.lineInput i b how) := by
  cases how with
  | filtered => exact State.lineCommand_straps h i b
  | pin => exact State.setLine_straps h i _

theorem State.returnInput_straps (i : LineId) (b : Bool) (how : LineInput) : SameStraps z (s.returnInput i b how) := by
  cases how with
  | filtered =>
    cases b with
    | true => exact State.returnCommand_straps h i
    | false => exact State.lineCommand_straps h i false
  | pin => exact State.setLine_straps h i _

theorem State.impliedInactive_straps (i : LineId) : SameStraps z (s.impliedInactive i) := by
  unfold State.impliedInactive
  split
  · exact State.setLine_straps h i _
  · exact h

theorem State.sampleLine_straps (i : LineId) : SameStraps z (s.sampleLine i) := by
  unfold State.sampleLine
  extract_lets l l' u
  have hu : SameStraps z u := State.setLine_straps h i l'
  split
  · exact hu
  · exact State.lineChanged_straps hu i _

theorem State.cappedActive_straps : SameStraps z s.cappedActive := by
  unfold State.cappedActive
  extract_lets u
  have hu : SameStraps z u := State.impliedInactive_straps h _
  split
  · exact State.lineCommand_straps hu _ _
  · exact State.returnCommand_straps hu _

theorem State.pathFilled_straps : SameStraps z s.pathFilled := by
  unfold State.pathFilled
  split
  · split
    · exact State.impliedInactive_straps h _
    · exact h
  · exact h

/-! ### Expiries -/

theorem State.starvedNow_straps : SameStraps z s.starvedNow := by
  unfold State.starvedNow
  split
  · split
    · exact h.quiet (State.starveAct_quiet ((Quiet.refl s).setFlow (a := { s.flow with starveMs := max s.flow.starveMs s.starveLimitMs }) rfl) _ _)
    · exact h
  · exact h

theorem State.stallNow_straps : SameStraps z s.stallNow := by
  unfold State.stallNow
  split
  · split
    · exact h
    · exact State.opStalls_straps h _
  · exact h

theorem State.cutFaultNow_straps : SameStraps z s.cutFaultNow := by
  unfold State.cutFaultNow
  split
  · split
    · exact State.cutFails_straps h _
    · exact h
  · exact h

theorem State.callTimesOut_straps : SameStraps z s.callTimesOut := h.quiet (State.callTimesOut_quiet (.refl s))
theorem State.capFails_straps : SameStraps z s.capFails := h.quiet (State.capFails_quiet (.refl s))
theorem State.wiperFails_straps : SameStraps z s.wiperFails := h.quiet (State.wiperFails_quiet (.refl s))
theorem State.suctionEnds_straps : SameStraps z s.suctionEnds := h.quiet (State.suctionEnds_quiet (.refl s))
theorem State.decapExpires_straps (c : Chan) : SameStraps z (s.decapExpires c) := h.quiet (State.decapExpires_quiet (.refl s) c)
theorem State.idleExpires_straps : SameStraps z s.idleExpires := h.quiet (State.idleExpires_quiet (.refl s))

/-! ### One millisecond -/

theorem State.tickHold_straps : SameStraps z s.tickHold := by
  unfold State.tickHold
  split
  · extract_lets n l u
    have hu : SameStraps z u := h
    split
    · exact State.holdExpires_straps hu
    · exact hu
  · exact h

theorem State.tickStarve_straps : SameStraps z s.tickStarve := by
  unfold State.tickStarve
  split
  · exact h.frame rfl
  · exact h

theorem State.tickStroke_straps (c : Chan) : SameStraps z (s.tickStroke c) := by
  unfold State.tickStroke
  split
  · extract_lets u
    have hu : SameStraps z u := h.frame (State.link_modInk ..)
    split
    · exact State.strokeEnds_straps hu c
    · exact hu
  · exact h

theorem State.tickCall_straps : SameStraps z s.tickCall := by
  unfold State.tickCall
  split
  · extract_lets u
    have hu : SameStraps z u := h.frame (State.link_modSvc ..)
    split
    · exact State.callTimesOut_straps hu
    · exact hu
  · exact h

theorem State.tickMotor_straps : SameStraps z s.tickMotor := by
  unfold State.tickMotor
  split
  · extract_lets u
    have hu : SameStraps z u := h.frame (State.link_modSvc ..)
    have cap : SameStraps z (if capLimit ≤ u.svc.motorMs then u.capFails else u) := by
      split
      · exact State.capFails_straps hu
      · exact hu
    split
    · exact cap
    · exact cap
    · split
      · exact State.wiperFails_straps hu
      · exact hu
    · split
      · exact State.suctionEnds_straps hu
      · exact hu
    · exact hu
  · exact h

theorem State.tickDecap_straps (c : Chan) : SameStraps z (s.tickDecap c) := by
  unfold State.tickDecap
  split
  · extract_lets n u
    have hu : SameStraps z u := h.frame (State.link_modSvc ..)
    split
    · exact State.decapExpires_straps hu c
    · exact hu
  · exact h

theorem State.tickIdle_straps : SameStraps z s.tickIdle := by
  unfold State.tickIdle
  split
  · extract_lets u
    have hu : SameStraps z u := h.frame (State.link_modSvc ..)
    split
    · exact State.idleExpires_straps hu
    · exact hu
  · exact h

theorem State.tickOp_straps : SameStraps z s.tickOp := by
  unfold State.tickOp
  split
  · extract_lets o u
    have hu : SameStraps z u := h.frame (State.link_modMedia ..)
    split
    · exact State.opLimit_straps hu o
    · exact hu
  · exact h

omit h in
/-- No part of a millisecond changes the sampled straps. -/
theorem tickParts_straps : ∀ f ∈ tickParts, ∀ t, SameStraps z t → SameStraps z (f t) := by
  simp only [tickParts, List.forall_mem_append, List.forall_mem_cons, List.forall_mem_map]
  exact ⟨⟨⟨⟨⟨fun _ ht => ht, fun _ ht => ht, fun _ => State.tickHold_straps, fun _ => State.tickStarve_straps, nofun⟩,
    fun c _ _ ht => State.tickStroke_straps ht c⟩, fun _ => State.tickCall_straps, fun _ => State.tickMotor_straps, nofun⟩,
    fun c _ _ ht => State.tickDecap_straps ht c⟩, fun _ => State.tickIdle_straps, fun _ => State.tickOp_straps, nofun⟩

theorem State.sampleLines_straps : SameStraps z s.sampleLines :=
  runEvents_straps h (List.forall_mem_map.2 fun i _ _ ht => State.sampleLine_straps ht i)

/-- A millisecond leaves the sampled straps as they are (R4). -/
theorem State.tick_straps : SameStraps z s.tick := by
  unfold State.tick
  extract_lets u
  have hu : SameStraps z u := runEvents_straps (h.frame (State.link_cleared s)) tickParts_straps
  split
  · exact State.sampleLines_straps hu
  · exact hu

/-! ### Commands -/

/-- A command that is one event leaves the straps where its own effect does. -/
theorem exec_straps_of_event {c : Instr} {f : State → State} (e : exec c s = .next (s.event f)) (hf : ∀ t, SameStraps z t → SameStraps z (f t)) :
    ∃ t, exec c s = .next t ∧ SameStraps z t := ⟨_, e, State.event_straps h hf⟩

/-- A command that is a directive leaves the straps where the directive does. -/
theorem exec_straps_of_directive {c : Instr} {k : Nat} {w : WriteBeat} {run : State → Taken}
    (e : exec c s = .next (s.event fun s => (s.triggerArrives w).trigger k w run)) (hr : ∀ t, SameStraps z t → SameStraps z (run t).after) :
    ∃ t, exec c s = .next t ∧ SameStraps z t :=
  exec_straps_of_event h e fun _ ht => State.trigger_straps (State.forwarded_straps ht _) k w hr

/-- A command that writes an exchange beat. -/
theorem exec_straps_of_exchange {c : Instr} {i : SlotIx} {w : WriteBeat}
    (e : exec c s = .next (s.event fun s => (s.slotWriteArrives i 0xC0 w).exchangeWrite i w)) : ∃ t, exec c s = .next t ∧ SameStraps z t :=
  exec_straps_of_event h e fun _ ht => State.exchangeWrite_straps (State.forwarded_straps ht _) i w

/-- A command of a line with a row for each direction. -/
theorem exec_straps_of_line {c : Instr} {i : LineId} {b : Bool} {how : LineInput} (e : exec c s = .next (s.event fun s => s.lineInput i b how)) :
    ∃ t, exec c s = .next t ∧ SameStraps z t := exec_straps_of_event h e fun _ ht => State.lineInput_straps ht i b how

/-- A command of a line with one row alone. -/
theorem exec_straps_of_return {c : Instr} {i : LineId} {b : Bool} {how : LineInput} (e : exec c s = .next (s.event fun s => s.returnInput i b how)) :
    ∃ t, exec c s = .next t ∧ SameStraps z t := exec_straps_of_event h e fun _ ht => State.returnInput_straps ht i b how

end

/-- Every command but a power-on reset leaves the sampled straps as they are (R4). -/
theorem exec_straps {c : Instr} (s : State) (hc : ∀ v, c ≠ .powerOnReset v) : ∃ t, exec c s = .next t ∧ SameStraps s t := by
  have h : SameStraps s s := rfl
  cases c with
  | powerOnReset v => exact absurd rfl (hc v)
  | stationInitialCapState b =>
    refine exec_straps_of_event h rfl fun t ht => ?_
    split
    · exact State.lineCommand_straps ht _ b
    · exact ht
  | linkReset => exact exec_straps_of_event h rfl fun _ => State.linkResets_straps
  | linkLost => exact exec_straps_of_event h rfl fun _ => State.lostNow_straps
  | malformedRequest dir a n cls data mem => exact exec_straps_of_event h rfl fun _ ht => State.malformed_straps ht dir _ n cls data mem
  | plainWrite a ws =>
    exact ⟨_, rfl, runEvents_straps (State.event_straps h fun _ ht => State.writeFirst_straps (State.arrived_straps ht) _ ws) (laterWrites_straps _ _)⟩
  | headerWrite i k w => exact exec_straps_of_event h rfl fun _ ht => (State.forwarded_straps ht _).frame (State.link_modSlot ..)
  | openWord i w => exact exec_straps_of_exchange h rfl
  | commitWord i w => exact exec_straps_of_exchange h rfl
  | partialCommit i w => exact exec_straps_of_exchange h rfl
  | planeWrite a w => exact exec_straps_of_event h rfl fun _ ht => State.writeFirst_straps (State.arrived_straps ht) _ _
  | goWordRead cls i mem =>
    refine exec_straps_of_event h rfl fun t ht => ?_
    split
    · exact State.fetchRead_straps ht _
    · exact State.answerGoWord_straps (State.forwarded_straps ht _) cls i
  | goWordHoldExpiry => exact exec_straps_of_event h rfl fun _ => State.holdExpires_straps
  | planeFetchRead cls a mems =>
    refine exec_straps_of_event h rfl fun t ht => ?_
    extract_lets f
    split
    · exact State.fetchRead_straps ht _
    · exact State.answerReads_straps cls _ mems (State.forwarded_straps ht f)
  | spitFetchRead k mem => exact exec_straps_of_event h rfl fun _ ht => State.fetchRead_straps ht _
  | mailboxBodyWrite k w => exact exec_straps_of_event h rfl fun _ ht => (State.forwarded_straps ht _).frame (State.link_bodyWrite ..)
  | directiveUnknownKind w => exact exec_straps_of_directive h rfl fun _ ht => ht
  | pause w => exact exec_straps_of_directive h rfl fun _ => State.doPause_straps
  | resume w => exact exec_straps_of_directive h rfl fun _ => State.doResume_straps
  | cancelSheet w => exact exec_straps_of_directive h rfl fun _ => State.doCancelSheet_straps
  | cancelAll w => exact exec_straps_of_directive h rfl fun _ => State.doCancelAll_straps
  | cartridgeInstalled w => exact exec_straps_of_directive h rfl fun _ ht => State.doCartridge_straps ht _
  | calibratePump w => exact exec_straps_of_directive h rfl fun _ ht => State.doCalibrate_straps ht _
  | rollLoaded w => exact exec_straps_of_directive h rfl fun _ ht => State.doRollLoaded_straps ht _
  | rollUnload w => exact exec_straps_of_directive h rfl fun _ ht => State.doRollUnload_straps ht _
  | mediaReset w => exact exec_straps_of_directive h rfl fun _ => State.doMediaReset_straps
  | serviceNow w => exact exec_straps_of_directive h rfl fun _ ht => State.doServiceNow_straps ht _
  | serviceReset w => exact exec_straps_of_directive h rfl fun _ ht => State.doServiceReset_straps ht _
  | headReplaced w => exact exec_straps_of_directive h rfl fun _ ht => State.doHeadReplaced_straps ht _
  | releaseSlot w => exact exec_straps_of_directive h rfl fun _ ht => State.doRelease_straps ht _
  | setMasks w => exact exec_straps_of_directive h rfl fun _ ht => State.doSetMasks_straps ht _
  | countersClear w => exact exec_straps_of_directive h rfl fun _ => State.doCountersClear_straps
  | starved => exact exec_straps_of_event h rfl fun _ => State.starvedNow_straps
  | strokeComplete c => exact exec_straps_of_event h rfl fun _ ht => State.strokeEnds_straps ht c
  | lowFloatAssert c how => exact exec_straps_of_line h rfl
  | lowFloatDeassert c how => exact exec_straps_of_line h rfl
  | fullFloatAssert c how => exact exec_straps_of_line h rfl
  | fullFloatDeassert c how => exact exec_straps_of_line h rfl
  | presenceActive c how => exact exec_straps_of_line h rfl
  | presenceInactive c how => exact exec_straps_of_line h rfl
  | callTimeout => exact exec_straps_of_event h rfl fun _ => State.callTimesOut_straps
  | carriageArrives how => exact exec_straps_of_line h rfl
  | stationLost how => exact exec_straps_of_line h rfl
  | cappedLineActive b how =>
    refine exec_straps_of_event h rfl fun t ht => ?_
    split
    · exact State.cappedActive_straps ht
    · exact State.returnInput_straps ht _ b how
  | openLineActive b how =>
    refine exec_straps_of_event h rfl fun t ht => State.returnInput_straps ?_ _ b how
    split
    · exact State.impliedInactive_straps ht _
    · exact ht
  | capFault => exact exec_straps_of_event h rfl fun _ => State.capFails_straps
  | wiperHomeActive b how => exact exec_straps_of_return h rfl
  | wiperFault => exact exec_straps_of_event h rfl fun _ => State.wiperFails_straps
  | suctionEnd => exact exec_straps_of_event h rfl fun _ => State.suctionEnds_straps
  | decapExpiry c => exact exec_straps_of_event h rfl fun _ ht => State.decapExpires_straps ht c
  | idleTimerExpiry => exact exec_straps_of_event h rfl fun _ => State.idleExpires_straps
  | feedEncoderPulse => exact exec_straps_of_event h rfl fun t ht => ht.quiet (State.pulse_quiet (.refl t))
  | feedStall => exact exec_straps_of_event h rfl fun _ => State.stallNow_straps
  | cutterHomeActive b how => exact exec_straps_of_return h rfl
  | cutterFault => exact exec_straps_of_event h rfl fun _ => State.cutFaultNow_straps
  | rollPresentActive r how => exact exec_straps_of_line h rfl
  | rollPresentInactive r how => exact exec_straps_of_line h rfl
  | rollEndLineActive r b how => exact exec_straps_of_return h rfl
  | feedPathClearActive b how => exact exec_straps_of_return h rfl
  | platenMediaActive how =>
    refine exec_straps_of_event h rfl fun t ht => State.lineInput_straps ?_ _ _ how
    split
    · exact State.pathFilled_straps ht
    · exact ht
  | platenMediaInactive how => exact exec_straps_of_line h rfl
  | eventBeatRead cls mem =>
    refine exec_straps_of_event h rfl fun t ht => ?_
    split
    · exact State.fetchRead_straps ht _
    · exact State.answerEvent_straps (State.forwarded_straps ht _) cls
  | retirementBeatRead cls mem =>
    refine exec_straps_of_event h rfl fun t ht => ?_
    split
    · exact State.fetchRead_straps ht _
    · exact State.answerRetirement_straps (State.forwarded_straps ht _) cls

/-! ### The power-on reset -/

/-- The mediator after a power-on reset: the sensor lines that are taken over belong to other blocks. -/
theorem State.link_repower (s : State) (v : BitVec 4) : (s.repower v).link = Link.powerOn v :=
  List.foldlRecOn (motive := fun t : State => t.link = Link.powerOn v) LineId.all (keepPin s) rfl
    fun t ht i _ => (t.link_setLine i _).trans ht

/-- The span base that a power-on reset sets (R4). -/
theorem State.spanBase_repower (s : State) (v : BitVec 4) : (s.repower v).spanBase = v.toNat * (256 * 1024 * 1024) := by
  rw [State.spanBase, State.link_repower]
  rfl

/-- A beat within the 64 KiB from the span base is classed by its offset (R5). -/
theorem State.classify_span {s : State} {a : Nat} (h : s.spanBase ≤ a ∧ a < s.spanBase + 64 * 1024) : s.classify a = spanClass (a - s.spanBase) :=
  if_pos h

/-- Settles O3: what `repower` leaves of the mediator gives the first clause, `exec_straps` the second, `State.tick_straps` the third. -/
theorem strapsAreSampledAtPowerOnOnly : Obligations.StrapsAreSampledAtPowerOnOnly := by
  refine ⟨fun v s => ⟨s.repower v, rfl, ?_, s.spanBase_repower v, fun a => State.classify_span⟩, fun c s hc => exec_straps s hc,
    fun s => State.tick_straps rfl⟩
  rw [State.link_repower]
  rfl

end Sys2Proof.Machine

/-! O17: what an entry offered to the retirement list does (R36). -/
namespace Sys2Proof.Machine

/-- A post changes the event queue alone, to the queue that the statements name. -/
theorem State.post_eq_posted (s : State) (k : EventKind) (subject d1 d2 : Nat) :
    s.post k subject d1 d2 = { s with events := s.posted k subject d1 d2 } := rfl

/-! ### The retirement list (R36) -/

/-- One more entry has been dropped for want of a place (R36). -/
def State.retireDropped (s : State) : State :=
  { s with parser := { s.parser with retireOverflow := s.parser.retireOverflow + 1 } }

section
variable {s : State} (e : RetireEntry)

theorem State.enterRetired_of_room (h : s.parser.retired.length < 64) :
    s.enterRetired e = { s with parser := { s.parser with retired := s.parser.retired ++ [e] } } := if_pos h

theorem State.enterRetired_of_full (h : 64 ≤ s.parser.retired.length) :
    s.enterRetired e = if s.parser.retireOverflow = 0 then s.retireDropped.post .retireOverflow e.slot.val ((e.seq.map BitVec.toNat).getD 0) 0
      else s.retireDropped := if_neg (Nat.not_lt.mpr h)

/-- The first entry dropped since the count was last cleared posts RETIRE_OVERFLOW. -/
theorem State.enterRetired_of_first_drop (h : 64 ≤ s.parser.retired.length) (h0 : s.parser.retireOverflow = 0) :
    s.enterRetired e = { s.retireDropped with events := s.posted .retireOverflow e.slot.val ((e.seq.map BitVec.toNat).getD 0) 0 } := by
  rw [State.enterRetired_of_full e h, if_pos h0, State.post_eq_posted]
  rfl

/-- A later one is counted only. -/
theorem State.enterRetired_of_later_drop (h : 64 ≤ s.parser.retired.length) (h0 : s.parser.retireOverflow ≠ 0) :
    s.enterRetired e = s.retireDropped := by
  rw [State.enterRetired_of_full e h, if_neg h0]

end

/-- Settles O17: the full list splits on whether the drop takes the overflow count from 0 to 1. -/
theorem retirementListHolds64 : Obligations.RetirementListHolds64 := by
  refine fun s e => ⟨State.enterRetired_of_room e, fun hfull => ?_⟩
  by_cases h0 : s.parser.retireOverflow = 0
  · rw [State.enterRetired_of_first_drop e hfull h0, if_pos h0]
    rfl
  · rw [State.enterRetired_of_later_drop e hfull h0, if_neg h0]
    rfl

end Sys2Proof.Machine

/-! O25: COUNTERS_CLEAR (R58). -/
namespace Sys2Proof.Machine

/-! ### What a trigger's arrival leaves, whatever the link (R15, R179) -/

/-- Ending LOST changes the link's own counts alone: the reads in hand stand. -/
theorem State.link_arrive_lost {s : State} (h : s.link.state = .lost) :
    s.arrive.link = { s.link with silence := 0, state := .up, lostMs := 0 } := by
  unfold State.arrive
  rw [h]
  rfl

/-- Where no read waits or stalls, none does after a request has arrived and what follows from its ending LOST (R15). -/
theorem State.noWaiting_arrived {s : State} (hw : s.link.waiting = []) (hs : s.link.stalled = []) :
    s.arrived.link.waiting = [] ∧ s.arrived.link.stalled = [] := by
  cases h : s.link.state with
  | up =>
    rw [State.arrived_up h]
    exact ⟨hw, hs⟩
  | lost =>
    have ha := State.link_arrive_lost h
    have hw' : s.arrive.link.waiting = [] := by rw [ha]; exact hw
    have hs' : s.arrive.link.stalled = [] := by rw [ha]; exact hs
    have q := settle_quiet settleFuel (Quiet.refl s.arrive) hw' hs'
    rw [State.arrived_lost h]
    exact ⟨q.waiting.trans hw', q.stalled.trans hs'⟩

/-- What follows from ending LOST changes nothing of the mailbox. -/
theorem State.mail_triggerArrives (s : State) (w : WriteBeat) : (s.triggerArrives w).mail = s.mail :=
  (State.arrived_keeps (Keeps.refl s)).mail

theorem State.triggerArrives_up {s : State} (h : s.link.state = .up) (w : WriteBeat) :
    s.cleared.triggerArrives w = s.afterWrite (s.spanBase + 0xC0) w := State.writeArrives_up h _ w

/-- A trigger that is new to the mailbox at its arrival is so when its directive is taken. -/
theorem State.takesTrigger_triggerArrives {s : State} {w : WriteBeat} (h : s.takesTrigger w) :
    (s.cleared.triggerArrives w).takesTrigger w := by
  unfold State.takesTrigger
  rw [State.mail_triggerArrives]
  exact h

/-! ### COUNTERS_CLEAR -/

/-- The state with the six counters at 0 and COUNTERS_CLEAR answered (R58, R180). -/
def State.countersCleared (s : State) (w : WriteBeat) : State :=
  { s with counters := Counters.zero, mail := s.mail.answered w 15 .done 0 }

/-- COUNTERS_CLEAR is answered DONE in any state of the part (R58). -/
theorem State.trigger_countersClear {s : State} {w : WriteBeat} (h : s.takesTrigger w) :
    s.trigger 15 w State.doCountersClear = s.countersCleared w := by
  obtain ⟨hwhole, hnew⟩ := h
  unfold State.trigger
  rw [if_neg (by rw [hwhole]; decide), if_neg hnew]
  rfl

/-- The command's effect and the reactions to it, with the link UP or LOST. -/
theorem exec_countersClear {s : State} {w : WriteBeat} (h : s.takesTrigger w) :
    exec (.countersClear w) s = .next (settle settleFuel ((s.cleared.triggerArrives w).countersCleared w)) :=
  congrArg (fun u => Host.Outcome.next (settle settleFuel u)) (State.trigger_countersClear (State.takesTrigger_triggerArrives h))

/-- No reaction changes the mailbox's answer. -/
theorem State.mail_settle_countersCleared (s : State) (w : WriteBeat) :
    (settle settleFuel ((s.cleared.triggerArrives w).countersCleared w)).mail = s.mail.answered w 15 .done 0 := by
  rw [(settle_keeps settleFuel (Keeps.refl _)).mail]
  exact congrArg (fun m => Mailbox.answered m w 15 .done 0) (State.mail_triggerArrives s.cleared w)

/-- While no read waits or stalls, no reaction counts. -/
theorem State.counters_settle_countersCleared {s : State} (w : WriteBeat) (hw : s.link.waiting = []) (hs : s.link.stalled = []) :
    (settle settleFuel ((s.cleared.triggerArrives w).countersCleared w)).counters = Counters.zero := by
  obtain ⟨hw', hs'⟩ := State.noWaiting_arrived (s := s.cleared) hw hs
  exact (settle_quiet settleFuel (Quiet.refl ((s.cleared.triggerArrives w).countersCleared w)) hw' hs').countersStand

/-- Settles O25: the effect is the one state of `exec_countersClear`; with the link UP and nothing scheduled it is the whole command. -/
theorem countersClear : Obligations.CountersClear := by
  intro s w h
  refine ⟨⟨(s.cleared.triggerArrives w).countersCleared w, _, exec_countersClear h, rfl, rfl, fun hup => ?_,
    State.mail_settle_countersCleared s w, State.counters_settle_countersCleared w⟩, fun r => ?_⟩
  · rw [State.triggerArrives_up hup]
    rfl
  · have hnone : ((s.afterWrite (s.spanBase + 0xC0) w).countersCleared w).agenda = [] := r.agenda
    rw [exec_countersClear h, State.triggerArrives_up r.up, settle_none _ hnone]
    rfl

end Sys2Proof.Machine

/-! O60: the bounds of the manual's lists and counts. What a reaction leaves of them is `Quiet`; added here is what the reads behind a held one, the
effects of the commands and the parts of a millisecond leave, block by block in the order of the model. -/
namespace Sys2Proof.Machine

/-- Choices of one value by tests that mean the same. -/
theorem ite_of_iff {α : Type} {p q : Prop} [Decidable p] [Decidable q] (h : p ↔ q) (a b : α) : (if p then a else b) = if q then a else b :=
  ite_congr (propext h) (fun _ => rfl) fun _ => rfl

/-! ### The bounds under what the reactions keep -/

theorem Counters.fit_iff {k : Counters} : k.Fit ↔ ∀ i : CounterId, k.get i ≤ max32 := by
  refine ⟨fun h i => ?_, fun h => ⟨h .strayFetches, h .lateWrites, h .unplaced, h .overBudget, h .holdExpiries, h .fetchOrder⟩⟩
  cases i
  · exact h.strayFetches
  · exact h.lateWrites
  · exact h.unplaced
  · exact h.overBudget
  · exact h.holdExpiries
  · exact h.fetchOrder

/-- A count changes no item of the mediator. -/
@[simp] theorem State.link_count (s : State) (i : CounterId) (n : Nat) : (s.count i n).link = s.link := by
  unfold State.count
  extract_lets v w
  split <;> rfl

section
variable {s t : State} (h : Bounded s)
include h

/-- `Keeps` gives every bound but that of the silence count, which the arrival of a stalled read restarts. -/
theorem Bounded.keeps (k : Keeps s t) (hs : t.link.silence ≤ silenceLimit) : Bounded t where
  events := k.recs h.events
  overflow := k.overflow h.overflow
  retired := k.retired h.retired
  requests := k.queue h.requests
  sheets := Nat.le_trans k.sheets h.sheets
  windows := Nat.le_trans k.windows h.windows
  silence := hs
  counters := Counters.fit_iff.1 (k.counters (Counters.fit_iff.2 h.counters))
  lateHeaders i := (k.slots i).lateHeaders ▸ h.lateHeaders i
  faults i := (k.slots i).faults ▸ h.faults i
  nozzles c := (k.nozzles c).trans (h.nozzles c)

theorem Bounded.quiet (q : Quiet s t) : Bounded t := h.keeps q.toKeeps (q.silence ▸ h.silence)

theorem Bounded.foldl {α : Type} {f : State → α → State} (hf : ∀ t a, Bounded t → Bounded (f t a)) (l : List α) : Bounded (l.foldl f s) :=
  List.foldlRecOn (motive := Bounded) l f h fun t ht a _ => hf t a ht

/-- One slot's record changed, its two counts at most 15. -/
theorem Bounded.modSlot {i : SlotIx} {f : Slot → Slot} (hl : (f (s.slot i)).lateHeaders ≤ 15) (hf : (f (s.slot i)).faults ≤ 15) :
    Bounded (s.modSlot i f) :=
  { h with
    lateHeaders := fun j => by
      rw [State.slot_modSlot]
      split
      · next e => exact e ▸ hl
      · exact h.lateHeaders j
    faults := fun j => by
      rw [State.slot_modSlot]
      split
      · next e => exact e ▸ hf
      · exact h.faults j }

/-- One slot's record changed, its two counts kept. -/
theorem Bounded.modSlot_same {i : SlotIx} {f : Slot → Slot} (hf : ∀ k : Slot, k.Same (f k)) : Bounded (s.modSlot i f) :=
  h.quiet ((Quiet.refl s).modSlot hf)

theorem Bounded.count (i : CounterId) (n : Nat) : Bounded (s.count i n) :=
  h.keeps (State.count_keeps (.refl s) i n) (by rw [State.link_count]; exact h.silence)

theorem Bounded.stir : Bounded s.stir := h.quiet (Quiet.refl s).stir
theorem Bounded.stirWalk : Bounded s.stirWalk := h.quiet (Quiet.refl s).stirWalk
theorem Bounded.wake (rs : List Reaction) : Bounded (s.wake rs) := h.quiet (Quiet.refl s).wake
theorem Bounded.post (k : EventKind) (a b c : Nat) : Bounded (s.post k a b c) := h.quiet (Quiet.refl s).post
theorem Bounded.forward (x : Forward) : Bounded (s.forward x) := { h with }
theorem Bounded.setMail (m : Mailbox) : Bounded { s with mail := m } := { h with }
theorem Bounded.modInk (c : Chan) (f : InkChan → InkChan) : Bounded (s.modInk c f) := { h with }
theorem Bounded.modSvc {f : Service → Service} (e : (f s.svc).queue.length ≤ s.svc.queue.length) : Bounded (s.modSvc f) :=
  { h with requests := Nat.le_trans e h.requests }
theorem Bounded.modMedia {f : Media → Media} (e : (f s.media).table.length ≤ s.media.table.length) : Bounded (s.modMedia f) :=
  { h with sheets := Nat.le_trans e h.sheets }
theorem Bounded.modRoll (r : Roll) (f : RollRec → RollRec) : Bounded (s.modRoll r f) := by
  cases r <;> exact { h with }
theorem Bounded.modSheet (sid : Nat) (f : Sheet → Sheet) : Bounded (s.modSheet sid f) := h.modMedia (Nat.le_of_eq (List.length_map _))

/-! ### The reads (R3, R9, R10) -/

theorem State.countedBeat_bounded (win : Window) (o : Nat) (codes : List Nat) : Bounded (s.countedBeat win o codes).2 := by
  unfold State.countedBeat
  extract_lets i k c p
  split
  split
  rename_i moved unplaced _ _ kept cut _
  extract_lets a b d e
  have ha : Bounded a := by
    unfold a
    split
    · exact h
    · exact h.count ..
  have hb : Bounded b := by
    unfold b
    split
    · exact ha
    · exact ha.count ..
  have hd : Bounded d := (hb.quiet (State.postBudget_quiet (.refl b) ..)).modSlot_same fun _ => ⟨rfl, rfl, rfl⟩
  have he : Bounded e := hd.quiet ((Quiet.refl d).setWindows (Nat.le_of_eq (List.length_map _)))
  dsimp only
  split
  · exact he.quiet (State.fetchCompletes_quiet (.refl e) _)
  · exact he

theorem State.fetchOrderFault_bounded (win : Window) (o : Nat) : Bounded (s.fetchOrderFault win o) := by
  unfold State.fetchOrderFault
  extract_lets i t
  have ht : Bounded t := h.count ..
  split
  · exact ht
  · refine Bounded.quiet (s := t.modSlot i _) ?_ (Quiet.refl _).post
    exact ht.modSlot_same fun _ => ⟨rfl, rfl, rfl⟩

theorem State.firingBeat_bounded (win : Window) (o : Nat) (mem : List Byte) : Bounded (s.firingBeat win o mem).2 := by
  unfold State.firingBeat
  extract_lets codes
  split
  · exact State.fetchOrderFault_bounded h ..
  · split
    · exact State.countedBeat_bounded h ..
    · exact h

theorem State.planeAnswer_bounded (a wid : Nat) (mem : List Byte) : Bounded (s.planeAnswer a wid mem).2 := by
  unfold State.planeAnswer
  split
  · exact h.count ..
  · extract_lets k o
    split
    · exact State.firingBeat_bounded h ..
    · split
      · exact State.firingBeat_bounded (h.quiet (State.startFiring_quiet (.refl s) _)) ..
      · exact h.count ..

theorem State.answer_bounded (cls : ReqClass) (a : Nat) (d : List Byte) : Bounded (s.answer cls a d) := { h with }

theorem State.answerGoWord_bounded (cls : ReqClass) (i : SlotIx) : Bounded (s.answerGoWord cls i) :=
  h.quiet (State.answerGoWord_quiet (.refl s) cls i)

theorem State.answerEvent_bounded (cls : ReqClass) : Bounded (s.answerEvent cls) := h.keeps (State.answerEvent_keeps (.refl s) cls) h.silence

theorem State.answerRetirement_bounded (cls : ReqClass) : Bounded (s.answerRetirement cls) :=
  h.keeps (State.answerRetirement_keeps (.refl s) cls) h.silence

theorem State.considerFetch_bounded (k : FetchKind) : Bounded (s.considerFetch k) := by
  unfold State.considerFetch
  split
  · split
    · exact { h with }
    · exact State.answerGoWord_bounded h ..
  · exact State.answer_bounded h ..
  · exact State.answer_bounded (State.planeAnswer_bounded h ..) ..
  · exact h.quiet (State.answerSpit_quiet (.refl s) _)
  · exact State.answerEvent_bounded h _
  · exact State.answerRetirement_bounded h _
  · exact State.answer_bounded h ..

/-- The arrival of a request restarts the silence count (R13). -/
theorem State.arrive_bounded : Bounded s.arrive := by
  refine h.keeps (State.arrive_keeps (.refl s)) ?_
  unfold State.arrive
  split <;> exact Nat.zero_le _

theorem State.acceptFetch_bounded (r : FetchReq) : Bounded (s.acceptFetch r) := by
  unfold State.acceptFetch
  extract_lets t
  have ht : Bounded t := { h with }
  split
  · exact ht
  · next k ks _ =>
    have hq : Bounded (t.queueFetch (laterBeats ks)) := { ht with }
    split
    · split
      · exact State.considerFetch_bounded ht _
      · exact (State.considerFetch_bounded hq k).quiet (Quiet.refl _).wake
    · exact { ht with }

theorem State.acceptStalled_bounded (r : FetchReq) (rs : List FetchReq) : Bounded (s.acceptStalled r rs) := by
  have ht : Bounded { s with link := { s.link with stalled := rs } } := { h with }
  unfold State.acceptStalled
  split
  · exact (State.acceptFetch_bounded (State.arrive_bounded ht) _).quiet (Quiet.refl _).wake
  · exact (State.arrive_bounded h).quiet (Quiet.refl _).wake

theorem State.drain_bounded : Bounded s.drain := by
  unfold State.drain
  split
  · next b bs _ _ =>
    have ht : Bounded { s with link := { s.link with waiting := bs } } := { h with }
    exact (State.considerFetch_bounded ht _).quiet (Quiet.refl _).wake
  · split
    · exact State.acceptStalled_bounded h ..
    · exact h
  · exact h

/-! ### Events and what follows from them -/

/-- Of the reactions the taking of the reads alone is not `Quiet`. -/
theorem State.react_bounded (r : Reaction) : Bounded (s.react r) := by
  have q := Quiet.refl s
  cases r with
  | drain => exact State.drain_bounded h
  | directives => exact h.quiet (State.runDirectives_quiet _ q)
  | evalFront => exact h.quiet (State.evalFront_quiet q)
  | inkReport cs f => exact h.quiet (State.inkReport_quiet q cs f)
  | quiet => exact h.quiet (State.quietTest_quiet q)
  | refill => exact h.quiet (State.refillTests_quiet q)
  | idle => exact h.quiet (State.idleTest_quiet q)
  | serviceStep => exact h.quiet (State.serviceStep_quiet q)
  | walk => exact h.quiet (State.walk_quiet q)
  | boundary => exact h.quiet (State.boundaryWalk_quiet q)
  | sheets => exact h.quiet (State.sheetsTest_quiet q)
  | sheetStart => exact h.quiet (State.sheetStartTest_quiet q)
  | mediaOps => exact h.quiet (State.mediaTest_quiet q)
  | starve => exact h.quiet (State.starveTest_quiet q)
  | uncap => exact h.quiet (State.uncapTest_quiet q)
  | heldRead => exact h.quiet (State.heldReadTest_quiet q)
  | linkCheck => exact h.quiet (State.linkTest_quiet q)

theorem settle_bounded (n : Nat) : Bounded (settle n s) := by
  induction n generalizing s with
  | zero => exact h
  | succ n ih =>
    unfold settle
    split
    · exact h
    · next r rs _ =>
      have ht : Bounded { s with agenda := rs } := { h with }
      exact ih (State.react_bounded ht r)

theorem State.event_bounded {f : State → State} (hf : ∀ t, Bounded t → Bounded (f t)) : Bounded (s.event f) :=
  settle_bounded (hf s.cleared { h with }) _

theorem runEvents_bounded {fs : List (State → State)} (hf : ∀ f ∈ fs, ∀ t, Bounded t → Bounded (f t)) : Bounded (runEvents s fs) :=
  List.foldlRecOn (motive := Bounded) fs _ h fun t ht f hm => settle_bounded (hf f hm t ht) _

theorem State.together_bounded {f : State → State} (hf : ∀ t, Bounded t → Bounded (f t)) : Bounded (s.together f) := by
  have ht := hf { s with agenda := [] } { h with }
  exact { ht with }

end
end Sys2Proof.Machine

namespace Sys2Proof.Machine
section
variable {s t : State} (h : Bounded s)
include h

theorem State.retire_bounded (i : SlotIx) (o : SlotOutcome) (r : Option Reason) (d : Nat) : Bounded (s.retire i o r d) :=
  h.quiet (State.retire_quiet (.refl s) i o r d)
theorem State.rejectSwath_bounded (i : SlotIx) (r : Reason) (d : Nat) : Bounded (s.rejectSwath i r d) :=
  h.quiet (State.rejectSwath_quiet (.refl s) i r d)
theorem State.spoil_bounded (sid : Nat) (r : Reason) : Bounded (s.spoil sid r) := h.quiet (State.spoil_quiet (.refl s) sid r)
theorem State.becomeSpoiled_bounded (t : Sheet) (cut : Bool) : Bounded (s.becomeSpoiled t cut) :=
  h.quiet (State.becomeSpoiled_quiet (.refl s) t cut)
theorem State.setRoll_bounded (r : Roll) (st : RollState) : Bounded (s.setRoll r st) := h.quiet (State.setRoll_quiet (.refl s) r st)
theorem State.setStation_bounded (st : Station) : Bounded (s.setStation st) := h.quiet (State.setStation_quiet (.refl s) st)
theorem State.stopRun_bounded (c : Chan) : Bounded (s.stopRun c) := h.quiet (State.stopRun_quiet (.refl s) c)

/-! ### The ink channels -/

theorem State.cartridgeEmpty_bounded (c : Chan) (r : EmptyReason) : Bounded (s.cartridgeEmpty c r) := by
  unfold State.cartridgeEmpty
  exact State.stopRun_bounded ((h.modInk ..).post ..) c

theorem State.afterStroke_bounded (c : Chan) : Bounded (s.afterStroke c) := by
  unfold State.afterStroke
  extract_lets k u
  have hu : Bounded u := by
    unfold u
    split
    · exact h.modInk ..
    · exact h
  split
  · exact State.cartridgeEmpty_bounded h c _
  · split
    · exact State.cartridgeEmpty_bounded h c _
    · split
      · exact State.stopRun_bounded hu c
      · exact hu.modInk ..

theorem State.strokeEnds_bounded (c : Chan) : Bounded (s.strokeEnds c) := by
  unfold State.strokeEnds
  extract_lets k u v
  have hu : Bounded u := h.modInk ..
  have hv : Bounded v := by
    unfold v
    split
    · exact hu.quiet (State.inkChanged_quiet (State.evalLow_quiet (.refl u) c) _)
    · exact hu
  split
  · exact Bounded.stir (State.afterStroke_bounded hv c)
  · exact h

theorem State.fullFloatChanged_bounded (c : Chan) (old : LineState) : Bounded (s.fullFloatChanged c old) := by
  unfold State.fullFloatChanged State.fullFloatAsserts
  extract_lets mark u
  have hu : Bounded u := by
    unfold u
    split
    · exact h.quiet (State.resyncTo_quiet (.refl s) c mark true)
    · exact (h.modInk ..).post ..
  split
  · exact hu.quiet (State.inkChanged_quiet (State.evalLow_quiet (State.stopRun_quiet (State.takeMeasurement_quiet (.refl u) c) c) c) _)
  · exact Bounded.stir h

theorem State.presenceChanged_bounded (c : Chan) : Bounded (s.presenceChanged c) := by
  unfold State.presenceChanged
  extract_lets k
  split
  · split
    · exact ((h.modInk ..).post ..).stir
    · exact h
  · split
    · exact h
    · exact ((State.stopRun_bounded (h.modInk ..) c).post ..).stir

/-! ### The media operations -/

theorem State.opStalls_bounded (o : MediaOp) : Bounded (s.opStalls o) := by
  unfold State.opStalls
  extract_lets u v w x
  have hu : Bounded u := h.quiet (State.endOp_quiet (.refl s)).post
  have hv : Bounded v := hu.modMedia (Nat.le_refl _)
  have hw : Bounded w := hv.quiet (State.addFed_quiet (.refl v) o _)
  have hx : Bounded x := by
    unfold x
    split
    · exact State.spoil_bounded hw _ _
    · exact hw
  split
  · split
    · exact hx.quiet (State.advanceEnds_quiet (.refl x) o _)
    · split
      · split
        · exact hx.quiet (State.toCutting_quiet (.refl x) _)
        · exact hx
      · exact hx
    · exact hx
  · exact Bounded.stir hv

theorem State.cutFails_bounded (o : MediaOp) : Bounded (s.cutFails o) := by
  unfold State.cutFails
  extract_lets sheet u v
  have hu : Bounded u := h.quiet (State.endOp_quiet (.refl s)).post
  have hv : Bounded v := hu.modMedia (Nat.le_refl _)
  split
  · extract_lets w
    have hw : Bounded w := State.spoil_bounded hv _ _
    split
    · exact State.becomeSpoiled_bounded hw _ _
    · exact hw
  · exact hv

theorem State.opLimit_bounded (o : MediaOp) : Bounded (s.opLimit o) := by
  unfold State.opLimit
  split
  · exact State.cutFails_bounded h o
  · exact State.opStalls_bounded h o

/-! ### Job slots -/

theorem Bounded.headerWrite (i : SlotIx) (o : Nat) (w : WriteBeat) : Bounded (s.modSlot i fun k => k.headerWrite o w) := by
  have hl := h.lateHeaders i
  have hf := h.faults i
  refine h.modSlot ?_ ?_
  · unfold Slot.headerWrite
    extract_lets late
    split
    · exact hl
    all_goals
      dsimp only [late]
      split
      · exact Nat.min_le_left ..
      · exact hl
  · unfold Slot.headerWrite
    split <;> exact hf

theorem State.protocolFault_bounded (i : SlotIx) (f : ProtocolFault) (d : Nat) : Bounded (s.protocolFault i f d) :=
  (h.modSlot (i := i) (f := fun k => { k with faults := min 15 (k.faults + 1) }) (h.lateHeaders i) (Nat.min_le_left ..)).post ..

omit h in
@[simp] theorem windowsOf_length (g : Geometry) (i : SlotIx) (n : Nat) (ps : List (Chan × Nat)) : (windowsOf g i n ps).length = ps.length := by
  induction ps generalizing n with
  | nil => rfl
  | cons p ps ih => exact congrArg Nat.succ (ih _)

omit h in
/-- An open that passes its checks leaves room for its windows (R22 check 6). -/
theorem State.room_of_openError {b : List Byte} (e : s.openError b = none) : s.windows.length + (geometryOf b).present.length ≤ 60 := by
  unfold State.openError at e
  extract_lets g at e
  refine Classical.byContradiction fun hlt => ?_
  have hfull : 60 < s.windows.length + g.present.length := Nat.lt_of_not_le hlt
  rw [if_pos hfull] at e
  repeat' split at e
  all_goals cases e

theorem State.openSlot_bounded (i : SlotIx) : Bounded (s.openSlot i) := by
  unfold State.openSlot
  split
  · split
    · exact h.modSlot_same fun _ => ⟨rfl, rfl, rfl⟩
    · next e =>
      unfold State.takeOpen
      extract_lets g u
      have hroom := State.room_of_openError e
      have hu : Bounded u := { h with windows := by simpa [u] using hroom }
      exact hu.modSlot (f := Slot.open) (Nat.zero_le _) (Nat.zero_le _)
  · exact State.protocolFault_bounded h i _ _

omit h in
theorem Slot.leaveFree_counts {k : Slot} (hl : k.lateHeaders ≤ 15) (hf : k.faults ≤ 15) : k.leaveFree.lateHeaders ≤ 15 ∧ k.leaveFree.faults ≤ 15 := by
  unfold Slot.leaveFree
  split
  · exact ⟨Nat.zero_le _, Nat.zero_le _⟩
  · exact ⟨hl, hf⟩

theorem State.leaveFree_bounded (i : SlotIx) (q : Seq) : Bounded (s.modSlot i fun k => { k.leaveFree with seq := some q }) :=
  have c := Slot.leaveFree_counts (h.lateHeaders i) (h.faults i)
  h.modSlot (f := fun k => { k.leaveFree with seq := some q }) c.1 c.2

theorem State.rejectCommit_bounded (i : SlotIx) (q : Seq) (r : Reason) (d : Nat) : Bounded (s.rejectCommit i q r d) := by
  unfold State.rejectCommit
  extract_lets swath u
  have hu : Bounded u := State.leaveFree_bounded h i q
  split
  · exact State.rejectSwath_bounded hu i r d
  · exact State.retire_bounded hu i _ _ d

theorem State.takeSequence_bounded (q : Seq) : Bounded (s.takeSequence q) := { h with }

/-- A sheet record is added only where the table has room (R27). -/
theorem State.joinSheet_bounded (i : SlotIx) (b : List Byte) (q : Seq) (room : sheetStartFlag b = true → s.media.table.length < 4) :
    Bounded (s.joinSheet i b q) := by
  unfold State.joinSheet
  split
  · next hstart =>
    extract_lets sid u p v
    have hu : Bounded u := { h with sheets := Nat.le_trans (Nat.le_of_eq List.length_append) (room hstart) }
    have hv : Bounded v := { hu with }
    exact hv.modSlot_same fun _ => ⟨rfl, rfl, rfl⟩
  · split
    · exact (h.modSheet ..).modSlot_same fun _ => ⟨rfl, rfl, rfl⟩
    · exact h

theorem State.closeSheet_bounded (b : List Byte) : Bounded (s.closeSheet b) := by
  unfold State.closeSheet
  split
  · split
    · next o _ =>
      have hm := h.modSheet o.sid fun t => { t with endCommitted := true, trailing := trailingOf b }
      exact { hm with }
    · exact h
  · exact h

theorem State.postSlot_bounded (i : SlotIx) : Bounded (s.postSlot i) := by
  unfold State.postSlot
  extract_lets p u v
  have hu : Bounded u := { h with }
  have hv : Bounded v := by
    refine Bounded.wake (s := u.modSlot i _) ?_ _
    exact hu.modSlot_same fun _ => ⟨rfl, rfl, rfl⟩
  split
  · exact hv.wake _
  · exact hv

/-- An accepted commit of a swath that starts a sheet needs room in the sheet table (R27). -/
theorem State.acceptCommit_bounded (i : SlotIx) (q : Seq)
    (room : (s.slot i).commitKind = some .swath → sheetStartFlag (s.slot i).shadow = true → s.media.table.length < 4) :
    Bounded (s.acceptCommit i q) := by
  unfold State.acceptCommit
  extract_lets b swath u v
  have hu : Bounded u := State.takeSequence_bounded (State.leaveFree_bounded h i q) q
  split
  · next hswath =>
    have hv : Bounded v := State.closeSheet_bounded (State.joinSheet_bounded hu i b q (room (of_decide_eq_true hswath))) b
    split
    · exact State.retire_bounded hv i _ _ _
    · exact (State.postSlot_bounded hv i).stir
  · exact (State.postSlot_bounded hu i).stir

theorem State.refuseCommit_bounded (i : SlotIx) (r : Reason) (d : Nat) : Bounded (s.refuseCommit i r d) :=
  h.modSlot_same fun _ => ⟨rfl, rfl, rfl⟩

theorem State.sheetChecks_bounded (i : SlotIx) (q : Seq) : Bounded (s.sheetChecks i q) := by
  have hq : Bounded (s.takeSequence q) := State.takeSequence_bounded h q
  unfold State.sheetChecks
  extract_lets b
  split
  · exact State.rejectCommit_bounded hq i q _ _
  · exact State.rejectCommit_bounded hq i q _ _
  · next hstart _ =>
    split
    · exact State.rejectCommit_bounded hq i q _ _
    · exact State.acceptCommit_bounded h i q fun _ g => absurd (hstart.symm.trans g) (by decide)
  · split
    · exact State.refuseCommit_bounded h i _ _
    · next hroom => exact State.acceptCommit_bounded h i q fun _ _ => Nat.lt_of_not_le hroom

theorem State.contentChecks_bounded (i : SlotIx) (q : Seq) : Bounded (s.contentChecks i q) := by
  have hq : Bounded (s.takeSequence q) := State.takeSequence_bounded h q
  unfold State.contentChecks
  extract_lets k
  split
  · exact State.rejectCommit_bounded hq i q _ _
  · split
    · exact State.rejectCommit_bounded hq i q _ _
    · exact State.sheetChecks_bounded h i q
  · next hkind hne => exact State.acceptCommit_bounded h i q fun hs _ => absurd (Option.some.inj (hne.symm.trans hs)) hkind

theorem State.sequenceChecks_bounded (i : SlotIx) (q : Seq) : Bounded (s.sequenceChecks i q) := by
  unfold State.sequenceChecks
  extract_lets e
  split
  · exact State.rejectCommit_bounded h i q _ _
  · split
    · exact State.refuseCommit_bounded h i _ _
    · exact State.contentChecks_bounded h i q

theorem State.commitSlot_bounded (i : SlotIx) (q : Seq) : Bounded (s.commitSlot i q) := by
  unfold State.commitSlot
  split
  · exact h
  · split
    · exact State.sequenceChecks_bounded h i q
    · exact State.protocolFault_bounded h i _ _

theorem State.exchangeWrite_bounded (i : SlotIx) (w : WriteBeat) : Bounded (s.exchangeWrite i w) := by
  unfold State.exchangeWrite
  extract_lets u
  have hu : Bounded u := by
    unfold u
    split
    · exact State.openSlot_bounded h i
    · exact h
  split
  · exact State.commitSlot_bounded hu i _
  · split
    · exact State.protocolFault_bounded hu i _ _
    · exact hu

/-! ### Plane beats -/

theorem State.lateWriteFiring_bounded (i : SlotIx) (c : Chan) (o : Nat) : Bounded (s.lateWriteFiring i c o) := by
  unfold State.lateWriteFiring
  extract_lets k u
  have hu : Bounded u := h.count _ _
  split
  · exact hu
  · refine Bounded.post (s := u.modSlot i _) ?_ ..
    exact hu.modSlot_same fun _ => ⟨rfl, rfl, rfl⟩

theorem State.planeBeatWrite_bounded (win : Window) (o : Nat) (w : WriteBeat) : Bounded (s.planeBeatWrite win o w) := by
  unfold State.planeBeatWrite
  extract_lets i
  have rejected : Bounded ((s.rejectSwath i .lateWrite win.chan.num).count .lateWrites 1) :=
    (State.rejectSwath_bounded h i _ _).count _ _
  split
  · exact h
  · split
    · exact h.modSlot_same fun _ => ⟨rfl, rfl, rfl⟩
    · exact rejected
    · exact rejected
    · exact rejected
    · exact State.lateWriteFiring_bounded h i _ o
    · exact State.lateWriteFiring_bounded h i _ o
    · exact h

/-! ### Immediate directives -/

theorem State.doPause_bounded : Bounded s.doPause.after := by
  unfold State.doPause
  dsimp only
  split
  · exact h
  · exact (Bounded.wake (s := { s with flow := { s.flow with pause := true } }) { h with } _).stir

theorem State.doResume_bounded : Bounded s.doResume.after := by
  unfold State.doResume
  dsimp only
  split
  · exact (Bounded.wake (s := { s.starveZero with flow := { s.starveZero.flow with pause := false } }) { h with } _).stir
  · exact h

theorem State.doCancelSheet_bounded : Bounded s.doCancelSheet.after := by
  unfold State.doCancelSheet
  split
  · exact State.spoil_bounded h _ _
  · exact h

theorem State.cancelEntry_bounded (i : SlotIx) : Bounded (s.cancelEntry i) := by
  unfold State.cancelEntry
  split <;> exact State.retire_bounded h i _ _ _

theorem State.cancelEntries_bounded : Bounded s.cancelEntries := by
  unfold State.cancelEntries
  extract_lets u
  have hu : Bounded u := by
    unfold u
    split
    · exact State.spoil_bounded h _ _
    · exact h
  exact hu.foldl (fun t i ht => State.cancelEntry_bounded ht i) _

omit h in
theorem State.markFiring_quiet {z s : State} (h : Quiet z s) : Quiet z s.markFiring := by
  refine State.mapSlots_quiet h fun k => ?_
  split <;> exact ⟨rfl, rfl, rfl⟩

theorem State.doCancelAll_bounded : Bounded s.doCancelAll.after := by
  have hc : Bounded (s.together State.cancelEntries) := State.together_bounded h fun _ => State.cancelEntries_bounded
  have hm : Bounded (s.together State.cancelEntries).markFiring := hc.quiet (State.markFiring_quiet (.refl _))
  exact Bounded.stir (hm.modMedia (List.length_filter_le ..))

theorem State.doCartridge_bounded (b : List Byte) : Bounded (s.doCartridge b).after := by
  unfold State.doCartridge
  split
  · exact h
  · split
    · exact h
    · split
      · exact Bounded.stir (h.modInk ..)
      · exact h

theorem State.doCalibrate_bounded (b : List Byte) : Bounded (s.doCalibrate b).after := by
  unfold State.doCalibrate
  split
  · exact h
  · split
    · exact h
    · exact h
    · dsimp only
      exact h.modInk ..

theorem State.putMedia_bounded (r : Roll) (p : MediaProfile) : Bounded (s.putMedia r p) := by
  cases r <;> exact { h with }

theorem State.stageDeclared_bounded (r : Roll) (p : MediaProfile) : Bounded (s.stageDeclared r p) := by
  cases r <;> exact { h with }

theorem State.declareLength_bounded (r : Roll) (n : Option Nat) : Bounded (s.declareLength r n) :=
  Bounded.stir ((h.modRoll ..).quiet (State.rollLowTest_quiet (.refl _) r))

theorem State.doRollLoaded_bounded (b : List Byte) : Bounded (s.doRollLoaded b).after := by
  have loads (r : Roll) (p : MediaProfile) (n : Option Nat) : Bounded (((s.setRoll r .loaded).putMedia r p).declareLength r n) :=
    State.declareLength_bounded (State.putMedia_bounded (State.setRoll_bounded h r _) r p) r n
  unfold State.doRollLoaded
  split
  · exact h
  · split
    · exact h
    · extract_lets p
      split
      · exact h
      · exact loads _ p _
      · exact loads _ p _
      · split
        · exact State.declareLength_bounded (State.stageDeclared_bounded h _ p) _ _
        · exact State.declareLength_bounded (State.putMedia_bounded h _ p) _ _
      · exact h

theorem State.doRollUnload_bounded (b : List Byte) : Bounded (s.doRollUnload b).after := by
  unfold State.doRollUnload
  split
  · exact h
  · split
    · exact h
    · split
      · dsimp only
        exact (State.setRoll_bounded h _ _).modRoll ..
      · split
        · exact h
        · exact h.quiet (State.beginRewind_quiet (.refl s) _ _ _)
      · exact h

theorem State.resetRoll_bounded (r : Roll) : Bounded (s.resetRoll r) := by
  unfold State.resetRoll
  split
  · split
    · exact h
    · exact State.setRoll_bounded h r _
  · split
    · exact h.quiet (State.rollOut_quiet (.refl s) r)
    · exact State.setRoll_bounded h r _

theorem State.resetSpoiled_bounded : Bounded s.resetSpoiled := by
  unfold State.resetSpoiled
  split
  · split
    · exact h
    · exact State.becomeSpoiled_bounded (h.quiet (State.dropDue_quiet (.refl s) _)) _ _
  · exact h

theorem State.doMediaReset_bounded : Bounded s.doMediaReset.after := by
  unfold State.doMediaReset
  split
  · extract_lets r u v
    have hu : Bounded u := by
      unfold u
      cases r with
      | some r => exact State.resetRoll_bounded h r
      | none => exact h
    exact Bounded.stir (State.resetSpoiled_bounded (hu.modMedia (Nat.le_refl _)))
  · exact h

theorem State.doServiceNow_bounded (b : List Byte) : Bounded (s.doServiceNow b).after := by
  unfold State.doServiceNow
  split
  · exact h
  · split
    · exact h
    · split <;> exact h.quiet (State.offer_quiet_of (by assumption) (.refl s))

theorem State.flushQueue_bounded : Bounded s.flushQueue := by
  unfold State.flushQueue
  extract_lets q u
  have hu : Bounded u := h.modSvc (Nat.zero_le _)
  exact Bounded.stir ((hu.foldl (fun t r ht => ht.quiet (State.cleaningLeft_quiet (.refl t) r.level r.chans)) q).wake _)

theorem State.leaveFault_bounded : Bounded s.leaveFault := by
  unfold State.leaveFault
  split
  · exact State.setStation_bounded (h.quiet (State.capCloses_quiet (.refl s))) _
  · exact State.setStation_bounded (h.modSvc (Nat.le_refl _)) _

theorem State.doServiceReset_bounded (b : List Byte) : Bounded (s.doServiceReset b).after := by
  unfold State.doServiceReset
  split
  · extract_lets u v
    have hu : Bounded u := State.leaveFault_bounded h
    have hv : Bounded v := by
      unfold v
      split
      · exact hu
      · exact State.flushQueue_bounded hu
    exact Bounded.stirWalk hv
  · exact h

theorem State.doHeadReplaced_bounded (b : List Byte) : Bounded (s.doHeadReplaced b).after := by
  unfold State.doHeadReplaced
  split
  · exact h.quiet (State.replaceHeads_quiet (.refl s) _)
  · exact h

theorem State.doRelease_bounded (b : List Byte) : Bounded (s.doRelease b).after := by
  unfold State.doRelease
  split
  · extract_lets i
    split
    · exact Bounded.wake (s := s.modSlot i Slot.release) (h.modSlot_same fun _ => ⟨rfl, rfl, rfl⟩) _
    · exact h
  · exact h

theorem State.doSetMasks_bounded (b : List Byte) : Bounded (s.doSetMasks b).after := by
  unfold State.doSetMasks
  split
  · exact h
  · split
    · exact h
    · exact { h with }

theorem State.doCountersClear_bounded : Bounded s.doCountersClear.after := { h with counters := fun i => by cases i <;> exact Nat.zero_le _ }

theorem runDirective_bounded (k : Nat) : Bounded (runDirective k s).after := by
  unfold runDirective
  extract_lets b
  split
  · exact State.doPause_bounded h
  · exact State.doResume_bounded h
  · exact State.doCancelSheet_bounded h
  · exact State.doCancelAll_bounded h
  · exact State.doCartridge_bounded h b
  · exact State.doCalibrate_bounded h b
  · exact State.doRollLoaded_bounded h b
  · exact State.doRollUnload_bounded h b
  · exact State.doMediaReset_bounded h
  · exact State.doServiceNow_bounded h b
  · exact State.doServiceReset_bounded h b
  · exact State.doHeadReplaced_bounded h b
  · exact State.doRelease_bounded h b
  · exact State.doSetMasks_bounded h b
  · exact State.doCountersClear_bounded h
  · exact h

theorem State.trigger_bounded (k : Nat) (w : WriteBeat) {run : State → Taken} (hr : ∀ t, Bounded t → Bounded (run t).after) :
    Bounded (s.trigger k w run) := by
  unfold State.trigger
  split
  · exact h
  · split
    · exact h
    · extract_lets m t
      have ht : Bounded t.after := hr _ (h.setMail _)
      exact { ht with }

/-! ### Requests -/

theorem State.arrived_bounded : Bounded s.arrived := by
  unfold State.arrived
  split
  · exact State.arrive_bounded h
  · exact settle_bounded (State.arrive_bounded h) _

/-- A request that arrives and is forwarded. -/
theorem State.forwarded_bounded (f : Forward) : Bounded (s.arrived.forward f) := (State.arrived_bounded h).forward f

theorem State.learnWrite_bounded (a : Nat) (w : WriteBeat) : Bounded (s.learnWrite a w) :=
  State.learnWrite_cases s a w h (fun _ => { h with }) (State.trigger_bounded h _ w fun _ ht => runDirective_bounded ht _)
    (fun i o => h.headerWrite i o w) (fun i => State.exchangeWrite_bounded h i w) (fun win o => State.planeBeatWrite_bounded h win o w)

theorem State.writeFirst_bounded (a : Nat) (ws : List WriteBeat) : Bounded (s.writeFirst a ws) := by
  have hf : Bounded (s.forward (.write a ws)) := { h with }
  cases ws with
  | nil => exact hf
  | cons w ws => exact State.learnWrite_bounded hf a w

omit h in
theorem laterWrites_bounded (a : Nat) (ws : List WriteBeat) : ∀ f ∈ laterWrites a ws, ∀ t, Bounded t → Bounded (f t) := by
  induction ws generalizing a with
  | nil => exact fun _ hm => absurd hm List.not_mem_nil
  | cons w ws ih => exact List.forall_mem_cons.2 ⟨fun t ht => State.learnWrite_bounded ht a w, ih (a + 64)⟩

theorem State.fetchRead_bounded (r : State → FetchReq) : Bounded (s.fetchRead r) := by
  unfold State.fetchRead
  split
  · exact State.acceptFetch_bounded (State.arrived_bounded h) _
  · exact { h with }

theorem State.answerRead_bounded (cls : ReqClass) (a : Nat) (mem : List Byte) : Bounded (s.answerRead cls a mem) :=
  State.answerRead_cases s cls a mem (State.answerGoWord_bounded h cls) (State.answerEvent_bounded h cls) (State.answerRetirement_bounded h cls)
    (State.answer_bounded h cls a)

omit h in
theorem State.answerReads_bounded (cls : ReqClass) (a : Nat) (mems : List (List Byte)) (h : Bounded s) :
    Bounded (s.answerReads cls a mems) := by
  induction mems generalizing s a with
  | nil => exact h
  | cons mem mems ih => exact ih _ (State.answerRead_bounded h cls a mem)

theorem State.malformed_bounded (dir : Direction) (a n : Nat) (cls : ReqClass) (data : List WriteBeat) (mem : List Byte) :
    Bounded (s.malformed dir a n cls data mem) := by
  unfold State.malformed
  extract_lets f
  split
  · exact State.forwarded_bounded h f
  · exact State.fetchRead_bounded h _
  · exact State.answer_bounded (State.forwarded_bounded h f) _ a mem

theorem State.holdExpires_bounded : Bounded s.holdExpires := by
  unfold State.holdExpires
  split
  · exact (h.quiet (State.answerHeld_quiet (.refl s) _)).count _ _
  · exact h

/-! ### Link loss and link reset -/

theorem State.lostNow_bounded : Bounded s.lostNow := by
  unfold State.lostNow
  split
  · have ht : Bounded { s with link := { s.link with silence := silenceLimit } } := { h with silence := Nat.le_refl _ }
    exact ht.quiet (State.enterLost_quiet (.refl _) rfl)
  · exact h

theorem State.resetSlotInk_bounded (i : SlotIx) : Bounded (s.resetSlotInk i) := by
  unfold State.resetSlotInk
  extract_lets k
  split
  · exact h.quiet (State.swathDebit_quiet (.refl s) _ _)
  · exact h.quiet (State.releaseNeed_quiet (.refl s) _)
  · exact h

theorem State.mediaReset_bounded : Bounded s.mediaReset := by
  unfold State.mediaReset
  extract_lets u v
  have hu : Bounded u := h.foldl (fun t sid ht => State.spoil_bounded ht sid .linkReset) _
  have hd : Bounded u.dropPending := hu.modMedia (List.length_filter_le ..)
  have hv : Bounded v := hd.modMedia (Nat.le_of_eq (List.length_map _))
  split
  · split
    · exact hv.modMedia (Nat.le_refl _)
    · exact hv
  · exact hv

omit h in
/-- A table of cleared slots. -/
theorem get_replicate (n : Slot) (i : SlotIx) : (Vector.replicate 64 n).get i = n := by
  rw [slots_get_eq]
  exact Vector.getElem_replicate _

theorem State.clearFlow_bounded : Bounded s.clearFlow :=
  { h with
    retired := Nat.zero_le _
    windows := Nat.zero_le _
    lateHeaders := fun i => by
      change ((Vector.replicate 64 Slot.reset).get i).lateHeaders ≤ 15
      rw [get_replicate]
      exact Nat.zero_le _
    faults := fun i => by
      change ((Vector.replicate 64 Slot.reset).get i).faults ≤ 15
      rw [get_replicate]
      exact Nat.zero_le _ }

theorem State.linkResetSteps_bounded : Bounded s.linkResetSteps := by
  unfold State.linkResetSteps
  extract_lets lost boundary p l ink flow m
  have hp : Bounded p := h.post ..
  have hl : Bounded l := { hp with silence := Nat.zero_le _ }
  have hink : Bounded ink := hl.foldl (fun t i ht => State.resetSlotInk_bounded ht i) _
  have hclear : Bounded ink.clearFlow := State.clearFlow_bounded hink
  have hflow : Bounded flow := State.mediaReset_bounded (hclear.quiet (State.serviceReset_quiet (.refl _)))
  have hm : Bounded m := hflow.setMail _
  split
  · exact Bounded.stirWalk hm
  · split
    · exact Bounded.stir hm
    · exact hm.wake _

theorem State.linkResets_bounded : Bounded s.linkResets := State.together_bounded h fun _ ht => State.linkResetSteps_bounded ht

/-! ### Sensor lines -/

theorem State.setLine_bounded (i : LineId) (l : Line) : Bounded (s.setLine i l) := by
  unfold State.setLine
  cases i with
  | lowFloat c | fullFloat c | presence c => exact h.modInk ..
  | capped | openLine | wiperHome | carriage => exact h.modSvc (Nat.le_refl _)
  | rollPresent r | rollEnd r => exact h.modRoll ..
  | feedPath | platen | cutterHome => exact h.modMedia (Nat.le_refl _)

theorem State.lineChanged_bounded (i : LineId) (old : LineState) : Bounded (s.lineChanged i old) := by
  cases i with
  | lowFloat c => exact h.quiet (State.lowFloatChanged_quiet (.refl s) c old)
  | fullFloat c => exact State.fullFloatChanged_bounded h c old
  | presence c => exact State.presenceChanged_bounded h c
  | capped => exact h.quiet (State.cappedChanged_quiet (.refl s) old)
  | openLine => exact h.quiet (State.openChanged_quiet (.refl s))
  | wiperHome => exact h.quiet (State.wiperChanged_quiet (.refl s) old)
  | carriage => exact h.quiet (State.carriageChanged_quiet (.refl s))
  | rollPresent r => exact h.quiet (State.rollPresentChanged_quiet (.refl s) r)
  | rollEnd r => exact h.quiet (State.rollEndChanged_quiet (.refl s) r)
  | feedPath => exact h.quiet (State.feedPathChanged_quiet (.refl s))
  | platen => exact h.quiet (State.platenChanged_quiet (.refl s))
  | cutterHome => exact h.quiet (State.cutterChanged_quiet (.refl s) old)

theorem State.lineCommand_bounded (i : LineId) (b : Bool) : Bounded (s.lineCommand i b) := by
  unfold State.lineCommand
  extract_lets old u
  have hu : Bounded u := State.setLine_bounded h i _
  split
  · exact hu
  · exact State.lineChanged_bounded hu i old

theorem State.returnCommand_bounded (i : LineId) : Bounded (s.returnCommand i) := State.lineChanged_bounded (State.setLine_bounded h i _) i _

theorem State.lineInput_bounded (i : LineId) (b : Bool) (how : LineInput) : Bounded (s.lineInput i b how) := by
  cases how with
  | filtered => exact State.lineCommand_bounded h i b
  | pin => exact State.setLine_bounded h i _

theorem State.returnInput_bounded (i : LineId) (b : Bool) (how : LineInput) : Bounded (s.returnInput i b how) := by
  cases how with
  | filtered =>
    cases b with
    | true => exact State.returnCommand_bounded h i
    | false => exact State.lineCommand_bounded h i false
  | pin => exact State.setLine_bounded h i _

theorem State.impliedInactive_bounded (i : LineId) : Bounded (s.impliedInactive i) := by
  unfold State.impliedInactive
  split
  · exact State.setLine_bounded h i _
  · exact h

theorem State.sampleLine_bounded (i : LineId) : Bounded (s.sampleLine i) := by
  unfold State.sampleLine
  extract_lets l l' u
  have hu : Bounded u := State.setLine_bounded h i l'
  split
  · exact hu
  · exact State.lineChanged_bounded hu i _

theorem State.cappedActive_bounded : Bounded s.cappedActive := by
  unfold State.cappedActive
  extract_lets u
  have hu : Bounded u := State.impliedInactive_bounded h _
  split
  · exact State.lineCommand_bounded hu _ _
  · exact State.returnCommand_bounded hu _

theorem State.pathFilled_bounded : Bounded s.pathFilled := by
  unfold State.pathFilled
  split
  · split
    · exact State.impliedInactive_bounded h _
    · exact h
  · exact h

/-! ### Expiries -/

theorem State.starvedNow_bounded : Bounded s.starvedNow := by
  unfold State.starvedNow
  split
  · split
    · exact h.quiet (State.starveAct_quiet ((Quiet.refl s).setFlow (a := { s.flow with starveMs := max s.flow.starveMs s.starveLimitMs }) rfl) _ _)
    · exact h
  · exact h

theorem State.stallNow_bounded : Bounded s.stallNow := by
  unfold State.stallNow
  split
  · split
    · exact h
    · exact State.opStalls_bounded h _
  · exact h

theorem State.cutFaultNow_bounded : Bounded s.cutFaultNow := by
  unfold State.cutFaultNow
  split
  · split
    · exact State.cutFails_bounded h _
    · exact h
  · exact h

theorem State.callTimesOut_bounded : Bounded s.callTimesOut := h.quiet (State.callTimesOut_quiet (.refl s))
theorem State.capFails_bounded : Bounded s.capFails := h.quiet (State.capFails_quiet (.refl s))
theorem State.wiperFails_bounded : Bounded s.wiperFails := h.quiet (State.wiperFails_quiet (.refl s))
theorem State.suctionEnds_bounded : Bounded s.suctionEnds := h.quiet (State.suctionEnds_quiet (.refl s))
theorem State.decapExpires_bounded (c : Chan) : Bounded (s.decapExpires c) := h.quiet (State.decapExpires_quiet (.refl s) c)
theorem State.idleExpires_bounded : Bounded s.idleExpires := h.quiet (State.idleExpires_quiet (.refl s))

/-! ### One millisecond -/

theorem State.tickHold_bounded : Bounded s.tickHold := by
  unfold State.tickHold
  split
  · extract_lets n l u
    have hu : Bounded u := { h with }
    split
    · exact State.holdExpires_bounded hu
    · exact hu
  · exact h

theorem State.tickStarve_bounded : Bounded s.tickStarve := by
  unfold State.tickStarve
  split
  · exact Bounded.wake (s := { s with flow := { s.flow with starveMs := s.flow.starveMs + 1 } }) { h with } _
  · exact h

theorem State.tickStroke_bounded (c : Chan) : Bounded (s.tickStroke c) := by
  unfold State.tickStroke
  split
  · extract_lets u
    have hu : Bounded u := h.modInk ..
    split
    · exact State.strokeEnds_bounded hu c
    · exact hu
  · exact h

theorem State.tickCall_bounded : Bounded s.tickCall := by
  unfold State.tickCall
  split
  · extract_lets u
    have hu : Bounded u := h.modSvc (Nat.le_refl _)
    split
    · exact State.callTimesOut_bounded hu
    · exact hu
  · exact h

theorem State.tickMotor_bounded : Bounded s.tickMotor := by
  unfold State.tickMotor
  split
  · extract_lets u
    have hu : Bounded u := h.modSvc (Nat.le_refl _)
    have cap : Bounded (if capLimit ≤ u.svc.motorMs then u.capFails else u) := by
      split
      · exact State.capFails_bounded hu
      · exact hu
    split
    · exact cap
    · exact cap
    · split
      · exact State.wiperFails_bounded hu
      · exact hu
    · split
      · exact State.suctionEnds_bounded hu
      · exact hu
    · exact hu
  · exact h

theorem State.tickDecap_bounded (c : Chan) : Bounded (s.tickDecap c) := by
  unfold State.tickDecap
  split
  · extract_lets n u
    have hu : Bounded u := h.modSvc (Nat.le_refl _)
    split
    · exact State.decapExpires_bounded hu c
    · exact hu
  · exact h

theorem State.tickIdle_bounded : Bounded s.tickIdle := by
  unfold State.tickIdle
  split
  · extract_lets u
    have hu : Bounded u := h.modSvc (Nat.le_refl _)
    split
    · exact State.idleExpires_bounded hu
    · exact hu
  · exact h

theorem State.tickOp_bounded : Bounded s.tickOp := by
  unfold State.tickOp
  split
  · extract_lets o u
    have hu : Bounded u := h.modMedia (Nat.le_refl _)
    split
    · exact State.opLimit_bounded hu o
    · exact hu
  · exact h

theorem State.tickLink_bounded : Bounded s.tickLink := by
  unfold State.tickLink
  extract_lets l u
  have hu : Bounded u := { h with silence := Nat.min_le_left .. }
  exact hu.wake _

omit h in
theorem tickParts_bounded : ∀ f ∈ tickParts, ∀ t, Bounded t → Bounded (f t) := by
  simp only [tickParts, List.forall_mem_append, List.forall_mem_cons, List.forall_mem_map]
  exact ⟨⟨⟨⟨⟨fun _ ht => { ht with }, fun _ => State.tickLink_bounded, fun _ => State.tickHold_bounded, fun _ => State.tickStarve_bounded, nofun⟩,
    fun c _ _ ht => State.tickStroke_bounded ht c⟩, fun _ => State.tickCall_bounded, fun _ => State.tickMotor_bounded, nofun⟩,
    fun c _ _ ht => State.tickDecap_bounded ht c⟩, fun _ => State.tickIdle_bounded, fun _ => State.tickOp_bounded, nofun⟩

theorem State.sampleLines_bounded : Bounded s.sampleLines :=
  runEvents_bounded h (List.forall_mem_map.2 fun i _ _ ht => State.sampleLine_bounded ht i)

theorem State.tick_bounded : Bounded s.tick := by
  unfold State.tick
  extract_lets u
  have hu : Bounded u := runEvents_bounded (s := s.cleared) { h with } tickParts_bounded
  split
  · exact State.sampleLines_bounded hu
  · exact hu

/-! ### Commands -/

/-- A command that is one event stays within the bounds where its own effect does. -/
theorem exec_bounded_of_event {c : Instr} {f : State → State} (e : exec c s = .next (s.event f)) (hf : ∀ t, Bounded t → Bounded (f t)) :
    ∃ t, exec c s = .next t ∧ Bounded t := ⟨_, e, State.event_bounded h hf⟩

theorem exec_bounded_of_directive {c : Instr} {k : Nat} {w : WriteBeat} {run : State → Taken}
    (e : exec c s = .next (s.event fun s => (s.triggerArrives w).trigger k w run)) (hr : ∀ t, Bounded t → Bounded (run t).after) :
    ∃ t, exec c s = .next t ∧ Bounded t :=
  exec_bounded_of_event h e fun _ ht => State.trigger_bounded (State.forwarded_bounded ht _) k w hr

/-- A command that writes an exchange beat. -/
theorem exec_bounded_of_exchange {c : Instr} {i : SlotIx} {w : WriteBeat}
    (e : exec c s = .next (s.event fun s => (s.slotWriteArrives i 0xC0 w).exchangeWrite i w)) : ∃ t, exec c s = .next t ∧ Bounded t :=
  exec_bounded_of_event h e fun _ ht => State.exchangeWrite_bounded (State.forwarded_bounded ht _) i w

/-- A command of a line with a row for each direction. -/
theorem exec_bounded_of_line {c : Instr} {i : LineId} {b : Bool} {how : LineInput} (e : exec c s = .next (s.event fun s => s.lineInput i b how)) :
    ∃ t, exec c s = .next t ∧ Bounded t := exec_bounded_of_event h e fun _ ht => State.lineInput_bounded ht i b how

/-- A command of a line with one row alone. -/
theorem exec_bounded_of_return {c : Instr} {i : LineId} {b : Bool} {how : LineInput} (e : exec c s = .next (s.event fun s => s.returnInput i b how)) :
    ∃ t, exec c s = .next t ∧ Bounded t := exec_bounded_of_event h e fun _ ht => State.returnInput_bounded ht i b how

end

/-- A power-on reset leaves every list and count within its bound. -/
theorem State.powerOn_bounded (v : BitVec 4) : Bounded (State.powerOn v) where
  events := Nat.le_of_ble_eq_true rfl
  overflow := Nat.zero_le _
  retired := Nat.zero_le _
  requests := Nat.zero_le _
  sheets := Nat.zero_le _
  windows := Nat.zero_le _
  silence := Nat.zero_le _
  counters i := by cases i <;> exact Nat.zero_le _
  lateHeaders i := by
    change ((Vector.replicate 64 Slot.reset).get i).lateHeaders ≤ 15
    rw [get_replicate]
    exact Nat.zero_le _
  faults i := by
    change ((Vector.replicate 64 Slot.reset).get i).faults ≤ 15
    rw [get_replicate]
    exact Nat.zero_le _
  nozzles c := by
    change ((PerChan.of fun _ => HealthChan.powerOn).get c).nozzles.length = 1024
    rw [PerChan.get_of]
    exact List.length_replicate

theorem State.repower_bounded (s : State) (v : BitVec 4) : Bounded (s.repower v) := by
  have hp := State.powerOn_bounded v
  have hq : Bounded { State.powerOn v with pending := s.pending } := { hp with }
  exact hq.foldl (fun t i ht => State.setLine_bounded ht i _) _

theorem exec_bounded {s : State} (h : Bounded s) (c : Instr) : ∃ t, exec c s = .next t ∧ Bounded t := by
  cases c with
  | powerOnReset v => exact ⟨s.repower v, rfl, State.repower_bounded s v⟩
  | stationInitialCapState b =>
    refine exec_bounded_of_event h rfl fun t ht => ?_
    split
    · exact State.lineCommand_bounded ht _ b
    · exact ht
  | linkReset => exact exec_bounded_of_event h rfl fun _ => State.linkResets_bounded
  | linkLost => exact exec_bounded_of_event h rfl fun _ => State.lostNow_bounded
  | malformedRequest dir a n cls data mem => exact exec_bounded_of_event h rfl fun _ ht => State.malformed_bounded ht dir _ n cls data mem
  | plainWrite a ws =>
    exact ⟨_, rfl, runEvents_bounded (State.event_bounded h fun _ ht => State.writeFirst_bounded (State.arrived_bounded ht) _ ws) (laterWrites_bounded _ _)⟩
  | headerWrite i k w => exact exec_bounded_of_event h rfl fun _ ht => (State.forwarded_bounded ht _).headerWrite i _ w
  | openWord i w => exact exec_bounded_of_exchange h rfl
  | commitWord i w => exact exec_bounded_of_exchange h rfl
  | partialCommit i w => exact exec_bounded_of_exchange h rfl
  | planeWrite a w => exact exec_bounded_of_event h rfl fun _ ht => State.writeFirst_bounded (State.arrived_bounded ht) _ _
  | goWordRead cls i mem =>
    refine exec_bounded_of_event h rfl fun t ht => ?_
    split
    · exact State.fetchRead_bounded ht _
    · exact State.answerGoWord_bounded (State.forwarded_bounded ht _) cls i
  | goWordHoldExpiry => exact exec_bounded_of_event h rfl fun _ => State.holdExpires_bounded
  | planeFetchRead cls a mems =>
    refine exec_bounded_of_event h rfl fun t ht => ?_
    extract_lets f
    split
    · exact State.fetchRead_bounded ht _
    · exact State.answerReads_bounded cls _ mems (State.forwarded_bounded ht f)
  | spitFetchRead k mem => exact exec_bounded_of_event h rfl fun _ ht => State.fetchRead_bounded ht _
  | mailboxBodyWrite k w => exact exec_bounded_of_event h rfl fun _ ht => (State.forwarded_bounded ht _).setMail _
  | directiveUnknownKind w => exact exec_bounded_of_directive h rfl fun _ ht => ht
  | pause w => exact exec_bounded_of_directive h rfl fun _ => State.doPause_bounded
  | resume w => exact exec_bounded_of_directive h rfl fun _ => State.doResume_bounded
  | cancelSheet w => exact exec_bounded_of_directive h rfl fun _ => State.doCancelSheet_bounded
  | cancelAll w => exact exec_bounded_of_directive h rfl fun _ => State.doCancelAll_bounded
  | cartridgeInstalled w => exact exec_bounded_of_directive h rfl fun _ ht => State.doCartridge_bounded ht _
  | calibratePump w => exact exec_bounded_of_directive h rfl fun _ ht => State.doCalibrate_bounded ht _
  | rollLoaded w => exact exec_bounded_of_directive h rfl fun _ ht => State.doRollLoaded_bounded ht _
  | rollUnload w => exact exec_bounded_of_directive h rfl fun _ ht => State.doRollUnload_bounded ht _
  | mediaReset w => exact exec_bounded_of_directive h rfl fun _ => State.doMediaReset_bounded
  | serviceNow w => exact exec_bounded_of_directive h rfl fun _ ht => State.doServiceNow_bounded ht _
  | serviceReset w => exact exec_bounded_of_directive h rfl fun _ ht => State.doServiceReset_bounded ht _
  | headReplaced w => exact exec_bounded_of_directive h rfl fun _ ht => State.doHeadReplaced_bounded ht _
  | releaseSlot w => exact exec_bounded_of_directive h rfl fun _ ht => State.doRelease_bounded ht _
  | setMasks w => exact exec_bounded_of_directive h rfl fun _ ht => State.doSetMasks_bounded ht _
  | countersClear w => exact exec_bounded_of_directive h rfl fun _ => State.doCountersClear_bounded
  | starved => exact exec_bounded_of_event h rfl fun _ => State.starvedNow_bounded
  | strokeComplete c => exact exec_bounded_of_event h rfl fun _ ht => State.strokeEnds_bounded ht c
  | lowFloatAssert c how => exact exec_bounded_of_line h rfl
  | lowFloatDeassert c how => exact exec_bounded_of_line h rfl
  | fullFloatAssert c how => exact exec_bounded_of_line h rfl
  | fullFloatDeassert c how => exact exec_bounded_of_line h rfl
  | presenceActive c how => exact exec_bounded_of_line h rfl
  | presenceInactive c how => exact exec_bounded_of_line h rfl
  | callTimeout => exact exec_bounded_of_event h rfl fun _ => State.callTimesOut_bounded
  | carriageArrives how => exact exec_bounded_of_line h rfl
  | stationLost how => exact exec_bounded_of_line h rfl
  | cappedLineActive b how =>
    refine exec_bounded_of_event h rfl fun t ht => ?_
    split
    · exact State.cappedActive_bounded ht
    · exact State.returnInput_bounded ht _ b how
  | openLineActive b how =>
    refine exec_bounded_of_event h rfl fun t ht => State.returnInput_bounded ?_ _ b how
    split
    · exact State.impliedInactive_bounded ht _
    · exact ht
  | capFault => exact exec_bounded_of_event h rfl fun _ => State.capFails_bounded
  | wiperHomeActive b how => exact exec_bounded_of_return h rfl
  | wiperFault => exact exec_bounded_of_event h rfl fun _ => State.wiperFails_bounded
  | suctionEnd => exact exec_bounded_of_event h rfl fun _ => State.suctionEnds_bounded
  | decapExpiry c => exact exec_bounded_of_event h rfl fun _ ht => State.decapExpires_bounded ht c
  | idleTimerExpiry => exact exec_bounded_of_event h rfl fun _ => State.idleExpires_bounded
  | feedEncoderPulse => exact exec_bounded_of_event h rfl fun t ht => ht.quiet (State.pulse_quiet (.refl t))
  | feedStall => exact exec_bounded_of_event h rfl fun _ => State.stallNow_bounded
  | cutterHomeActive b how => exact exec_bounded_of_return h rfl
  | cutterFault => exact exec_bounded_of_event h rfl fun _ => State.cutFaultNow_bounded
  | rollPresentActive r how => exact exec_bounded_of_line h rfl
  | rollPresentInactive r how => exact exec_bounded_of_line h rfl
  | rollEndLineActive r b how => exact exec_bounded_of_return h rfl
  | feedPathClearActive b how => exact exec_bounded_of_return h rfl
  | platenMediaActive how =>
    refine exec_bounded_of_event h rfl fun t ht => State.lineInput_bounded ?_ _ _ how
    split
    · exact State.pathFilled_bounded ht
    · exact ht
  | platenMediaInactive how => exact exec_bounded_of_line h rfl
  | eventBeatRead cls mem =>
    refine exec_bounded_of_event h rfl fun t ht => ?_
    split
    · exact State.fetchRead_bounded ht _
    · exact State.answerEvent_bounded (State.forwarded_bounded ht _) cls
  | retirementBeatRead cls mem =>
    refine exec_bounded_of_event h rfl fun t ht => ?_
    split
    · exact State.fetchRead_bounded ht _
    · exact State.answerRetirement_bounded (State.forwarded_bounded ht _) cls

/-- Settles O59. -/
theorem resetKeepsTheBounds : Obligations.ResetKeepsTheBounds := State.powerOn_bounded 0

/-- Settles O60: an empty queue is a millisecond, any other gives its front command on a state that is within the same bounds. -/
theorem everyStepKeepsTheBounds : Obligations.EveryStepKeepsTheBounds := by
  intro s h
  unfold step
  split
  · exact ⟨_, rfl, State.tick_bounded h⟩
  · next c rest _ =>
    have hrest : Bounded { s with pending := rest } := { h with }
    exact exec_bounded hrest c

end Sys2Proof.Machine

/-! O1, O24, O34, O58: one step, one count, one evaluation of the low flag, and what the reactions keep. -/
namespace Sys2Proof.Machine

/-- Settles O1. -/
theorem stepTakesTheFrontCommand : Obligations.StepTakesTheFrontCommand := fun _ _ _ => rfl

/-- Settles O58: the first clauses are what every reaction keeps, the last what it keeps while no read waits. -/
theorem reactionsKeep : Obligations.ReactionsKeep := by
  intro n s t
  have k : Keeps s t := settle_keeps n (.refl s)
  refine ⟨k.pending, k.time, k.straps, k.lines, k.mail, k.masks, k.suspend, k.fault, k.expected, k.lastAccepted, k.openSheet, fun i => (k.slots i).shadow,
    fun c => ⟨(k.ink c).cart, (k.ink c).estimate, (k.ink c).synced⟩, k.paused, fun x hx => ?_, fun hw hs => ?_⟩
  · obtain ⟨v, hv, same⟩ := k.table x hx
    exact ⟨v, hv, same.sid, same.spoiled, same.pending⟩
  · have q : Quiet s t := settle_quiet n (.refl s) hw hs
    exact ⟨q.recsStand, q.retiredStand, q.countersStand⟩

/-! ### Counting (R57) -/

section
variable {s : State} {i : CounterId} {n : Nat}

theorem State.count_of_le (h : s.counters.get i + n ≤ max32) : s.count i n = { s with counters := s.counters.set i (s.counters.get i + n) } := if_pos h

theorem State.count_of_gt (h : max32 < s.counters.get i + n) :
    s.count i n = { s with counters := s.counters.set i ((s.counters.get i + n) % (max32 + 1)),
                           events := s.posted .counterWrap i.num ((s.counters.get i + n) % (max32 + 1)) 0 } := if_neg (Nat.not_le.mpr h)

end

/-- Settles O24. -/
theorem countersWrapPast32Bits : Obligations.CountersWrapPast32Bits := fun _ _ _ => ⟨State.count_of_le, State.count_of_gt⟩

/-! ### The low flag (R90) -/

/-- The level of a channel stands at or below its low mark. -/
def State.atLowMark (s : State) (c : Chan) : Bool := decide ((s.ink.get c).level ≤ (s.chanProf c).lowMark * 1000000)

/-- An evaluation of the low flag changes that flag and posts LOW where it sets the clear flag of a SYNCED channel. -/
theorem State.evalLow_eq (s : State) (c : Chan) :
    s.evalLow c = { s with
      ink := s.ink.set c { s.ink.get c with low := s.atLowMark c },
      events := if s.atLowMark c = true ∧ (s.ink.get c).low = false ∧ (s.ink.get c).synced = true then s.posted .low c.num 0 (s.ink.get c).level
        else s.events } := by
  by_cases g : s.atLowMark c = true ∧ (s.ink.get c).low = false ∧ (s.ink.get c).synced = true
  · rw [if_pos g]
    obtain ⟨hlow, hflag, hsync⟩ := g
    refine if_pos ?_
    simp only [Bool.and_eq_true, Bool.not_eq_true']
    exact ⟨⟨hlow, hflag⟩, hsync⟩
  · rw [if_neg g]
    refine if_neg fun e => g ?_
    simp only [Bool.and_eq_true, Bool.not_eq_true'] at e
    exact ⟨e.1.1, e.1.2, e.2⟩

/-- Settles O34. -/
theorem lowFlagAndLowEvent : Obligations.LowFlagAndLowEvent := State.evalLow_eq

end Sys2Proof.Machine

/-! O16, O39, O40, O43, O55, O56: the mailbox and the directives that answer from one record. -/
namespace Sys2Proof.Machine

/-! ### A directive that is taken in UP (R179, R180) -/

section
variable {s : State} {w : WriteBeat} (h : s.takesTrigger w)
include h

/-- A directive that is taken runs, is answered, and its reactions follow. -/
theorem State.directive_event (u : s.link.state = .up) (k : Nat) (run : State → Taken) {c : ResultCode} {d : Nat} {t : State}
    (e : run (s.atDirective w) = ⟨c, d, t⟩) :
    s.event (fun s => (s.triggerArrives w).trigger k w run) = settle settleFuel (t.putResult w.triggerSeq k c d) := by
  change settle settleFuel ((s.cleared.triggerArrives w).trigger k w run) = _
  rw [State.trigger_takes h u, e]

/-- The effect of a directive that is taken, as the statements say it. -/
theorem Effects.of_directive (up : s.link.state = .up) {i : Instr} (k : Nat) (run : State → Taken) {c : ResultCode} {d : Nat} {t u : State}
    (x : exec i s = .next (s.event fun s => (s.triggerArrives w).trigger k w run)) (e : run (s.atDirective w) = ⟨c, d, t⟩)
    (hu : { t.putResult w.triggerSeq k c d with agenda := u.agenda } = u) : Effects i s u := by
  refine Effects.of x ?_
  rw [State.trigger_takes h up, e]
  exact hu

/-- A directive whose effect schedules nothing is its effect and its answer. -/
theorem State.directive_next (r : Ready s) (k : Nat) (run : State → Taken) {c : ResultCode} {d : Nat} {t u : State}
    (e : run (s.atDirective w) = ⟨c, d, t⟩) (hu : t.putResult w.triggerSeq k c d = u) (g : u.agenda = []) :
    s.event (fun s => (s.triggerArrives w).trigger k w run) = u := by
  rw [State.directive_event h r.up k run e, hu]
  exact settle_none _ g

end

/-! ### The channel of a number, and ranges -/

theorem inRange_iff (lo hi v : Nat) : inRange lo hi v = true ↔ lo ≤ v ∧ v ≤ hi := by
  unfold inRange
  rw [Bool.and_eq_true, decide_eq_true_eq, decide_eq_true_eq]

theorem Chan.ofNum_num (c : Chan) : Chan.ofNum? c.num = some c := by cases c <;> rfl

theorem Chan.ofNum_eq_none {n : Nat} (h : 4 < n) : Chan.ofNum? n = none := by
  obtain ⟨m, rfl⟩ : ∃ m, n = m + 5 := ⟨n - 5, by omega⟩
  rfl

/-! ### RELEASE_SLOT (R39) -/

theorem State.doRelease_of_retired {s : State} {b : List Byte} {i : SlotIx} (hb : byteAt b 0 = i.val) (hi : (s.slot i).st = .retired) :
    s.doRelease b = ⟨.done, 0, (s.modSlot i Slot.release).wake [.heldRead]⟩ := by
  have e : bodyFirst b = i.val := hb
  unfold State.doRelease
  simp only [e, i.isLt, dite_true, Fin.eta, hi, if_true]

theorem State.doRelease_of_not_retired {s : State} {b : List Byte} {i : SlotIx} (hb : byteAt b 0 = i.val) (hi : (s.slot i).st ≠ .retired) :
    s.doRelease b = ⟨.state, (s.slot i).st.code, s⟩ := by
  have e : bodyFirst b = i.val := hb
  unfold State.doRelease
  simp only [e, i.isLt, dite_true, Fin.eta, hi, if_false]

theorem State.doRelease_of_no_slot {s : State} {b : List Byte} (hb : 63 < byteAt b 0) : s.doRelease b = ⟨.invalid, 0, s⟩ :=
  dif_neg (Nat.not_lt.mpr hb)

/-- Settles O16. -/
theorem releaseSlotFreesARetiredSlot : Obligations.ReleaseSlotFreesARetiredSlot := by
  refine fun s w h => ⟨fun i hup hb hi => ?_, fun i r hb hi => ?_, fun r hb => ?_⟩
  · exact Effects.of_directive h hup 13 _ rfl (State.doRelease_of_retired (s := s.atDirective w) hb hi) rfl
  · exact congrArg Host.Outcome.next (State.directive_answers h r 13 _ _ _ (State.doRelease_of_not_retired (s := s.atDirective w) hb hi))
  · exact congrArg Host.Outcome.next (State.directive_answers h r 13 _ _ _ (State.doRelease_of_no_slot hb))

/-! ### CALIBRATE_PUMP (R104) -/

section
variable {s : State} {b : List Byte} {c : Chan}

theorem State.doCalibrate_of_no_channel (hb : 4 < byteAt b 0) : s.doCalibrate b = ⟨.invalid, 1, s⟩ := by
  unfold State.doCalibrate
  rw [show Chan.ofNum? (bodyFirst b) = none from Chan.ofNum_eq_none hb]

variable (hb : byteAt b 0 = c.num)
include hb

theorem State.doCalibrate_of_measuring (hc : (s.ink.get c).cal = .measuring) : s.doCalibrate b = ⟨.busy, 0, s⟩ := by
  unfold State.doCalibrate
  rw [show Chan.ofNum? (bodyFirst b) = some c from (congrArg Chan.ofNum? hb).trans (Chan.ofNum_num c)]
  dsimp only [State.inkOf]
  rw [hc]

theorem State.doCalibrate_of_armed (hc : (s.ink.get c).cal = .armed) : s.doCalibrate b = ⟨.done, CalState.armed.code, s⟩ := by
  unfold State.doCalibrate
  rw [show Chan.ofNum? (bodyFirst b) = some c from (congrArg Chan.ofNum? hb).trans (Chan.ofNum_num c)]
  dsimp only [State.inkOf]
  rw [hc]

theorem State.doCalibrate_arms (hm : (s.ink.get c).cal ≠ .measuring) (ha : (s.ink.get c).cal ≠ .armed) :
    s.doCalibrate b = ⟨.done, (s.ink.get c).cal.code, s.modInk c fun k => { k with cal := .armed, measured := none }⟩ := by
  unfold State.doCalibrate
  rw [show Chan.ofNum? (bodyFirst b) = some c from (congrArg Chan.ofNum? hb).trans (Chan.ofNum_num c)]
  dsimp only [State.inkOf]
  split
  · next e => exact absurd e hm
  · next e => exact absurd e ha
  · rfl

end

/-- CALIBRATE_PUMP arms a channel that is neither MEASURING nor ARMED. -/
theorem exec_calibratePump_arms {s : State} {w : WriteBeat} (r : Ready s) (h : s.takesTrigger w) {c : Chan} (hb : byteAt s.mail.body 0 = c.num)
    (hm : (s.ink.get c).cal ≠ .measuring) (ha : (s.ink.get c).cal ≠ .armed) :
    exec (.calibratePump w) s = .next { s.afterDirective w 6 .done (s.ink.get c).cal.code with
      ink := s.ink.set c { s.ink.get c with cal := .armed, measured := none } } :=
  congrArg Host.Outcome.next (State.directive_next h r 6 _ (State.doCalibrate_arms (s := s.atDirective w) hb hm ha) rfl r.agenda)

/-- Settles O40: one case for each calibration state. -/
theorem calibratePump : Obligations.CalibratePump := by
  refine fun s w r h => ⟨fun hb => ?_, fun c hb => ⟨fun hc => ?_, fun hc => ?_, fun hc => ?_, fun hc => ?_, fun hc => ?_⟩⟩
  · exact congrArg Host.Outcome.next (State.directive_answers h r 6 _ _ _ (State.doCalibrate_of_no_channel hb))
  · exact congrArg Host.Outcome.next (State.directive_answers h r 6 _ _ _ (State.doCalibrate_of_measuring (s := s.atDirective w) hb hc))
  · exact congrArg Host.Outcome.next (State.directive_answers h r 6 _ _ _ (State.doCalibrate_of_armed (s := s.atDirective w) hb hc))
  all_goals
    have e := exec_calibratePump_arms r h hb (by rw [hc]; decide) (by rw [hc]; decide)
    rwa [hc] at e

/-! ### CARTRIDGE_INSTALLED (R103) -/

section
variable {s : State} {b : List Byte} {c : Chan}

theorem State.doCartridge_of_no_channel (hb : 4 < byteAt b 0) : s.doCartridge b = ⟨.invalid, 1, s⟩ := by
  unfold State.doCartridge
  rw [show Chan.ofNum? (bodyFirst b) = none from Chan.ofNum_eq_none hb]

variable (hb : byteAt b 0 = c.num)
include hb

theorem State.doCartridge_of_volume (hv : ¬ (10000 ≤ leAt b 4 4 ∧ leAt b 4 4 ≤ 2000000)) : s.doCartridge b = ⟨.invalid, 2, s⟩ := by
  unfold State.doCartridge
  rw [show Chan.ofNum? (bodyFirst b) = some c from (congrArg Chan.ofNum? hb).trans (Chan.ofNum_num c)]
  refine if_pos ?_
  rw [Bool.not_eq_true', ← Bool.not_eq_true, inRange_iff]
  exact hv

variable (hv : 10000 ≤ leAt b 4 4 ∧ leAt b 4 4 ≤ 2000000)
include hv

theorem State.doCartridge_of_present (hc : (s.ink.get c).cart = .present) :
    s.doCartridge b = ⟨.done, 0, (s.modInk c fun k => k.declare (leAt b 4 4) (BitVec.ofNat 32 (leAt b 8 4))).stir⟩ := by
  unfold State.doCartridge
  rw [show Chan.ofNum? (bodyFirst b) = some c from (congrArg Chan.ofNum? hb).trans (Chan.ofNum_num c)]
  refine (if_neg (by rw [show inRange 10000 2000000 (bodyWord4 b) = true from (inRange_iff ..).2 hv]; decide)).trans ?_
  dsimp only [State.inkOf]
  rw [hc]
  rfl

theorem State.doCartridge_refused (hc : (s.ink.get c).cart ≠ .present) : s.doCartridge b = ⟨.state, (s.ink.get c).cart.code, s⟩ := by
  unfold State.doCartridge
  rw [show Chan.ofNum? (bodyFirst b) = some c from (congrArg Chan.ofNum? hb).trans (Chan.ofNum_num c)]
  refine (if_neg (by rw [show inRange 10000 2000000 (bodyWord4 b) = true from (inRange_iff ..).2 hv]; decide)).trans ?_
  dsimp only [State.inkOf]
  split
  · next e => exact absurd e hc
  · rfl

end

/-- CARTRIDGE_INSTALLED of a channel whose cartridge is not PRESENT is refused with its state. -/
theorem exec_cartridgeInstalled_refused {s : State} {w : WriteBeat} (r : Ready s) (h : s.takesTrigger w) {c : Chan} (hb : byteAt s.mail.body 0 = c.num)
    (hv : 10000 ≤ leAt s.mail.body 4 4 ∧ leAt s.mail.body 4 4 ≤ 2000000) (hc : (s.ink.get c).cart ≠ .present) :
    exec (.cartridgeInstalled w) s = .next (s.afterDirective w 5 .state (s.ink.get c).cart.code) :=
  congrArg Host.Outcome.next (State.directive_answers h r 5 _ _ _ (State.doCartridge_refused (s := s.atDirective w) hb hv hc))

/-- Settles O39: a PRESENT cartridge alone is declared, and no reaction to that touches a cartridge. -/
theorem cartridgeInstalled : Obligations.CartridgeInstalled := by
  refine fun s w r h => ⟨fun hb => ?_, fun c hb => ⟨fun hv => ?_, ?_⟩⟩
  · exact congrArg Host.Outcome.next (State.directive_answers h r 5 _ _ _ (State.doCartridge_of_no_channel hb))
  · exact congrArg Host.Outcome.next (State.directive_answers h r 5 _ _ _ (State.doCartridge_of_volume hb hv))
  · refine ⟨fun hv hc => ?_, fun hv hc => ?_, fun hv hc => ?_, fun hv hc => ?_⟩
    iterate 3
      have e := exec_cartridgeInstalled_refused r h hb hv (by rw [hc]; decide)
      rwa [hc] at e
    · have e := State.doCartridge_of_present (s := s.atDirective w) hb hv hc
      refine ⟨_, congrArg Host.Outcome.next (State.directive_event h r.up 5 _ e), ?_⟩
      generalize hz : State.putResult _ w.triggerSeq 5 .done 0 = z
      have hink : z.ink = s.ink.set c ((s.ink.get c).declare (leAt s.mail.body 4 4) (BitVec.ofNat 32 (leAt s.mail.body 8 4))) := by
        rw [← hz]
        rfl
      have hself := (congrArg (PerChan.get · c) hink).trans (PerChan.get_set_self ..)
      have k : Keeps z (settle settleFuel z) := settle_keeps settleFuel (.refl z)
      refine ⟨k.mail.trans (hz ▸ rfl), (k.ink c).cart.trans (congrArg _ hself), (k.ink c).declared.trans (congrArg _ hself),
        (k.ink c).estimate.trans (congrArg _ hself), (k.ink c).lot.trans (congrArg _ hself), (k.ink c).synced.trans (congrArg InkChan.synced hself :), fun d hd => ?_⟩
      have hother := (congrArg (PerChan.get · d) hink).trans (PerChan.get_set_ne _ _ hd)
      exact ⟨(k.ink d).cart.trans (congrArg _ hother), (k.ink d).estimate.trans (congrArg _ hother)⟩

/-! ### HEAD_REPLACED (R126) -/

theorem validChans_iff (v : Nat) : validChans v = true ↔ v ≠ 0 ∧ v ≤ 31 := by
  unfold validChans
  rw [Bool.and_eq_true, bne_iff_ne, decide_eq_true_eq, Nat.lt_succ_iff]

theorem ChanSet.get_ofMask (v : Nat) (c : Chan) : (ChanSet.ofMask v).get c = hasBit v c.num := PerChan.get_of _ c

/-- What a new head leaves of a channel. -/
theorem State.health_replaceHeads (s : State) (cs : ChanSet) (c : Chan) : (s.replaceHeads cs).health.get c =
    if cs.get c = true then { s.health.get c with nozzles := List.replicate (s.health.get c).nozzles.length Nozzle.good, stage := .clear }
    else s.health.get c := by
  refine (PerChan.get_of _ c).trans ?_
  rw [HealthChan.renewed, List.map_const']

/-- Settles O43. -/
theorem headReplaced : Obligations.HeadReplaced := by
  refine fun s w r h => ⟨fun hm => ?_, fun h0 h31 => ?_⟩
  · refine congrArg Host.Outcome.next (State.directive_answers h r 12 _ _ _ (if_neg fun e => ?_))
    have := (validChans_iff _).1 e
    exact hm.elim this.1 (Nat.not_lt.2 this.2)
  · refine ⟨_, congrArg Host.Outcome.next (State.directive_next h r 12 _ (if_pos ((validChans_iff _).2 ⟨h0, h31⟩)) rfl r.agenda), rfl, fun c => ?_⟩
    rw [← ChanSet.get_ofMask]
    exact State.health_replaceHeads (s.atDirective w) _ c

/-! ### SET_MASKS and the attention line (R191, R192) -/

/-- The attention line is asserted for a record of a category that is not masked, unless suspend is set. -/
theorem EventQueue.attention_iff (q : EventQueue) :
    q.attention = true ↔ q.suspend = false ∧ ∃ e ∈ q.recs, q.masks.getLsbD (e.kind.code / 32) = false := by
  unfold EventQueue.attention
  rw [Bool.and_eq_true, Bool.not_eq_true', List.any_eq_true, and_comm]
  simp only [Bool.not_eq_true']
  rfl

/-- Settles O56. -/
theorem masksAndAttention : Obligations.MasksAndAttention := by
  refine ⟨fun s w r h => ⟨fun hm => ?_, fun hm hp => ?_, fun hm hp => ?_⟩, EventQueue.attention_iff⟩
  · exact congrArg Host.Outcome.next (State.directive_answers h r 14 _ _ _ (if_pos hm))
  · exact congrArg Host.Outcome.next (State.directive_answers h r 14 _ _ _ ((if_neg (Nat.not_lt.2 hm)).trans (if_pos hp)))
  · exact congrArg Host.Outcome.next
      (State.directive_next h r 14 _ ((if_neg (Nat.not_lt.2 hm)).trans (if_neg (Nat.not_lt.2 hp))) rfl r.agenda)

/-! ### The mailbox (R178, R179) -/

/-- Byte `j` of a record after a write beat, whose first byte is byte `pos` (R19, R178). -/
theorem getElem?_mergeFrom (pos off : Nat) (w : WriteBeat) (b : List Byte) (j : Nat) :
    (mergeFrom pos off w b)[j]? = (b[j]?).map fun old =>
      if off ≤ pos + j ∧ pos + j < off + 64 ∧ w.en (pos + j - off) = true then w.data.getD (pos + j - off) 0 else old := by
  induction b generalizing pos j with
  | nil => rfl
  | cons x xs ih =>
    cases j with
    | zero => simp [mergeFrom, and_assoc]
    | succ j =>
      refine (ih (pos + 1) j).trans ?_
      rw [Nat.add_right_comm, Nat.add_assoc pos j 1]
      rfl

theorem getElem?_mergeBeat (off : Nat) (w : WriteBeat) (b : List Byte) (j : Nat) :
    (mergeBeat b off w)[j]? = (b[j]?).map fun old =>
      if off ≤ j ∧ j < off + 64 ∧ w.en (j - off) = true then w.data.getD (j - off) 0 else old := by
  have e := getElem?_mergeFrom 0 off w b j
  simp only [Nat.zero_add] at e
  exact e

/-- A partial trigger, and a repeat, of every directive row only arrive. -/
theorem exec_directive_ignored {s : State} {w : WriteBeat} (r : Ready s) (h : w.isTrigger = false ∨ s.mail.lastTaken = some w.triggerSeq) :
    ∀ c ∈ directiveCommands w, exec c s = .next (s.afterWrite (s.spanBase + 0xC0) w) := by
  have ignored (k : Nat) (run : State → Taken) :
      Host.Outcome.next (s.event fun s => (s.triggerArrives w).trigger k w run) =
        (Host.Outcome.next (s.afterWrite (s.spanBase + 0xC0) w) : Host.Outcome State Fault Refusal) :=
    congrArg _ (State.event_eq (State.trigger_ignored h r.up k run) r.agenda)
  intro c hc
  simp only [directiveCommands, List.mem_cons, List.not_mem_nil, or_false] at hc
  rcases hc with rfl | rfl | rfl | rfl | rfl | rfl | rfl | rfl | rfl | rfl | rfl | rfl | rfl | rfl | rfl | rfl
  all_goals exact ignored ..

/-- Settles O55. -/
theorem mailboxBodyAndTriggers : Obligations.MailboxBodyAndTriggers := by
  refine ⟨fun s k w r => ⟨mergeBeat s.mail.body (64 * k.val) w, ?_, getElem?_mergeBeat _ w _⟩, fun s w r h => exec_directive_ignored r h, fun s w r h => ?_⟩
  · refine congrArg Host.Outcome.next (State.event_eq ?_ r.agenda)
    rw [show s.cleared.spanBase = s.spanBase from rfl, State.writeArrives_up r.up]
    rfl
  · exact congrArg Host.Outcome.next (State.directive_answers h r _ _ _ _ rfl)

end Sys2Proof.Machine

/-! O23, O33, O41, O42: clipping, reservations and debits, the report's verdicts, compensation. -/
namespace Sys2Proof.Machine

/-! ### Budget clipping (R53) -/

section
variable {p : ChanProfile} {need used : Nat}

theorem clip_cons_fits {c : Nat} (cs : List Nat) (h : used + dropVolume p c ≤ need) :
    clip p need used (c :: cs) = (c :: (clip p need (used + dropVolume p c) cs).1, (clip p need (used + dropVolume p c) cs).2) := by
  rw [clip, if_pos h]

theorem clip_cons_cut {c : Nat} (cs : List Nat) (h : ¬ used + dropVolume p c ≤ need) :
    clip p need used (c :: cs) = (0 :: (clip p need used cs).1, (clip p need used cs).2 + if c = 0 then 0 else 1) := by
  rw [clip, if_neg h]

theorem length_clip (p : ChanProfile) (need used : Nat) (codes : List Nat) : (clip p need used codes).1.length = codes.length := by
  induction codes generalizing used with
  | nil => rfl
  | cons c cs ih =>
    by_cases h : used + dropVolume p c ≤ need
    · simp only [clip_cons_fits cs h, List.length_cons, ih]
    · simp only [clip_cons_cut cs h, List.length_cons, ih]

theorem clip_within_need {codes : List Nat} (h : used ≤ need) : used + ((clip p need used codes).1.map (dropVolume p)).sum ≤ need := by
  induction codes generalizing used with
  | nil => exact h
  | cons c cs ih =>
    by_cases g : used + dropVolume p c ≤ need
    · rw [clip_cons_fits cs g, List.map_cons, List.sum_cons, ← Nat.add_assoc]
      exact ih g
    · rw [clip_cons_cut cs g, List.map_cons, List.sum_cons, show dropVolume p 0 = 0 from rfl, Nat.zero_add]
      exact ih h

theorem getElem_clip (codes : List Nat) (j : Nat) (h : j < codes.length) (g : j < (clip p need used codes).1.length) :
    (clip p need used codes).1[j] =
      if used + (((clip p need used codes).1.take j).map (dropVolume p)).sum + dropVolume p codes[j] ≤ need then codes[j] else 0 := by
  induction codes generalizing used j with
  | nil => exact absurd h (Nat.not_lt_zero j)
  | cons c cs ih =>
    by_cases e : used + dropVolume p c ≤ need
    · cases j with
      | zero => simp only [clip_cons_fits cs e, List.getElem_cons_zero, List.take_zero, List.map_nil, List.sum_nil, Nat.add_zero, if_pos e]
      | succ j =>
        simp only [clip_cons_fits cs e, List.getElem_cons_succ, List.take_succ_cons, List.map_cons, List.sum_cons, ← Nat.add_assoc]
        exact ih j _ _
    · cases j with
      | zero => simp only [clip_cons_cut cs e, List.getElem_cons_zero, List.take_zero, List.map_nil, List.sum_nil, Nat.add_zero, if_neg e]
      | succ j =>
        simp only [clip_cons_cut cs e, List.getElem_cons_succ, List.take_succ_cons, List.map_cons, List.sum_cons, dropVolume, Nat.zero_add]
        exact ih j _ _

/-- What clipping removes is counted: the drops that became none. -/
theorem clip_count (p : ChanProfile) (need used : Nat) (codes : List Nat) :
    (clip p need used codes).2 = (codes.zip (clip p need used codes).1).countP fun x => decide (x.1 ≠ 0 ∧ x.2 = 0) := by
  induction codes generalizing used with
  | nil => rfl
  | cons c cs ih =>
    by_cases g : used + dropVolume p c ≤ need
    · rw [clip_cons_fits cs g, List.zip_cons_cons, List.countP_cons, ih]
      simp
    · rw [clip_cons_cut cs g, List.zip_cons_cons, List.countP_cons, ih]
      simp

end

/-! ### Compensation (R122) -/

theorem Nozzle.dead_iff (n : Nozzle) : n.dead = true ↔ n.st = .missing ∨ n.st = .retired := by
  simp [Nozzle.dead]

/-- One pair, by which of its two nozzles are dead. -/
theorem compensate_pair (da db : Bool) (ds : List Bool) (a b : Nat) (cs : List Nat) :
    compensate (da :: db :: ds) (a :: b :: cs) =
      (match da, db with
       | false, false => (a :: b :: (compensate ds cs).1, (compensate ds cs).2)
       | true, false => (0 :: max a b :: (compensate ds cs).1, (compensate ds cs).2)
       | false, true => (max a b :: 0 :: (compensate ds cs).1, (compensate ds cs).2)
       | true, true =>
         (0 :: 0 :: (compensate ds cs).1, (compensate ds cs).2 + (if a ≠ 0 then 1 else 0) + (if b ≠ 0 then 1 else 0))) := by
  cases da <;> cases db <;> simp [compensate]

/-- No dead nozzle is given a drop. -/
theorem compensate_dead (m : Nat) : ∀ (ds : List Bool) (cs : List Nat), ds.length = 2 * m → cs.length = 2 * m →
    ∀ k : Nat, ds[k]? = some true → (compensate ds cs).1[k]? = some 0 := by
  induction m with
  | zero =>
    intro ds cs hd _ k hk
    rw [List.length_eq_zero_iff.1 hd] at hk
    exact absurd hk nofun
  | succ m ih =>
    intro ds cs hd hc k hk
    match ds, cs, hd, hc with
    | da :: db :: ds, a :: b :: cs, hd, hc =>
      have rest := ih ds cs (by simp only [List.length_cons] at hd; omega) (by simp only [List.length_cons] at hc; omega)
      match k, hk with
      | 0, hk => cases da <;> cases db <;> simp_all [compensate_pair]
      | 1, hk => cases da <;> cases db <;> simp_all [compensate_pair]
      | k + 2, hk => cases da <;> cases db <;> simpa [compensate_pair] using rest k (by simpa using hk)

/-! ### What an offer to the queue of requests leaves alone (R133) -/

theorem State.wake_frame (s : State) (rs : List Reaction) : ∃ a, s.wake rs = { s with agenda := a } := ⟨(s.wake rs).agenda, rfl⟩

theorem State.stirWalk_wake_frame (s : State) (rs : List Reaction) : ∃ a, s.stirWalk.wake rs = { s with agenda := a } := by
  obtain ⟨a, h⟩ := s.wake_frame (testsWith [.walk])
  obtain ⟨b, g⟩ := s.stirWalk.wake_frame rs
  rw [g, State.stirWalk, h]
  exact ⟨b, rfl⟩

/-- Two states that differ in the queue of requests, the agenda and the queue of events alone. -/
def State.QueueFrame (s t : State) : Prop := ∃ q a e, t = { s with svc := { s.svc with queue := q }, agenda := a, events := e }

/-- An offer changes the queue, posts, and schedules tests. -/
theorem State.offer_frame (s : State) (level : Level) (cs : ChanSet) (flow : Bool) : s.QueueFrame (s.offer level cs flow).2 := by
  unfold State.offer
  extract_lets mid q0 done
  have taken (res : OfferResult) (q : List ServiceReq) : s.QueueFrame (done res q).2 := by
    obtain ⟨a, h⟩ := (s.modSvc fun v => { v with queue := q }).stirWalk_wake_frame (if level = .cap then [.uncap, .evalFront] else [.evalFront])
    exact ⟨q, a, s.events, h⟩
  rcases absorbNew mid level flow q0 cs with ⟨left, whole⟩
  cases whole
  case true => exact taken .absorbed q0
  case false =>
    dsimp only
    rw [if_neg Bool.false_ne_true]
    split
    next i _ => exact taken .merged _
    next =>
      split
      next => exact taken _ _
      next => exact ⟨q0, s.agenda, s.posted .serviceQueueFull left.subject level.code left.mask, rfl⟩

/-! ### The report (R115, R116, R120) -/

theorem getElem?_judgeFrom (k : Nat) (listed : List Nat) (truncated : Bool) (ns : List Nozzle) (j : Nat) :
    (judgeFrom k listed truncated ns)[j]? = (ns[j]?).map (Nozzle.judged (verdict (listed.contains (k + j)) truncated)) := by
  induction ns generalizing k j with
  | nil => rfl
  | cons n ns ih =>
    cases j with
    | zero => rfl
    | succ j =>
      rw [judgeFrom, List.getElem?_cons_succ, List.getElem?_cons_succ, ih, show k + 1 + j = k + (j + 1) from by omega]

/-- A nozzle is listed by the entries that name it and its channel. -/
theorem contains_listedOf (h : List Byte) (c : Chan) (k : Nat) :
    (listedOf h c).contains k = (List.range (entryCount h)).any fun i => reportEntry h i == (c.num, k) := by
  rw [Bool.eq_iff_iff, List.contains_iff_mem, List.any_eq_true, listedOf, List.mem_eraseDups]
  simp only [reportEntries, List.mem_map, List.mem_filter, beq_iff_eq]
  constructor
  · rintro ⟨e, ⟨⟨i, hi, rfl⟩, hc⟩, hk⟩
    exact ⟨i, hi, Prod.ext hc hk⟩
  · rintro ⟨i, hi, e⟩
    exact ⟨_, ⟨⟨i, hi, rfl⟩, by rw [e]⟩, by rw [e]⟩

/-- What a report leaves in the table, the cleaning stages aside. -/
def State.SameReports (s t : State) : Prop :=
  ∀ c, (t.health.get c).nozzles = (s.health.get c).nozzles ∧ (t.health.get c).reports = (s.health.get c).reports ∧
    (t.health.get c).lastReport = (s.health.get c).lastReport

theorem State.SameReports.of_health {s t : State} (h : t.health = s.health) : s.SameReports t := fun c => by
  rw [h]
  exact ⟨rfl, rfl, rfl⟩

theorem State.SameReports.trans {s t u : State} (h : s.SameReports t) (g : t.SameReports u) : s.SameReports u := fun c => by
  obtain ⟨h1, h2, h3⟩ := h c
  obtain ⟨g1, g2, g3⟩ := g c
  exact ⟨g1.trans h1, g2.trans h2, g3.trans h3⟩

theorem State.sameReports_mapStages (s : State) (cs : ChanSet) (f : CleanStage → CleanStage) : s.SameReports (s.mapStages cs f) := fun c => by
  simp only [State.mapStages, PerChan.get_of]
  split <;> exact ⟨rfl, rfl, rfl⟩

theorem State.health_offer (s : State) (level : Level) (cs : ChanSet) (flow : Bool) : (s.offer level cs flow).2.health = s.health := by
  obtain ⟨q, a, e, h⟩ := s.offer_frame level cs flow
  rw [h]

theorem State.health_postMoves (s : State) (k : EventKind) (q : Option Seq) (m : PerChan Nat) : (s.postMoves k q m).health = s.health := by
  unfold State.postMoves
  extract_lets n
  split <;> rfl

theorem State.health_postDegraded (s : State) (cs : ChanSet) : (s.postDegraded cs).health = s.health := by
  unfold State.postDegraded
  induction Chan.all generalizing s with
  | nil => rfl
  | cons c l ih =>
    rw [List.foldl_cons, ih]
    split <;> rfl

theorem State.sameReports_askCleaning (s : State) (level : Level) (cs : ChanSet) (g : CleanStage) : s.SameReports (s.askCleaning level cs g) := by
  have h := s.health_offer level cs false
  unfold State.askCleaning
  split
  · exact .of_health rfl
  · split
    next e => exact .of_health (by rw [← h, e])
    next e => exact .trans (.of_health (by rw [← h, e])) (State.sameReports_mapStages _ _ _)

theorem State.sameReports_climbLadder (s : State) (cov : ChanSet) : s.SameReports (s.climbLadder cov) := by
  unfold State.climbLadder
  exact (s.sameReports_mapStages _ _).trans ((State.sameReports_mapStages _ _ _).trans ((State.SameReports.of_health (State.health_postDegraded _ _)).trans
    ((State.sameReports_askCleaning _ _ _ _).trans (State.sameReports_askCleaning _ _ _ _))))

/-- A report that is taken is applied, and then only stages move. -/
theorem State.sameReports_takeReport (s : State) (h : List Byte) (q : Option Seq) : (s.applyReport h q).SameReports (s.takeReport h q) := by
  unfold State.takeReport
  exact .trans (.of_health ((State.health_postMoves _ _ _ _).trans (State.health_postMoves _ _ _ _))) (State.sameReports_climbLadder _ _)

/-! ### Reservations (R86 to R88) -/

theorem Chan.mem_all (c : Chan) : c ∈ Chan.all := by cases c <;> decide

/-- The lowest channel of which `p` holds. -/
theorem Chan.find?_eq_some {p : Chan → Bool} {c : Chan} (h : p c = true) (low : ∀ d : Chan, d.num < c.num → p d = false) :
    Chan.all.find? p = some c := by
  have low' (d : Chan) (g : d.num < c.num) : ¬ p d = true := by rw [low d g]; exact Bool.false_ne_true
  cases c <;> simp_all [Chan.all, Chan.num]


theorem reservePasses_iff (k : InkChan) (service : Bool) (v : Nat) : reservePasses k service v = true ↔
    v = 0 ∨ k.synced = true ∧ k.reserved + v + floorVolume ≤ k.level ∧ (service = true → k.servicePart = 0 ∧ v ≤ needCap) := by
  cases service <;> simp [reservePasses, and_assoc]

/-- A request that every channel passes is granted, and what follows the grant leaves the ink alone. -/
theorem State.reserve_granted {s : State} {service : Bool} {vols : PerChan Nat} (h : ∀ c, reservePasses (s.ink.get c) service (vols.get c) = true) :
    s.reserve service vols = (none, (s.addReservation service vols).inkChanged (volumeChans vols)) := by
  have e : s.reserveFailure service vols = none :=
    List.find?_eq_none.2 fun c _ => by rw [show s.inkOf c = s.ink.get c from rfl, h c]; exact Bool.false_ne_true
  rw [State.reserve, e]

/-- A request is refused with the lowest channel that fails. -/
theorem State.reserve_refused {s : State} {service : Bool} {vols : PerChan Nat} {c : Chan}
    (h : reservePasses (s.ink.get c) service (vols.get c) = false)
    (low : ∀ d : Chan, d.num < c.num → reservePasses (s.ink.get d) service (vols.get d) = true) :
    s.reserve service vols = (some c, s) := by
  have e : s.reserveFailure service vols = some c :=
    Chan.find?_eq_some (by rw [show s.inkOf c = s.ink.get c from rfl, h]; rfl) fun d g => by
      rw [show s.inkOf d = s.ink.get d from rfl, low d g]; rfl
  rw [State.reserve, e]

theorem State.ink_addReservation (s : State) (service : Bool) (vols : PerChan Nat) (c : Chan) :
    (s.addReservation service vols).ink.get c = { s.ink.get c with
      reserved := (s.ink.get c).reserved + vols.get c,
      servicePart := if service = true then (s.ink.get c).servicePart + vols.get c else (s.ink.get c).servicePart } :=
  PerChan.get_of _ c

theorem ChanSet.get_of_isEmpty {cs : ChanSet} (h : cs.isEmpty = true) (c : Chan) : cs.get c = false := by
  simp only [ChanSet.isEmpty, Bool.not_eq_true', List.any_eq_false] at h
  exact Bool.eq_false_iff.2 (h c (Chan.mem_all c))

theorem volume_zero {vols : PerChan Nat} (h : (volumeChans vols).isEmpty = true) (c : Chan) : vols.get c = 0 := by
  have e := ChanSet.get_of_isEmpty h c
  rw [volumeChans, PerChan.get_of, decide_eq_false_iff_not, Classical.not_not] at e
  exact e

/-- A release lowers the reserved totals, and what follows it leaves the ink alone. -/
theorem State.ink_releaseNeed (s : State) (vols : PerChan Nat) (c : Chan) :
    (s.releaseNeed vols).ink.get c = { s.ink.get c with reserved := (s.ink.get c).reserved - vols.get c } := by
  unfold State.releaseNeed
  split
  next h => rw [volume_zero h c, Nat.sub_zero]
  next => exact PerChan.get_of _ c

end Sys2Proof.Machine

section
open Sys2Proof Sys2Proof.Machine

/-- Settles O23, by induction on the codes. -/
theorem clippingKeepsWithinTheNeed : Obligations.ClippingKeepsWithinTheNeed := fun p need used codes h =>
  ⟨length_clip p need used codes, clip_within_need h, getElem_clip codes, clip_count p need used codes⟩

/-- Settles O33, by the tests of one channel and the lowest channel that fails them. -/
theorem reservationDebitAndRelease : Obligations.ReservationDebitAndRelease := by
  refine ⟨fun s service vols => ⟨fun h => ?_, fun c h low => ?_⟩, fun k service used ended => ?_, State.ink_releaseNeed⟩
  · rw [State.reserve_granted fun c => (reservePasses_iff ..).2 (h c)]
    exact ⟨rfl, State.ink_addReservation s service vols⟩
  · exact State.reserve_refused (Bool.eq_false_iff.2 fun g => h ((reservePasses_iff ..).1 g)) fun d g => (reservePasses_iff ..).2 (low d g)
  · rw [debitChan, Nat.min_def]

/-- Settles O41, by the verdict on each nozzle; after the verdicts only the cleaning stages move. -/
theorem reportJudgesNozzles : Obligations.ReportJudgesNozzles := by
  refine ⟨fun n => ⟨fun v h => if_pos h, ?_, fun h => ⟨?_, ?_⟩, fun h => ⟨?_, fun g => ?_⟩, fun h g => ?_, fun h g => ⟨?_, fun p => ?_⟩, fun h g v hv hp => ?_⟩,
    fun s h q c => ?_⟩
  · rw [Nozzle.judged]; split <;> rfl
  · simp [Nozzle.judged, Nozzle.failed, Nozzle.surviveTest, h]
  · simp [Nozzle.judged, Nozzle.passed, Nozzle.surviveTest, h]
  · simp [Nozzle.judged, Nozzle.passed, Nozzle.surviveTest, Nozzle.good, h]
  · simp [Nozzle.judged, Nozzle.failed, Nozzle.surviveTest, h, g]
  · simp [Nozzle.judged, Nozzle.passed, Nozzle.surviveTest, Nozzle.good, h, show min 3 (n.passes + 1) = 3 from by omega]
  · simp [Nozzle.judged, Nozzle.failed, Nozzle.surviveTest, h, g]
  · simp [Nozzle.judged, Nozzle.passed, Nozzle.surviveTest, h, g, show min 3 (n.passes + 1) = n.passes + 1 from by omega, show ¬ n.passes = 2 from by omega]
  · have survives : (min 2 (n.survived + 1) = 2) = (1 ≤ n.survived) := propext (by omega)
    cases v with
    | none => exact absurd rfl hv
    | fail => simp [Nozzle.judged, Nozzle.failed, Nozzle.surviveTest, h, g, survives]
    | pass =>
      have few : ¬ min 3 (n.passes + 1) = 3 := by have := hp rfl; omega
      simp [Nozzle.judged, Nozzle.passed, Nozzle.surviveTest, h, g, survives, few]
  · obtain ⟨hn, hr, hl⟩ := s.sameReports_takeReport h q c
    extract_lets was now listed verdict
    rw [show now = (s.takeReport h q).health.get c from rfl, hn, hr, hl, State.applyReport, PerChan.get_of,
      show (covered h).get c = hasBit (byteAt h 1) c.num from ChanSet.get_ofMask _ c]
    split
    next =>
      refine ⟨fun k => ?_, rfl, rfl⟩
      rw [HealthChan.reported, getElem?_judgeFrom, Nat.zero_add, contains_listedOf]
      rfl
    next => exact ⟨rfl, rfl, rfl⟩

/-- Settles O42, by the pairs of the list. -/
theorem compensationByPairs : Obligations.CompensationByPairs :=
  ⟨Nozzle.dead_iff, compensate_pair, fun ds cs m hd hc => compensate_dead m ds cs hd hc⟩

end

/-! O15, O57: the layout of a beat, the event beat and the retirement beat. -/
namespace Sys2Proof.Machine

/-! ### Little-endian fields -/

theorem leAt_of_digits {b : List Byte} {x : Nat} (n k : Nat) (h : ∀ j < n, byteAt b (k + j) = x / 256 ^ j % 256) : leAt b k n = x % 256 ^ n := by
  induction n generalizing k x with
  | zero => rw [Nat.pow_zero, Nat.mod_one]; rfl
  | succ n ih =>
    have low := h 0 (Nat.succ_pos n)
    rw [Nat.add_zero, Nat.pow_zero, Nat.div_one] at low
    have high := ih (x := x / 256) (k + 1) fun j hj => by
      rw [show k + 1 + j = k + (j + 1) from by omega, h (j + 1) (by omega), Nat.div_div_eq_div_mul, ← Nat.pow_succ']
    rw [leAt, low, high, Nat.pow_succ', Nat.mod_mul]

theorem length_leBytes (n v : Nat) : (leBytes n v).length = n := by simp [leBytes]

theorem byteAt_leBytes {n v k : Nat} (h : k < n) : byteAt (leBytes n v) k = min v (256 ^ n - 1) / 256 ^ k % 256 := by
  simp [byteAt, leBytes, List.getD, h]

/-! ### A field written into a beat -/

theorem length_putAt {off : Nat} {f beat : List Byte} (h : off + f.length ≤ beat.length) : (putAt off f beat).length = beat.length := by
  simp only [putAt, List.length_append, List.length_take, List.length_drop]
  omega

theorem byteAt_putAt_inside {off k : Nat} {f beat : List Byte} (h : off + f.length ≤ beat.length) (hk : k < f.length) :
    byteAt (putAt off f beat) (off + k) = byteAt f k := by
  have e : (putAt off f beat)[off + k]? = f[k]? := by
    rw [putAt, List.append_assoc, List.getElem?_append_right (by rw [List.length_take]; omega), List.length_take,
      List.getElem?_append_left (by omega)]
    congr 1
    omega
  rw [byteAt, byteAt, List.getD_eq_getElem?_getD, e, List.getD_eq_getElem?_getD]

theorem byteAt_putAt_outside {off k : Nat} {f beat : List Byte} (h : off + f.length ≤ beat.length) (hk : k < off ∨ off + f.length ≤ k) :
    byteAt (putAt off f beat) k = byteAt beat k := by
  have e : (putAt off f beat)[k]? = beat[k]? := by
    rcases hk with hk | hk
    · rw [putAt, List.append_assoc, List.getElem?_append_left (by rw [List.length_take]; omega), List.getElem?_take_of_lt hk]
    · rw [putAt, List.getElem?_append_right (by rw [List.length_append, List.length_take]; omega), List.getElem?_drop]
      congr 1
      rw [List.length_append, List.length_take]
      omega
  rw [byteAt, byteAt, List.getD_eq_getElem?_getD, e, List.getD_eq_getElem?_getD]

/-! ### A beat made of fields (R195, R198) -/

/-- Two places of a beat, each a byte offset and a length, that share no byte. -/
def apartAt (f g : Nat × Nat) : Bool := decide (f.1 + f.2 ≤ g.1) || decide (g.1 + g.2 ≤ f.1)

/-- Places inside a beat, no two of which share a byte. -/
def goodLayout : List (Nat × Nat) → Bool
  | [] => true
  | f :: fs => decide (f.1 + f.2 ≤ 64) && fs.all (apartAt f) && goodLayout fs

/-- The place of a field. -/
def placeOf (f : Nat × Nat × Nat) : Nat × Nat := (f.1, f.2.1)

/-- A beat after fields are written into it in turn. -/
def writeFields (fs : List (Nat × Nat × Nat)) (b : List Byte) : List Byte := fs.foldl (fun b f => putAt f.1 (leBytes f.2.1 f.2.2) b) b

theorem goodLayout_cons {f : Nat × Nat} {fs : List (Nat × Nat)} :
    goodLayout (f :: fs) = true ↔ f.1 + f.2 ≤ 64 ∧ (∀ g ∈ fs, apartAt f g = true) ∧ goodLayout fs = true := by
  simp [goodLayout, and_assoc]

theorem length_writeFields {fs : List (Nat × Nat × Nat)} {b : List Byte} (h : goodLayout (fs.map placeOf) = true) (hb : b.length = 64) :
    (writeFields fs b).length = 64 := by
  induction fs generalizing b with
  | nil => exact hb
  | cons f fs ih =>
    obtain ⟨inside, -, rest⟩ := goodLayout_cons.1 h
    refine ih rest ?_
    rw [length_putAt (by rw [length_leBytes, hb]; exact inside), hb]

/-- A byte outside every field is as it was. -/
theorem byteAt_writeFields {fs : List (Nat × Nat × Nat)} {b : List Byte} {k : Nat} (h : goodLayout (fs.map placeOf) = true) (hb : b.length = 64)
    (out : ∀ f ∈ fs, k < f.1 ∨ f.1 + f.2.1 ≤ k) : byteAt (writeFields fs b) k = byteAt b k := by
  induction fs generalizing b with
  | nil => rfl
  | cons f fs ih =>
    obtain ⟨inside, -, rest⟩ := goodLayout_cons.1 h
    have fits : f.1 + (leBytes f.2.1 f.2.2).length ≤ b.length := by rw [length_leBytes, hb]; exact inside
    refine (ih rest ((length_putAt fits).trans hb) fun g hg => out g (List.mem_cons_of_mem _ hg)).trans (byteAt_putAt_outside fits ?_)
    rw [length_leBytes]
    exact out f List.mem_cons_self

theorem apartAt_iff (f g : Nat × Nat) : apartAt f g = true ↔ f.1 + f.2 ≤ g.1 ∨ g.1 + g.2 ≤ f.1 := by simp [apartAt]

/-- Each field holds its value, or the largest of its length. -/
theorem leAt_writeFields {fs : List (Nat × Nat × Nat)} {b : List Byte} (h : goodLayout (fs.map placeOf) = true) (hb : b.length = 64)
    {f : Nat × Nat × Nat} (hf : f ∈ fs) : leAt (writeFields fs b) f.1 f.2.1 = min f.2.2 (256 ^ f.2.1 - 1) := by
  induction fs generalizing b with
  | nil => exact absurd hf List.not_mem_nil
  | cons g fs ih =>
    obtain ⟨inside, apart, rest⟩ := goodLayout_cons.1 h
    have fits : g.1 + (leBytes g.2.1 g.2.2).length ≤ b.length := by rw [length_leBytes, hb]; exact inside
    have hb' : (putAt g.1 (leBytes g.2.1 g.2.2) b).length = 64 := (length_putAt fits).trans hb
    rcases List.mem_cons.1 hf with rfl | hf
    · have digits : ∀ j < f.2.1, byteAt (writeFields (f :: fs) b) (f.1 + j) = min f.2.2 (256 ^ f.2.1 - 1) / 256 ^ j % 256 := fun j hj => by
        refine (byteAt_writeFields rest hb' fun x hx => ?_).trans ?_
        · have e := (apartAt_iff _ _).1 (apart (placeOf x) (List.mem_map_of_mem hx))
          simp only [placeOf] at e
          omega
        · rw [byteAt_putAt_inside fits (by rw [length_leBytes]; exact hj), byteAt_leBytes hj]
      rw [leAt_of_digits _ _ digits, Nat.mod_eq_of_lt]
      exact Nat.lt_of_le_of_lt (Nat.min_le_right _ _) (Nat.sub_lt (Nat.pow_pos (by omega)) Nat.one_pos)
    · exact ih rest hb' hf

theorem length_zeroBeat : zeroBeat.length = 64 := by rw [zeroBeat, List.length_replicate]

theorem byteAt_zeroBeat (k : Nat) : byteAt zeroBeat k = 0 := by
  rw [byteAt, zeroBeat, List.getD_eq_getElem?_getD, List.getElem?_replicate]
  split <;> rfl

theorem length_buildBeat {fs : List (Nat × Nat × Nat)} (h : goodLayout (fs.map placeOf) = true) : (buildBeat fs).length = 64 :=
  length_writeFields h length_zeroBeat

theorem leAt_buildBeat {fs : List (Nat × Nat × Nat)} (h : goodLayout (fs.map placeOf) = true) {o n v : Nat} (hf : (o, n, v) ∈ fs) :
    leAt (buildBeat fs) o n = min v (256 ^ n - 1) :=
  leAt_writeFields (f := (o, n, v)) h length_zeroBeat hf

/-- What no field of a beat holds reads 0. -/
theorem leAt_buildBeat_zero {fs : List (Nat × Nat × Nat)} (h : goodLayout (fs.map placeOf) = true) {o n : Nat}
    (out : (fs.map placeOf).all (apartAt (o, n)) = true) : leAt (buildBeat fs) o n = 0 := by
  refine (leAt_of_digits (x := 0) n o fun j hj => ?_).trans (Nat.zero_mod _)
  rw [Nat.zero_div]
  refine (byteAt_writeFields h length_zeroBeat fun f hf => ?_).trans (byteAt_zeroBeat _)
  have e := (apartAt_iff _ _).1 (List.all_eq_true.1 out (placeOf f) (List.mem_map_of_mem hf))
  simp only [placeOf] at e
  omega

theorem byteAt_eq_leAt (b : List Byte) (k : Nat) : byteAt b k = leAt b k 1 := (Nat.add_zero _).symm

/-- A beat shows fields that are among its own. -/
theorem shows_buildBeat {fs gs : List (Nat × Nat × Nat)} (h : goodLayout (fs.map placeOf) = true) (sub : ∀ g ∈ gs, g ∈ fs) : Shows (buildBeat fs) gs :=
  ⟨length_buildBeat h, fun g hg => leAt_writeFields h length_zeroBeat (sub g hg)⟩

/-! ### The event beat (R189, 11.4) -/

/-- The layout of the event beat of a record. -/
theorem shows_eventBeat (e : Event) (n m : Nat) : Shows (eventBeat (some e) n m)
    [(0, 1, e.kind.code), (1, 1, e.kind.category), (2, 2, e.subject), (4, 4, e.d1), (8, 6, e.d2), (16, 4, e.time.toNat), (24, 1, n), (28, 4, m)] :=
  shows_buildBeat (by rfl) fun _ h => h

theorem eventBeat_none (n m : Nat) : eventBeat none n m = buildBeat [(24, 1, n), (28, 4, m)] := rfl

/-! ### The retirement beat (R37, 11.4) -/

theorem shows_retirementBeat (e : RetireEntry) (n : Nat) : Shows (retirementBeat (some e) n)
    [(0, 2, (e.seq.map BitVec.toNat).getD 0), (2, 1, e.slot.val), (3, 1, e.outcome.code), (4, 1, reasonCode e.reason), (8, 4, n)] :=
  shows_buildBeat (by rfl) fun _ h => h

theorem retirementBeat_none (n : Nat) : retirementBeat none n = buildBeat [(2, 1, 0xFF), (8, 4, n)] := rfl

/-! ### One read beat in UP with no read in hand (R3, R7) -/

theorem NoReads.cleared {s : State} (r : NoReads s) : NoReads s.cleared := ⟨r.held, r.gathered, r.waiting, r.stalled⟩

theorem State.acceptsFetch_idle {s : State} (r : NoReads s) : s.acceptsFetch = true := by
  rw [State.acceptsFetch, r.stalled, r.held]; rfl

/-- The link accepts a FETCH read at once where none is in hand. -/
theorem State.fetchRead_idle {s : State} (r : NoReads s) (f : State → FetchReq) : s.fetchRead f = s.arrived.acceptFetch (f s.arrived) := by
  rw [State.fetchRead, if_pos (State.acceptsFetch_idle r)]

/-- A FETCH read of one beat that finds none in hand is taken up at once. -/
theorem State.acceptFetch_one {s : State} (held : s.link.held = none) (waiting : s.link.waiting = []) (x : Forward) (k : FetchKind) :
    s.acceptFetch { forwarded := x, beats := [k] } = (s.forward x).considerFetch k := by
  unfold State.acceptFetch
  dsimp only
  rw [if_pos (by rw [show (s.forward x).link = s.link from rfl, held, waiting]; rfl)]
  rfl

/-- The state in which a read of one beat is answered, in UP. -/
def State.atRead (s : State) (cls : ReqClass) (addr : Nat) : State :=
  { s with out := { answers := [], forwarded := [.read addr 1 cls] }, link := { s.link with silence := 0 } }

theorem State.atRead_eq {s : State} (u : s.link.state = .up) (cls : ReqClass) (a : Nat) :
    s.cleared.arrived.forward (.read a 1 cls) = s.atRead cls a := by
  rw [State.arrived_up (show s.cleared.link.state = .up from u)]; rfl

theorem State.fetchOne_up {s : State} (u : s.link.state = .up) (r : NoReads s) (k : FetchKind) :
    s.cleared.fetchOne k = (s.atRead .fetch (s.fetchAddr k)).considerFetch k := by
  have e : s.cleared.arrived.fetchAddr k = s.fetchAddr k := by
    rw [State.arrived_up (show s.cleared.link.state = .up from u)]; cases k <;> rfl
  rw [State.fetchOne, State.fetchRead_idle r.cleared, State.acceptFetch_one, e, State.atRead_eq u]
  · rw [State.arrived_up (show s.cleared.link.state = .up from u)]; exact r.held
  · rw [State.arrived_up (show s.cleared.link.state = .up from u)]; exact r.waiting

/-- A read of one beat that is answered with `d`. -/
theorem State.answer_atRead {s : State} {cls : ReqClass} (r : cls = .fetch → NoReads s) (a : Nat) (d : List Byte) :
    (s.atRead cls a).answer cls a d = s.afterRead cls a d := by
  by_cases f : cls = .fetch
  · subst f
    obtain ⟨-, gathered, waiting, -⟩ := r rfl
    rw [State.answer_last (by rw [State.moreBeats, show (s.atRead .fetch a).link.waiting = [] from waiting])]
    simp [State.atRead, State.afterRead, gathered]
  · rw [State.answer_other f]; rfl

/-! ### The two beats that a read empties (R37, R189) -/

theorem State.answerEvent_atRead {s : State} {cls : ReqClass} (r : cls = .fetch → NoReads s) {e : Option Event} {q : EventQueue}
    (h : s.events.take s.time.ms = (e, q)) : (s.atRead cls (s.spanBase + 0x140)).answerEvent cls =
      { s.afterRead cls (s.spanBase + 0x140) (eventBeat e q.recs.length q.overflow) with events := q } := by
  rw [← State.answer_atRead r, State.answerEvent, show (s.atRead cls (s.spanBase + 0x140)).events.take (s.atRead cls (s.spanBase + 0x140)).time.ms = (e, q) from h]
  rfl

/-- A read of the event beat is answered from the queue as it stands. -/
theorem State.exec_eventBeatRead {s : State} {cls : ReqClass} (mem : List Byte) (g : Ready s) (r : cls = .fetch → NoReads s)
    {e : Option Event} {q : EventQueue} (h : s.events.take s.time.ms = (e, q)) : exec (.eventBeatRead cls mem) s =
      .next { s.afterRead cls (s.spanBase + 0x140) (eventBeat e q.recs.length q.overflow) with events := q } := by
  refine congrArg Host.Outcome.next (State.event_eq ?_ g.agenda)
  rw [← State.answerEvent_atRead r h]
  split
  next f => subst f; exact State.fetchOne_up g.up (r rfl) .event
  next f => exact congrArg (State.answerEvent · cls) (State.atRead_eq g.up cls _)

theorem State.answerRetirement_atRead {s : State} {cls : ReqClass} (r : cls = .fetch → NoReads s) :
    (s.atRead cls (s.spanBase + 0x180)).answerRetirement cls =
      { s.afterRead cls (s.spanBase + 0x180) (retirementBeat s.parser.retired.head? s.parser.retireOverflow) with
        parser := { s.parser with retired := s.parser.retired.tail, retireOverflow := 0 } } := by
  rw [← State.answer_atRead r]
  rfl

/-- A read of the retirement beat takes the oldest entry. -/
theorem State.exec_retirementBeatRead {s : State} {cls : ReqClass} (mem : List Byte) (g : Ready s) (r : cls = .fetch → NoReads s) :
    exec (.retirementBeatRead cls mem) s =
      .next { s.afterRead cls (s.spanBase + 0x180) (retirementBeat s.parser.retired.head? s.parser.retireOverflow) with
        parser := { s.parser with retired := s.parser.retired.tail, retireOverflow := 0 } } := by
  refine congrArg Host.Outcome.next (State.event_eq ?_ g.agenda)
  rw [← State.answerRetirement_atRead r]
  split
  next f => subst f; exact State.fetchOne_up g.up (r rfl) .retirement
  next f => exact congrArg (State.answerRetirement · cls) (State.atRead_eq g.up cls _)

/-! ### Codes that fit their byte -/

theorem EventKind.code_lt (k : EventKind) : k.code < 256 := by cases k <;> exact Nat.le_of_ble_eq_true rfl
theorem SlotOutcome.code_lt (o : SlotOutcome) : o.code < 256 := by cases o <;> exact Nat.le_of_ble_eq_true rfl
theorem Reason.code_lt (r : Reason) : r.code < 256 := by cases r <;> exact Nat.le_of_ble_eq_true rfl

theorem reasonCode_lt (r : Option Reason) : reasonCode r < 256 := by
  cases r with
  | none => exact Nat.zero_lt_succ _
  | some r => exact r.code_lt

end Sys2Proof.Machine

section
open Sys2Proof Sys2Proof.Machine

/-- Settles O15, by the layout of the beat. -/
theorem retirementBeatRemovesTheOldest : Obligations.RetirementBeatRemovesTheOldest := by
  refine ⟨fun s cls mem g r => State.exec_retirementBeatRead mem g r, fun e n => ?_, fun n => ?_⟩
  · have shows := (shows_retirementBeat e n).2
    simp only [List.forall_mem_cons, ← byteAt_eq_leAt] at shows
    obtain ⟨hseq, hslot, hout, hwhy, hlost, -⟩ := shows
    refine ⟨fun q hq => ?_, ?_, ?_, ?_, hlost⟩
    · rw [hseq, hq]
      have := q.isLt
      exact Nat.min_eq_left (by simp only [Option.map_some, Option.getD_some]; omega)
    · rw [hslot]; exact Nat.min_eq_left (by omega)
    · rw [hout]; exact Nat.min_eq_left (Nat.le_of_lt_succ e.outcome.code_lt)
    · rw [hwhy]; exact Nat.min_eq_left (Nat.le_of_lt_succ (reasonCode_lt e.reason))
  · rw [retirementBeat_none]
    simp only [byteAt_eq_leAt]
    exact ⟨leAt_buildBeat (v := 0xFF) rfl (by simp), leAt_buildBeat_zero rfl rfl, leAt_buildBeat_zero rfl rfl, leAt_buildBeat_zero rfl rfl,
      leAt_buildBeat rfl (by simp)⟩

/-- Settles O57, by the queue's own rules and the layout of the beat. -/
theorem eventBeatReads : Obligations.EventBeatReads := by
  refine ⟨fun q e => ⟨fun h => ?_, fun h => ?_⟩, fun s cls mem g r => ⟨fun h => ?_, fun e rest h => ⟨fun z => ?_, fun z => ?_⟩⟩, fun e n m => ?_, fun n m => ?_⟩
  · exact if_pos h
  · exact if_neg (Nat.not_lt.2 h)
  · have t : s.events.take s.time.ms = (none, s.events) := by rw [EventQueue.take, h]
    rw [State.exec_eventBeatRead mem g r t, h]; rfl
  · have t : s.events.take s.time.ms = (some e, { s.events with recs := rest }) := by rw [EventQueue.take, h]; exact if_pos z
    rw [State.exec_eventBeatRead mem g r t, ← z]
  · have t : s.events.take s.time.ms = (some e, { s.events with
        recs := rest ++ [s.record .eventOverflow 0xFF s.events.overflow s.events.firstLoss.toNat], overflow := 0, firstLoss := 0 }) := by
      rw [EventQueue.take, h]; exact if_neg z
    rw [State.exec_eventBeatRead mem g r t]
    simp only [List.length_append, List.length_singleton]
  · have shows := (shows_eventBeat e n m).2
    simp only [List.forall_mem_cons, ← byteAt_eq_leAt] at shows
    obtain ⟨hkind, hcat, hsubj, h1, h2, htime, hn, hm, -⟩ := shows
    have small := e.kind.code_lt
    have time := e.time.isLt
    refine ⟨?_, ?_, hsubj, h1, h2, ?_, hn, hm⟩
    · rw [hkind]; exact Nat.min_eq_left (by omega)
    · rw [hcat, EventKind.category]; exact Nat.min_eq_left (by omega)
    · rw [htime]; exact Nat.min_eq_left (by omega)
  · rw [eventBeat_none]
    simp only [byteAt_eq_leAt]
    exact ⟨leAt_buildBeat_zero rfl rfl, leAt_buildBeat rfl (by simp), leAt_buildBeat rfl (by simp)⟩

end

/-! O8, O9: header writes and the checks of an open. -/
namespace Sys2Proof.Machine

/-! ### A write to a job slot in UP (R2) -/

theorem State.slotWriteArrives_up {s : State} (u : s.link.state = .up) (i : SlotIx) (off : Nat) (w : WriteBeat) :
    s.cleared.slotWriteArrives i off w = s.afterWrite (s.spanBase + 0x1000 + 256 * i.val + off) w :=
  State.writeArrives_up u _ w

/-! ### Header writes (R19, R20) -/

/-- The bytes that a beat replaces where each needs leave. -/
theorem getElem?_mergeBeatWhere (may : Nat → Bool) (off : Nat) (w : WriteBeat) (b : List Byte) (j : Nat) :
    (mergeBeatWhere may b off w)[j]? = (b[j]?).map fun old =>
      if off ≤ j ∧ j < off + 64 ∧ w.en (j - off) = true ∧ may j = true then w.data.getD (j - off) 0 else old := by
  have en (h : off ≤ j ∧ j < off + 64) :
      WriteBeat.en { w with enable := (List.range 64).map fun k => w.en k && may (off + k) } (j - off) = (w.en (j - off) && may j) := by
    simp [WriteBeat.en, List.getD_eq_getElem?_getD, show j - off < 64 from by omega, show off + (j - off) = j from by omega]
  rw [mergeBeatWhere, getElem?_mergeBeat]
  congr 1
  funext old
  by_cases h : off ≤ j ∧ j < off + 64
  · simp only [h.1, h.2, true_and, en h, Bool.and_eq_true]
  · rw [if_neg fun g => h ⟨g.1, g.2.1⟩, if_neg fun g => h ⟨g.1, g.2.1⟩]

/-- The bytes of a record after a header write, by the state of its slot. -/
theorem Slot.shadow_headerWrite (k : Slot) (off : Nat) (w : WriteBeat) (j : Nat) :
    (k.headerWrite off w).shadow[j]? = (k.shadow[j]?).map fun old =>
      if off ≤ j ∧ j < off + 64 ∧ w.en (j - off) = true ∧ (k.st = .free ∨ k.st = .opened ∧ geometryByte j = false)
        then w.data.getD (j - off) 0 else old := by
  unfold Slot.headerWrite
  cases h : k.st
  case free => simpa using getElem?_mergeBeat off w k.shadow j
  case opened => simpa using getElem?_mergeBeatWhere (fun b => !geometryByte b) off w k.shadow j
  all_goals simp

/-- A header write that an occupied slot ignores is counted, up to 15. -/
theorem Slot.lateHeaders_headerWrite (k : Slot) (off : Nat) (w : WriteBeat) :
    (k.headerWrite off w).lateHeaders =
      (if k.st ≠ .free ∧ ∃ j < 64, w.en j = true ∧ (k.st = .opened → geometryByte (off + j) = true)
        then min 15 (k.lateHeaders + 1) else k.lateHeaders) := by
  unfold Slot.headerWrite
  cases h : k.st <;> simp [List.any_eq_true]

theorem Slot.headerWrite_eq (k : Slot) (off : Nat) (w : WriteBeat) :
    k.headerWrite off w = { k with shadow := (k.headerWrite off w).shadow, lateHeaders := (k.headerWrite off w).lateHeaders } := by
  unfold Slot.headerWrite
  cases k.st <;> rfl

/-- The state that a header write itself leaves. -/
def State.headerWritten (s : State) (i : SlotIx) (k : Fin 3) (w : WriteBeat) : State :=
  (s.cleared.slotWriteArrives i (64 * k.val) w).modSlot i fun x => x.headerWrite (64 * k.val) w

theorem State.slot_headerWritten (s : State) (i j : SlotIx) (k : Fin 3) (w : WriteBeat) : (s.headerWritten i k w).slot j =
    if j = i then (s.cleared.arrived.slot j).headerWrite (64 * k.val) w else s.cleared.arrived.slot j :=
  State.slot_modSlot _ i j _

theorem State.headerWritten_up {s : State} (u : s.link.state = .up) (i : SlotIx) (k : Fin 3) (w : WriteBeat) : s.headerWritten i k w =
    { s.afterWrite (s.spanBase + 0x1000 + 256 * i.val + 64 * k.val) w with slots := s.slots.set i ((s.slot i).headerWrite (64 * k.val) w) } := by
  rw [State.headerWritten, State.slotWriteArrives_up u]
  rfl

/-- The reactions keep a slot's record and its counts of faulty writes. -/
theorem State.slot_settle (n : Nat) (s : State) (i : SlotIx) : (s.slot i).Same ((settle n s).slot i) := (settle_keeps n (.refl s)).slots i

/-! ### The checks of an open (R22) -/

theorem overlaps_iff (a l b m : Nat) : overlaps a l b m = true ↔ a < b + m ∧ b < a + l := by simp [overlaps]

theorem Geometry.planeFits_iff (g : Geometry) (p : Chan × Nat) : g.planeFits p = true ↔ p.2 % 64 = 0 ∧ p.2 + g.windowLen ≤ 2 ^ 40 := by
  simp [Geometry.planeFits]

theorem State.planeClashes_iff (s : State) (g : Geometry) (p : Chan × Nat) : s.planeClashes g p = true ↔
    (p.2 < s.spanBase + 65536 ∧ s.spanBase < p.2 + g.windowLen) ∨ (∃ w ∈ s.windows, p.2 < w.base + w.len ∧ w.base < p.2 + g.windowLen) ∨
      ∃ q ∈ g.present, q.1 ≠ p.1 ∧ p.2 < q.2 + g.windowLen ∧ q.2 < p.2 + g.windowLen := by
  simp only [State.planeClashes, Bool.or_eq_true, List.any_eq_true, Bool.and_eq_true, decide_eq_true_eq, overlaps_iff, or_assoc]

section
variable (s : State) {h : List Byte} (kind : byteAt h 0 = 1) (columns : leAt h 2 2 ≠ 0)

theorem State.openError_kind {h : List Byte} (g : byteAt h 0 ≠ 1) : s.openError h = some (.kind, byteAt h 0) := if_pos g

include kind in
theorem State.openError_noColumns (g : leAt h 2 2 = 0) : s.openError h = some (.noColumns, 0) := by
  rw [State.openError, if_neg (show ¬ kindCode h ≠ 1 from Classical.not_not.2 kind)]
  exact if_pos g

include kind columns in
theorem State.openError_noPlane (g : (geometryOf h).present = []) : s.openError h = some (.noPlane, 0) := by
  rw [State.openError, if_neg (show ¬ kindCode h ≠ 1 from Classical.not_not.2 kind)]
  exact (if_neg columns).trans (if_pos g)

variable (planes : (geometryOf h).present ≠ [])
include kind columns planes

/-- The checks from the fourth on. -/
theorem State.openError_ranges : s.openError h =
    ((geometryOf h).present.find? fun p => !(geometryOf h).planeFits p).elim
      (if 16 ≤ s.countSlots Slot.holdsWindows then some (.swathsFull, 0)
       else if 60 < s.windows.length + (geometryOf h).present.length then some (.windowsFull, s.windows.length)
       else ((geometryOf h).present.find? fun p => s.planeClashes (geometryOf h) p).map fun p => (.overlap, p.1.num))
      fun p => some (.planeRange, p.1.num) := by
  rw [State.openError, if_neg (show ¬ kindCode h ≠ 1 from Classical.not_not.2 kind)]
  refine (if_neg columns).trans ((if_neg planes).trans ?_)
  cases (geometryOf h).present.find? fun p => !(geometryOf h).planeFits p with
  | some p => rfl
  | none =>
    dsimp only [Option.elim_none]
    split
    · rfl
    split
    · rfl
    cases (geometryOf h).present.find? fun p => s.planeClashes (geometryOf h) p <;> rfl

end

end Sys2Proof.Machine

section
open Sys2Proof Sys2Proof.Machine

/-- Settles O8, by the record that the write leaves, which every reaction keeps. -/
theorem headerWriteByState : Obligations.HeaderWriteByState := by
  intro s i k w
  refine ⟨settle settleFuel (s.headerWritten i k w), rfl, ?_⟩
  have arrived (j : SlotIx) : (s.slot j).Same (s.cleared.arrived.slot j) := (State.arrived_keeps (.refl s.cleared)).slots j
  obtain ⟨hs, hl, -⟩ := State.slot_settle settleFuel (s.headerWritten i k w) i
  rw [State.slot_headerWritten, if_pos rfl] at hs hl
  refine ⟨fun u => by rw [State.arrived_up (show s.cleared.link.state = .up from u)]; rfl, fun b => ?_, ?_, fun j hj => ?_, fun r => ?_⟩
  · rw [hs, Slot.shadow_headerWrite, (arrived i).shadow]
  · rw [hl, Slot.lateHeaders_headerWrite, (arrived i).lateHeaders]
  · obtain ⟨hs, hl, -⟩ := State.slot_settle settleFuel (s.headerWritten i k w) j
    rw [State.slot_headerWritten, if_neg hj] at hs hl
    exact ⟨hs.trans (arrived j).shadow, hl.trans (arrived j).lateHeaders⟩
  · have e : settle settleFuel (s.headerWritten i k w) = s.headerWritten i k w := settle_none _ (by rw [State.headerWritten_up r.up]; exact r.agenda)
    have own : (s.headerWritten i k w).slot i = (s.slot i).headerWrite (64 * k.val) w := by
      rw [State.slot_headerWritten, if_pos rfl, State.arrived_up (show s.cleared.link.state = .up from r.up)]; rfl
    rw [e, own]
    exact ⟨State.headerWritten_up r.up i k w, Slot.headerWrite_eq _ _ _⟩

/-- Settles O9, check by check. -/
theorem openChecksInOrder : Obligations.OpenChecksInOrder := by
  intro s h planes len fits meets clash
  have range : (fun p => !(geometryOf h).planeFits p) = fun q => decide (¬ fits q) := by
    funext p
    rw [Bool.eq_iff_iff, Bool.not_eq_true', Bool.eq_false_iff, ne_eq, Geometry.planeFits_iff, decide_eq_true_eq]
    rfl
  have clashes (p : Chan × Nat) : s.planeClashes (geometryOf h) p = true ↔ clash p := State.planeClashes_iff ..
  refine ⟨s.openError_kind, s.openError_noColumns, s.openError_noPlane, fun kind columns hp => ?_⟩
  have later := s.openError_ranges kind columns hp
  refine ⟨fun p hf => ?_, fun all => ?_⟩
  · rw [later, range, hf]; rfl
  · have none : planes.find? (fun p => !(geometryOf h).planeFits p) = none := by
      rw [range, List.find?_eq_none]
      intro p hm
      simp only [decide_eq_true_eq, Classical.not_not]
      exact all p hm
    rw [show planes = (geometryOf h).present from rfl] at none
    rw [none] at later
    refine ⟨fun full => later.trans (if_pos full), fun room full => later.trans ?_, fun room fit => ⟨fun l p r e hc hl => ?_, fun hc => ?_⟩⟩
    · exact (if_neg (Nat.not_le.2 room)).trans (if_pos full)
    · have found : planes.find? (fun p => s.planeClashes (geometryOf h) p) = some p :=
        List.find?_eq_some_iff_append.2 ⟨(clashes p).2 hc, l, r, e, fun q hq => by
          rw [Bool.not_eq_true', Bool.eq_false_iff, ne_eq, clashes]; exact hl q hq⟩
      refine later.trans ((if_neg (Nat.not_le.2 room)).trans ((if_neg (Nat.not_lt.2 fit)).trans ?_))
      rw [show planes = (geometryOf h).present from rfl] at found
      rw [found]; rfl
    · have found : planes.find? (fun p => s.planeClashes (geometryOf h) p) = Option.none :=
        List.find?_eq_none.2 fun p hm => mt (clashes p).1 (hc p hm)
      refine later.trans ((if_neg (Nat.not_le.2 room)).trans ((if_neg (Nat.not_lt.2 fit)).trans ?_))
      rw [show planes = (geometryOf h).present from rfl] at found
      rw [found]; rfl

end

/-! O11, O12, O18: the retirement of a slot, commits that fault and commits out of turn. -/
namespace Sys2Proof.Machine

/-! ### A read answered with its overlay leaves the blocks alone (R8, R9) -/

/-- Two states that differ in the agenda, the outputs and the link alone. -/
def State.AnswerFrame (s t : State) : Prop := ∃ a u l, t = { s with agenda := a, out := u, link := l }

theorem State.AnswerFrame.refl (s : State) : s.AnswerFrame s := ⟨s.agenda, s.out, s.link, rfl⟩

/-- A go word of a slot that is not ADMITTED arms nothing. -/
theorem State.answerGoWord_of_not_admitted {s : State} {cls : ReqClass} {i : SlotIx} (h : (s.slot i).st ≠ .admitted) :
    s.answerGoWord cls i = s.answer cls (s.exchangeAddr i) (s.exchangeBeat i) := by
  unfold State.answerGoWord
  refine if_neg fun g => h ?_
  rw [Bool.and_eq_true, decide_eq_true_eq] at g
  exact g.2

/-- No read is held. -/
def State.unheld (s : State) : State := { s with link := { s.link with held := none, holdMs := 0 } }

theorem State.answerHeld_frame {s : State} {i : SlotIx} (h : (s.slot i).st ≠ .admitted) : s.AnswerFrame (s.answerHeld i) := by
  obtain ⟨a, e⟩ := (s.unheld.answerGoWord .fetch i).wake_frame [.drain]
  refine ⟨a, (s.unheld.answerGoWord .fetch i).out, (s.unheld.answerGoWord .fetch i).link, ?_⟩
  change (s.unheld.answerGoWord .fetch i).wake [.drain] = _
  rw [e, State.answerGoWord_of_not_admitted (s := s.unheld) h]
  rfl

theorem State.heldReadTest_frame {s : State} (h : ∀ i, s.link.held = some i → (s.slot i).st ≠ .admitted) : s.AnswerFrame s.heldReadTest := by
  unfold State.heldReadTest
  split
  next i e =>
    split
    · exact .refl s
    · exact State.answerHeld_frame (h i e)
  next => exact .refl s

/-! ### The retirement of a slot (R35, R36, R45, R56) -/

/-! ### What only schedules -/

/-- Two states that differ in the agenda alone. -/
def State.AgendaFrame (s t : State) : Prop := ∃ a, t = { s with agenda := a }

theorem State.AgendaFrame.refl (s : State) : s.AgendaFrame s := ⟨s.agenda, rfl⟩

theorem State.AgendaFrame.trans {s t u : State} (h : s.AgendaFrame t) (g : t.AgendaFrame u) : s.AgendaFrame u := by
  obtain ⟨a, rfl⟩ := h
  obtain ⟨b, rfl⟩ := g
  exact ⟨b, rfl⟩

theorem State.agendaFrame_wake (s : State) (rs : List Reaction) : s.AgendaFrame (s.wake rs) := s.wake_frame rs
theorem State.agendaFrame_stir (s : State) : s.AgendaFrame s.stir := s.wake_frame allTests
theorem State.agendaFrame_stirWalk (s : State) : s.AgendaFrame s.stirWalk := s.wake_frame (testsWith [.walk])
theorem State.agendaFrame_stirBoundary (s : State) : s.AgendaFrame s.stirBoundary := s.wake_frame (testsWith [.boundary])

/-- A report of the ink schedules, and no more. -/
theorem State.agendaFrame_inkChanged (s : State) (cs : ChanSet) : s.AgendaFrame (s.inkChanged cs) :=
  (s.agendaFrame_wake [.quiet, .inkReport cs s.evaluates]).trans (State.agendaFrame_stir _)

section
variable (s : State) (i : SlotIx) (o : SlotOutcome) (r : Option Reason) (d : Nat)

/-- A slot that retires leaves the posted list and gives up its windows and its reservation. -/
def State.leavesLists : State := (((s.releaseSlotNeed i).unpost i).removeWindows i).countRetired i

/-- The retirement entry of a slot. -/
def State.retireEntry : RetireEntry := { seq := (s.slot i).seq, slot := i, outcome := o, reason := r }

/-- A slot that has retired, its entry offered. -/
def State.entersRetired : State := ((s.leavesLists i).modSlot i fun k => k.retire o r d).enterRetired (s.retireEntry i o r)

/-- A slot that has retired, a held read of its go word answered. -/
def State.retiredAnswered : State :=
  let t := s.entersRetired i o r d
  if t.link.held = some i then t.heldReadTest else t

/-- A slot that has retired, and is FREE again in release mode AUTO. -/
def State.retiredReleased : State :=
  let t := s.retiredAnswered i o r d
  if t.prof.flow.release = .auto then t.modSlot i Slot.release else t

/-- A sheet counts its retirement by the slot's own record and the table alone. -/
theorem State.countRetired_eq {s t : State} {i : SlotIx} (slots : t.slots = s.slots) (media : t.media = s.media) :
    t.countRetired i = { t with media := (s.countRetired i).media } := by
  have e : (t.slot i).sheet = (s.slot i).sheet := by rw [State.slot, State.slot, slots]
  unfold State.countRetired
  rw [e]
  split
  · rw [State.modSheet, State.modMedia, media]; rfl
  · rw [← media]

theorem State.agendaFrame_releaseNeed (vols : PerChan Nat) :
    State.AgendaFrame { s with ink := (s.releaseNeed vols).ink } (s.releaseNeed vols) := by
  unfold State.releaseNeed
  split
  · exact .refl s
  · obtain ⟨a, e⟩ := State.agendaFrame_inkChanged
      { s with ink := PerChan.of fun c => { s.ink.get c with reserved := (s.ink.get c).reserved - vols.get c } } (volumeChans vols)
    rw [e]
    exact ⟨a, rfl⟩

theorem State.agendaFrame_releaseSlotNeed : State.AgendaFrame { s with ink := (s.releaseSlotNeed i).ink } (s.releaseSlotNeed i) := by
  unfold State.releaseSlotNeed
  split
  · exact s.agendaFrame_releaseNeed _
  · exact .refl s

/-- What leaves with a slot: its place on the posted list, its windows, its reservation; its sheet counts it. -/
theorem State.leavesLists_frame : ∃ a, s.leavesLists i =
    { s with parser := { s.parser with posted := s.parser.posted.filter fun j => j ≠ i }, windows := s.windows.filter fun w => w.slot ≠ i,
             ink := (s.releaseSlotNeed i).ink, agenda := a, media := (s.countRetired i).media } := by
  obtain ⟨a, e⟩ := s.agendaFrame_releaseSlotNeed i
  refine ⟨a, ?_⟩
  rw [State.leavesLists, State.countRetired_eq (s := s) (by rw [e]; rfl) (by rw [e]; rfl), e]
  rfl

/-- The rest of a retirement schedules, and no more. -/
theorem State.agendaFrame_retire : (s.retiredReleased i o r d).AgendaFrame (s.retire i o r d) := by
  have e : (((s.leavesLists i).modSlot i fun k => k.retire o r d).slot i).seq = (s.slot i).seq := by
    obtain ⟨a, f⟩ := s.leavesLists_frame i
    rw [State.slot_modSlot_self, f]
    rfl
  unfold State.retire
  extract_lets inHand front boundary t1 t2 t3 t4 t5 t6
  have h2 : t2 = (s.leavesLists i).modSlot i fun k => k.retire o r d := rfl
  have h3 : t3 = s.entersRetired i o r d := by
    change t2.enterRetired { seq := (t2.slot i).seq, slot := i, outcome := o, reason := r } = _
    rw [h2, e]
    rfl
  have h5 : t5 = s.retiredReleased i o r d := by
    rw [State.retiredReleased, State.retiredAnswered, ← h3]
  rw [← h5]
  refine State.AgendaFrame.trans (t := t6) (t5.agendaFrame_wake _) ?_
  split
  · exact t6.agendaFrame_stirBoundary
  · exact t6.agendaFrame_stir

theorem State.enterRetired_frame (e : RetireEntry) : ∃ p v, s.enterRetired e = { s with parser := p, events := v } ∧ p.posted = s.parser.posted := by
  by_cases h : s.parser.retired.length < 64
  · exact ⟨_, s.events, State.enterRetired_of_room e h, rfl⟩
  · by_cases z : s.parser.retireOverflow = 0
    · exact ⟨_, _, State.enterRetired_of_first_drop e (Nat.not_lt.1 h) z, rfl⟩
    · exact ⟨_, s.events, State.enterRetired_of_later_drop e (Nat.not_lt.1 h) z, rfl⟩

/-- The state once the slot has retired and its entry has been offered. -/
theorem State.entersRetired_frame : ∃ a p v, s.entersRetired i o r d =
    { s with slots := s.slots.set i ((s.slot i).retire o r d), parser := p, windows := s.windows.filter fun w => w.slot ≠ i,
             ink := (s.releaseSlotNeed i).ink, agenda := a, media := (s.countRetired i).media, events := v } ∧
    p.posted = s.parser.posted.filter fun j => j ≠ i := by
  obtain ⟨a, e⟩ := s.leavesLists_frame i
  obtain ⟨p, v, f, g⟩ := ((s.leavesLists i).modSlot i fun k => k.retire o r d).enterRetired_frame (s.retireEntry i o r)
  refine ⟨a, p, v, ?_, ?_⟩
  · rw [State.entersRetired, f, e]; rfl
  · rw [g, e]; rfl

/-- With room on the list the entry stands at its tail, and nothing is posted. -/
theorem State.entersRetired_of_room (room : s.parser.retired.length < 64) : ∃ a, s.entersRetired i o r d =
    { s with slots := s.slots.set i ((s.slot i).retire o r d),
             parser := { s.parser with posted := s.parser.posted.filter fun j => j ≠ i, retired := s.parser.retired ++ [s.retireEntry i o r] },
             windows := s.windows.filter fun w => w.slot ≠ i, ink := (s.releaseSlotNeed i).ink, agenda := a, media := (s.countRetired i).media } := by
  obtain ⟨a, e⟩ := s.leavesLists_frame i
  refine ⟨a, ?_⟩
  rw [State.entersRetired, State.enterRetired_of_room _ (by rw [e]; exact room), e]
  rfl

theorem State.retiredAnswered_frame : (s.entersRetired i o r d).AnswerFrame (s.retiredAnswered i o r d) := by
  obtain ⟨a, p, v, e, -⟩ := s.entersRetired_frame i o r d
  have st : ((s.entersRetired i o r d).slot i).st = .retired := by
    rw [e]
    exact congrArg Slot.st (State.slot_modSlot_self s i fun k => k.retire o r d)
  unfold State.retiredAnswered
  extract_lets t
  split
  next h =>
    refine State.heldReadTest_frame fun j hj => ?_
    obtain rfl : i = j := Option.some.inj (h.symm.trans hj)
    rw [st]
    exact nofun
  next => exact .refl _

/-- The record of a slot once its retirement is over: FREE again in release mode AUTO. -/
def State.retiredSlot : Slot :=
  let k := (s.slot i).retire o r d
  if s.prof.flow.release = .auto then k.release else k

/-- After the entry the record is released in AUTO, a held read is answered, and the tests are scheduled. -/
theorem State.retire_eq : ∃ a u l, s.retire i o r d =
    { s.entersRetired i o r d with slots := s.slots.set i (s.retiredSlot i o r d), agenda := a, out := u, link := l } := by
  obtain ⟨a, p, v, e, -⟩ := s.entersRetired_frame i o r d
  obtain ⟨b, u, l, f⟩ := s.retiredAnswered_frame i o r d
  obtain ⟨c, h⟩ := s.agendaFrame_retire i o r d
  refine ⟨c, u, l, ?_⟩
  rw [h, State.retiredReleased, f, e, State.retiredSlot]
  dsimp only
  split
  · rw [State.modSlot, slots_get_eq, Vector.getElem_set_self, Vector.set_set]
  · rfl

/-- A retirement whole. -/
theorem State.retire_frame : ∃ a p v u l, s.retire i o r d =
    { s with slots := s.slots.set i (s.retiredSlot i o r d), parser := p, windows := s.windows.filter fun w => w.slot ≠ i,
             ink := (s.releaseSlotNeed i).ink, agenda := a, media := (s.countRetired i).media, events := v, out := u, link := l } ∧
    p.posted = s.parser.posted.filter fun j => j ≠ i := by
  obtain ⟨a, p, v, e, g⟩ := s.entersRetired_frame i o r d
  obtain ⟨b, u, l, f⟩ := s.retire_eq i o r d
  exact ⟨b, p, v, u, l, by rw [f, e], g⟩

/-- A retirement with room on the list posts nothing. -/
theorem State.retire_of_room (room : s.parser.retired.length < 64) : ∃ a u l, s.retire i o r d =
    { s with slots := s.slots.set i (s.retiredSlot i o r d),
             parser := { s.parser with posted := s.parser.posted.filter fun j => j ≠ i, retired := s.parser.retired ++ [s.retireEntry i o r] },
             windows := s.windows.filter fun w => w.slot ≠ i, ink := (s.releaseSlotNeed i).ink, agenda := a, media := (s.countRetired i).media,
             out := u, link := l } := by
  obtain ⟨a, e⟩ := s.entersRetired_of_room i o r d room
  obtain ⟨b, u, l, f⟩ := s.retire_eq i o r d
  exact ⟨b, u, l, by rw [f, e]⟩

end

/-- A slot's record where the table of slots has been written. -/
theorem slot_set {s t : State} {i : SlotIx} {k : Slot} (h : t.slots = s.slots.set i k) (j : SlotIx) : t.slot j = if j = i then k else s.slot j := by
  have e := State.slot_modSlot s i j fun _ => k
  rw [State.slot, h]
  exact e

/-- What a retired record holds, in either release mode. -/
theorem State.retiredSlot_fields (s : State) (i : SlotIx) (o : SlotOutcome) (r : Option Reason) (d : Nat) :
    let k := s.retiredSlot i o r d
    k.outcome = some o ∧ k.reason = r ∧ k.detail = d ∧ k.tally = Tally.zero ∧ k.capVolume = (s.slot i).capVolume ∧ k.kind = (s.slot i).kind ∧
      k.st = (if s.prof.flow.release = .auto then .free else .retired) := by
  unfold State.retiredSlot
  dsimp only
  split <;> exact ⟨rfl, rfl, rfl, rfl, rfl, rfl, rfl⟩

/-! ### The commit word, by the state of the slot (R21, R24) -/

/-- A write to an exchange beat without an open word and with a commit word is a commit. -/
theorem State.exchangeWrite_commit {s : State} {i : SlotIx} {w : WriteBeat} (o : w.hasOpen = false) (c : w.hasCommit = true) :
    s.exchangeWrite i w = s.commitSlot i w.commitSeq := by
  rw [State.exchangeWrite, o, c]
  rfl

/-- A write to word 1 that is no commit is a fault. -/
theorem State.exchangeWrite_partial {s : State} {i : SlotIx} {w : WriteBeat} (o : w.hasOpen = false) (c : w.hasCommit = false)
    (t : w.touchesWord1 = true) : s.exchangeWrite i w = s.protocolFault i .partialCommit 0 := by
  rw [State.exchangeWrite, o, c, t]
  rfl

/-- A write to an exchange beat that touches no commit word has its open word alone taken. -/
theorem State.exchangeWrite_open {s : State} {i : SlotIx} {w : WriteBeat} (o : w.hasOpen = true) (t : w.touchesWord1 = false) :
    s.exchangeWrite i w = s.openSlot i := by
  have c : w.hasCommit = false := by
    rw [WriteBeat.touchesWord1, List.any_eq_false] at t
    have := t 0 (by decide)
    rw [WriteBeat.hasCommit, Bool.eq_false_iff.2 this]
    rfl
  rw [State.exchangeWrite, o, c, t]
  rfl

/-- The address of a slot's exchange beat. -/
def State.exchangeAt (s : State) (i : SlotIx) : Nat := s.spanBase + 0x1000 + 256 * i.val + 0xC0

/-- A write to an exchange beat that arrives in UP. -/
theorem State.exchange_up {s : State} (u : s.link.state = .up) (i : SlotIx) (w : WriteBeat) :
    (s.cleared.slotWriteArrives i 0xC0 w).exchangeWrite i w = (s.afterWrite (s.exchangeAt i) w).exchangeWrite i w := by
  rw [State.slotWriteArrives_up u]
  rfl

theorem State.protocolFault_eq (s : State) (i : SlotIx) (f : ProtocolFault) (d2 : Nat) : s.protocolFault i f d2 =
    { s with slots := s.slots.set i { s.slot i with faults := min 15 ((s.slot i).faults + 1) },
             events := s.posted .slotProtocol i.val (f.code + 256 * (s.slot i).st.code) d2 } := by
  rw [State.protocolFault, State.post_eq_posted]
  rfl

theorem Slot.takesCommit_iff (k : Slot) : k.takesCommit = true ↔ k.st = .opened ∨ k.st = .free ∧ byteAt k.shadow 0 ≠ 1 := by
  simp [Slot.takesCommit, kindCode]

end Sys2Proof.Machine

section
open Sys2Proof Sys2Proof.Machine

/-- Settles O11, by what each kind of write does to its slot. -/
theorem commitRepeatsAndFaults : Obligations.CommitRepeatsAndFaults := by
  refine ⟨fun s i w r o c t => ?_, fun s i w r o c => ⟨fun rep => ?_, fun new bad => ?_⟩⟩
  · refine congrArg Host.Outcome.next (State.event_eq (.trans (State.exchange_up r.up i w) ?_) r.agenda)
    rw [State.exchangeWrite_partial o c t, State.protocolFault_eq]
    rfl
  · refine congrArg Host.Outcome.next (State.event_eq (.trans (State.exchange_up r.up i w) ?_) r.agenda)
    rw [State.exchangeWrite_commit o c]
    exact if_pos rep
  · refine congrArg Host.Outcome.next (State.event_eq (.trans (State.exchange_up r.up i w) ?_) r.agenda)
    rw [State.exchangeWrite_commit o c]
    have no : ¬ (s.slot i).takesCommit = true := by
      rw [Slot.takesCommit_iff]
      rcases bad with ⟨h, g⟩ | ⟨h, g⟩
      · rintro (e | ⟨-, e⟩)
        · rw [h] at e; exact absurd e nofun
        · exact e g
      · rintro (e | ⟨e, -⟩)
        · exact g e
        · exact h e
    refine ((if_neg new).trans (if_neg no)).trans ?_
    rw [State.protocolFault_eq]
    rfl

/-- Settles O18, by the whole of a retirement. -/
theorem retirementOfASlot : Obligations.RetirementOfASlot := by
  intro s i o r d t
  obtain ⟨a, p, v, u, l, e, hp⟩ := s.retire_frame i o r d
  have posted : t.parser.posted = s.parser.posted.filter fun j => j ≠ i := by rw [show t = _ from e]; exact hp
  have windows : t.windows = s.windows.filter fun w => w.slot ≠ i := by rw [show t = _ from e]
  have slots (j : SlotIx) : t.slot j = if j = i then s.retiredSlot i o r d else s.slot j := slot_set (by rw [show t = _ from e]) j
  rw [posted, windows, slots i, if_pos rfl]
  obtain ⟨h1, h2, h3, h4, h5, h6, h7⟩ := s.retiredSlot_fields i o r d
  exact ⟨by simp, by simp, fun w hw hi => List.mem_filter.2 ⟨hw, decide_eq_true hi⟩, h1, h2, h3, h4, h5, h6, h7,
    fun j hj => (slots j).trans (if_neg hj)⟩

end

/-! O12, O13: commits that are rejected or refused. -/
namespace Sys2Proof.Machine

/-! ### A commit rejected (R25 to R27) -/

section
variable (s : State) (i : SlotIx)

theorem State.mem_retired_retire (o : SlotOutcome) (r : Option Reason) (d : Nat) (room : s.parser.retired.length < 64) :
    s.retireEntry i o r ∈ (s.retire i o r d).parser.retired := by
  obtain ⟨a, u, l, e⟩ := s.retire_of_room i o r d room
  rw [e]
  exact List.mem_append_right _ List.mem_cons_self

theorem State.events_retire (o : SlotOutcome) (r : Option Reason) (d : Nat) (room : s.parser.retired.length < 64) :
    (s.retire i o r d).events = s.events := by
  obtain ⟨a, u, l, e⟩ := s.retire_of_room i o r d room
  rw [e]

/-- A slot with its commit's number, as it is before the rejection retires it. -/
def State.numbered (q : Seq) : State := s.modSlot i fun k => { k.leaveFree with seq := some q }

theorem State.retireEntry_numbered (q : Seq) (o : SlotOutcome) (r : Option Reason) :
    (s.numbered i q).retireEntry i o r = { seq := some q, slot := i, outcome := o, reason := r } := by
  rw [State.retireEntry, State.numbered, State.slot_modSlot_self]

theorem State.rejectCommit_swath {q : Seq} {r : Reason} {d : Nat} (h : (s.slot i).commitKind = some .swath) :
    s.rejectCommit i q r d = ((s.numbered i q).retire i .rejected (some r) d).postRejected i r (some q) := by
  have e : ((s.numbered i q).slot i).seq = some q := by rw [State.numbered, State.slot_modSlot_self]
  rw [← e]
  exact if_pos (decide_eq_true h)

theorem State.rejectCommit_other {q : Seq} {r : Reason} {d : Nat} (h : (s.slot i).commitKind ≠ some .swath) :
    s.rejectCommit i q r d = (s.numbered i q).retire i .rejected (some r) d :=
  if_neg fun g => h (of_decide_eq_true g)

theorem State.rejectCommit_quiet (q : Seq) (r : Reason) (d : Nat) : Quiet (s.numbered i q) (s.rejectCommit i q r d) := by
  by_cases h : (s.slot i).commitKind = some .swath
  · rw [s.rejectCommit_swath i h]
    exact State.postRejected_quiet (State.retire_quiet (.refl _) ..) ..
  · rw [s.rejectCommit_other i h]
    exact State.retire_quiet (.refl _) ..

/-- A rejected commit stands on the list of retirements where there is room. -/
theorem State.mem_retired_rejectCommit (q : Seq) (r : Reason) (d : Nat) (room : s.parser.retired.length < 64) :
    { seq := some q, slot := i, outcome := .rejected, reason := some r } ∈ (s.rejectCommit i q r d).parser.retired := by
  have e := State.mem_retired_retire (s.numbered i q) i .rejected (some r) d room
  rw [State.retireEntry_numbered] at e
  by_cases h : (s.slot i).commitKind = some .swath
  · rw [s.rejectCommit_swath i h]; exact e
  · rw [s.rejectCommit_other i h]; exact e

/-- A rejected swath is told of where there is room. -/
theorem State.mem_events_rejectCommit {q : Seq} {r : Reason} {d : Nat} (h : (s.slot i).commitKind = some .swath) (room : s.parser.retired.length < 64)
    (room' : s.events.recs.length < 32) : s.record .swathRejected i.val r.code q.toNat ∈ (s.rejectCommit i q r d).events.recs := by
  have e := State.events_retire (s.numbered i q) i .rejected (some r) d room
  have t : ((s.numbered i q).retire i .rejected (some r) d).time = s.time := (State.retire_quiet (.refl (s.numbered i q)) ..).time
  rw [s.rejectCommit_swath i h, State.postRejected, State.post_eq_posted, State.posted, e, State.record, t]
  rw [EventQueue.enter, if_pos (show (s.numbered i q).events.recs.length < 32 from room')]
  exact List.mem_append_right _ List.mem_cons_self

end

/-! ### A commit word in UP, taken by its slot (R24, R25) -/

section
variable {s : State} {i : SlotIx} {w : WriteBeat} (up : s.link.state = .up) (o : w.hasOpen = false) (c : w.hasCommit = true)
  (new : s.parser.lastAccepted ≠ some w.commitSeq) (takes : (s.slot i).takesCommit = true)

/-- The state in which a commit is checked. -/
def State.atCommit (s : State) (i : SlotIx) (w : WriteBeat) : State := s.afterWrite (s.exchangeAt i) w

include up o c new takes

/-- A commit that its slot takes is checked against the expected sequence, and the reactions follow. -/
theorem State.exec_commitWord : exec (.commitWord i w) s = .next (settle settleFuel ((s.atCommit i w).sequenceChecks i w.commitSeq)) := by
  refine congrArg (fun t => Host.Outcome.next (settle settleFuel t)) ?_
  change (s.cleared.slotWriteArrives i 0xC0 w).exchangeWrite i w = _
  rw [State.exchange_up up, State.exchangeWrite_commit o c]
  exact (if_neg new).trans (if_pos takes)

/-- A commit out of turn is rejected. -/
theorem State.exec_commitWord_outOfTurn (turn : w.commitSeq ≠ s.parser.expected) : exec (.commitWord i w) s =
    .next (settle settleFuel ((s.atCommit i w).rejectCommit i w.commitSeq .sequence s.parser.expected.toNat)) := by
  rw [State.exec_commitWord up o c new takes]
  exact congrArg (fun t => Host.Outcome.next (settle settleFuel t)) (if_pos turn)

/-- A commit in turn whose number no entry holds is checked for its content. -/
theorem State.exec_commitWord_inTurn (turn : w.commitSeq = s.parser.expected) (stands : s.sequenceStands w.commitSeq = false) :
    exec (.commitWord i w) s = .next (settle settleFuel ((s.atCommit i w).contentChecks i w.commitSeq)) := by
  rw [State.exec_commitWord up o c new takes]
  refine congrArg (fun t => Host.Outcome.next (settle settleFuel t)) ((if_neg (Classical.not_not.2 turn)).trans (if_neg ?_))
  rw [Bool.not_eq_true, show (s.atCommit i w).parser.expected = w.commitSeq from turn.symm]
  exact stands

end

/-- The reactions to a rejected commit keep what it left. -/
theorem settle_rejectCommit (s : State) (i : SlotIx) (q : Seq) (r : Reason) (d : Nat) (idle : NoReads s) :
    Quiet (s.rejectCommit i q r d) (settle settleFuel (s.rejectCommit i q r d)) := by
  have h := s.rejectCommit_quiet i q r d
  exact settle_quiet _ (.refl _) (h.waiting.trans idle.waiting) (h.stalled.trans idle.stalled)

/-! ### The content checks (R26, R27) -/

/-- The header checks pass exactly where a header is good. -/
theorem headerError_iff (h : List Byte) : headerError h = none ↔ HeaderGood h := by
  unfold headerError HeaderGood
  rw [show advanceField h = leAt h 8 4 from rfl, show rollChoiceField h = byteAt h 12 from rfl]
  constructor
  · intro e
    split at e
    · exact absurd e nofun
    next a =>
      split at e
      · exact absurd e nofun
      next b =>
        split at e
        · exact absurd e nofun
        next c =>
          refine ⟨Nat.not_lt.1 a, fun g => ?_, fun g => ?_⟩
          · rw [g, Bool.true_and, Option.isNone_iff_eq_none] at b
            exact Option.isSome_iff_ne_none.2 b
          · rw [g, Bool.true_and, decide_eq_true_eq] at c
            exact Nat.not_lt.1 c
  · rintro ⟨a, b, c⟩
    rw [if_neg (Nat.not_lt.2 a), if_neg, if_neg]
    · rw [Bool.and_eq_true, decide_eq_true_eq]
      exact fun g => absurd (c g.1) (Nat.not_le.2 g.2)
    · rw [Bool.and_eq_true, Option.isNone_iff_eq_none]
      exact fun g => Option.isSome_iff_ne_none.1 (b g.1) g.2

section
variable {s : State} {i : SlotIx} {q : Seq}

theorem State.contentChecks_kind (h : (s.slot i).commitKind = none) :
    s.contentChecks i q = (s.takeSequence q).rejectCommit i q .kind (kindCode (s.slot i).shadow) := by
  rw [State.contentChecks, h]

theorem State.contentChecks_other {k : SlotKind} (h : (s.slot i).commitKind = some k) (g : k ≠ .swath) :
    s.contentChecks i q = s.acceptCommit i q := by
  rw [State.contentChecks, h]
  cases k <;> first | rfl | exact absurd rfl g

variable (h : (s.slot i).commitKind = some .swath)
include h

theorem State.contentChecks_bad (g : ¬ HeaderGood (s.slot i).shadow) :
    ∃ f, s.contentChecks i q = (s.takeSequence q).rejectCommit i q .header f := by
  obtain ⟨f, e⟩ := Option.ne_none_iff_exists'.1 fun e => g ((headerError_iff _).1 e)
  refine ⟨f, ?_⟩
  rw [State.contentChecks, h]
  dsimp only
  rw [e]

theorem State.contentChecks_good (g : HeaderGood (s.slot i).shadow) : s.contentChecks i q = s.sheetChecks i q := by
  rw [State.contentChecks, h]
  dsimp only
  rw [(headerError_iff _).2 g]

end

section
variable {s : State} {i : SlotIx} {q : Seq}

theorem State.sheetChecks_start (h : sheetStartFlag (s.slot i).shadow = true) : s.sheetChecks i q =
    s.parser.openSheet.elim (if 4 ≤ s.media.table.length then s.refuseCommit i .sheetTableFull 0 else s.acceptCommit i q)
      fun o => (s.takeSequence q).rejectCommit i q .sheetOpen o.number := by
  unfold State.sheetChecks
  dsimp only
  rw [h]
  cases s.parser.openSheet <;> rfl

theorem State.sheetChecks_joins (h : sheetStartFlag (s.slot i).shadow = false) : s.sheetChecks i q =
    s.parser.openSheet.elim ((s.takeSequence q).rejectCommit i q .noSheet 0) fun o =>
      if leAt (s.slot i).shadow 4 2 ≠ o.number then (s.takeSequence q).rejectCommit i q .sheetNumber o.number else s.acceptCommit i q := by
  unfold State.sheetChecks
  dsimp only
  rw [h]
  cases s.parser.openSheet <;> rfl

end

end Sys2Proof.Machine

section
open Sys2Proof Sys2Proof.Machine

/-- Settles O12: the rejection leaves the entry and the record, which the reactions keep. -/
theorem commitOutOfTurnIsRejected : Obligations.CommitOutOfTurnIsRejected := by
  intro s i w up idle o c new takes turn room room'
  let u := (s.atCommit i w).rejectCommit i w.commitSeq .sequence s.parser.expected.toNat
  have own : Quiet ((s.atCommit i w).numbered i w.commitSeq) u := State.rejectCommit_quiet ..
  have after : Quiet u (settle settleFuel u) := settle_rejectCommit (s.atCommit i w) i _ _ _ ⟨idle.held, idle.gathered, idle.waiting, idle.stalled⟩
  refine ⟨settle settleFuel u, State.exec_commitWord_outOfTurn up o c new takes turn, after.expected.trans own.expected,
    after.lastAccepted.trans own.lastAccepted, after.openSheet.trans own.openSheet, ?_, fun swath => ?_⟩
  · exact after.retiredStand.subset (State.mem_retired_rejectCommit _ _ _ _ _ room)
  · have e := State.mem_events_rejectCommit (s.atCommit i w) i (q := w.commitSeq) (r := .sequence) (d := s.parser.expected.toNat) swath room room'
    have small := w.commitSeq.isLt
    have r : (s.atCommit i w).record .swathRejected i.val Reason.sequence.code w.commitSeq.toNat =
        { kind := .swathRejected, subject := i.val, d1 := 0x30, d2 := w.commitSeq.toNat, time := s.time.ms } := by
      rw [State.record, Nat.min_eq_left (by omega), Nat.min_eq_left (by omega : w.commitSeq.toNat ≤ _)]
      rfl
    rw [← r]
    exact after.recsStand.subset e

/-- Settles O13, check by check. -/
theorem commitInTurnContentChecks : Obligations.CommitInTurnContentChecks := by
  intro s i w up idle o c new takes turn stands room h swath good rejected
  have step := State.exec_commitWord_inTurn up o c new takes turn stands
  have reject {r : Reason} {d : Nat} (e : (s.atCommit i w).contentChecks i w.commitSeq =
      ((s.atCommit i w).takeSequence w.commitSeq).rejectCommit i w.commitSeq r d) : rejected r := by
    rw [e] at step
    have own := State.rejectCommit_quiet ((s.atCommit i w).takeSequence w.commitSeq) i w.commitSeq r d
    have after := settle_rejectCommit ((s.atCommit i w).takeSequence w.commitSeq) i w.commitSeq r d
      ⟨idle.held, idle.gathered, idle.waiting, idle.stalled⟩
    exact ⟨_, step, after.expected.trans own.expected, after.lastAccepted.trans own.lastAccepted, after.openSheet.trans own.openSheet,
      after.retiredStand.subset (State.mem_retired_rejectCommit _ _ _ _ _ room)⟩
  have sheets (hk : swath) (hg : good) : (s.atCommit i w).contentChecks i w.commitSeq = (s.atCommit i w).sheetChecks i w.commitSeq :=
    State.contentChecks_good (s := s.atCommit i w) hk hg
  refine ⟨fun hk => reject (State.contentChecks_kind (s := s.atCommit i w) hk), fun hk hg => ?_, fun hk hg start opened => ?_, fun hk hg start opened => ?_,
    fun x hk hg start opened number => ?_, fun hk hg start opened full ag => ?_⟩
  · obtain ⟨f, e⟩ := State.contentChecks_bad (s := s.atCommit i w) (q := w.commitSeq) hk hg
    exact reject e
  · obtain ⟨x, hx⟩ := Option.isSome_iff_exists.1 opened
    refine reject (r := .sheetOpen) (d := x.number) ?_
    rw [sheets hk hg, State.sheetChecks_start (s := s.atCommit i w) start, show (s.atCommit i w).parser.openSheet = some x from hx]
    rfl
  · refine reject (r := .noSheet) (d := 0) ?_
    rw [sheets hk hg, State.sheetChecks_joins (s := s.atCommit i w) start, show (s.atCommit i w).parser.openSheet = none from opened]
    rfl
  · refine reject (r := .sheetNumber) (d := x.number) ?_
    rw [sheets hk hg, State.sheetChecks_joins (s := s.atCommit i w) start, show (s.atCommit i w).parser.openSheet = some x from opened]
    exact if_pos number
  · have e : (s.atCommit i w).contentChecks i w.commitSeq = (s.atCommit i w).refuseCommit i .sheetTableFull 0 := by
      rw [sheets hk hg, State.sheetChecks_start (s := s.atCommit i w) start, show (s.atCommit i w).parser.openSheet = none from opened]
      exact if_pos full
    rw [step, e, settle_none _ (show ((s.atCommit i w).refuseCommit i .sheetTableFull 0).agenda = [] from ag)]
    rfl

end

/-! O10: the open word, alone and with a commit word; a commit that is accepted. -/
namespace Sys2Proof.Machine

theorem State.modSlot_modSlot (s : State) (i : SlotIx) (f g : Slot → Slot) : (s.modSlot i f).modSlot i g = s.modSlot i fun k => g (f k) := by
  simp only [State.modSlot, slots_get_eq, Vector.getElem_set_self, Vector.set_set]

/-! ### A commit accepted (R28) -/

/-- The slot's record after the eight steps. -/
def Slot.accepted (k : Slot) (q : Seq) (sheet : Option Nat) : Slot :=
  { k.leaveFree with seq := some q, sheet := sheet, st := .posted, reason := none, detail := 0 }

/-- The slot POSTED at the tail of the posted list. -/
def State.atTail (s : State) (i : SlotIx) : State :=
  { s with slots := s.slots.set i { s.slot i with st := .posted, reason := none, detail := 0 },
           parser := { s.parser with posted := s.parser.posted ++ [i] } }

/-- Step 8 and what it schedules. -/
theorem State.postSlot_stir_frame (s : State) (i : SlotIx) : (s.atTail i).AgendaFrame (s.postSlot i).stir := by
  unfold State.postSlot
  extract_lets p t u
  have first : (s.atTail i).AgendaFrame u := State.agendaFrame_wake (s.atTail i) [.directives]
  refine first.trans (State.AgendaFrame.trans ?_ (State.agendaFrame_stir _))
  split
  · exact u.agendaFrame_wake _
  · exact .refl u

/-- The state before step 5: the slot holds its number, and the sequence is taken. -/
def State.sequenceTaken (s : State) (i : SlotIx) (q : Seq) : State := (s.numbered i q).takeSequence q

/-- A commit of another kind than SWATH. -/
theorem State.acceptCommit_other {s : State} {i : SlotIx} {q : Seq} (h : (s.slot i).commitKind ≠ some .swath) :
    State.AgendaFrame { s with
      slots := s.slots.set i ((s.slot i).accepted q (s.slot i).leaveFree.sheet),
      parser := { s.parser with lastAccepted := some q, expected := s.parser.expected + 1, posted := s.parser.posted ++ [i] } }
      (s.acceptCommit i q) := by
  have e : s.acceptCommit i q = ((s.sequenceTaken i q).postSlot i).stir := if_neg fun g => h (of_decide_eq_true g)
  obtain ⟨a, f⟩ := (s.sequenceTaken i q).postSlot_stir_frame i
  refine ⟨a, ?_⟩
  rw [e, f, State.atTail]
  have own : (s.sequenceTaken i q).slot i = { (s.slot i).leaveFree with seq := some q } := State.slot_modSlot_self s i fun k => { k.leaveFree with seq := some q }
  have slots : (s.sequenceTaken i q).slots = s.slots.set i { (s.slot i).leaveFree with seq := some q } := rfl
  rw [own, slots, Vector.set_set]
  rfl

/-- A SWATH commit after steps 1 to 7. -/
def State.sheetJoined (s : State) (i : SlotIx) (q : Seq) : State := ((s.sequenceTaken i q).joinSheet i (s.slot i).shadow q).closeSheet (s.slot i).shadow

theorem State.acceptCommit_swath {s : State} {i : SlotIx} {q : Seq} (h : (s.slot i).commitKind = some .swath)
    (clear : (s.sheetJoined i q).skipAtCommit ((s.sheetJoined i q).slot i).sheet = none) :
    s.acceptCommit i q = (((s.sheetJoined i q)).postSlot i).stir := by
  refine (if_pos (decide_eq_true h)).trans ?_
  change (match (s.sheetJoined i q).skipAtCommit ((s.sheetJoined i q).slot i).sheet with
    | some r => (s.sheetJoined i q).retire i .skipped (some r) 0
    | none => ((s.sheetJoined i q).postSlot i).stir) = _
  rw [clear]

/-- The record of a sheet after step 7 of the swath that opens it. -/
def sheetOpened (h : List Byte) (sid : Nat) (q : Seq) : Sheet :=
  if sheetEndFlag h = true then { newSheet h sid q with endCommitted := true, trailing := trailingOf h } else newSheet h sid q

theorem sheetOpened_fields (h : List Byte) (sid : Nat) (q : Seq) :
    let v := sheetOpened h sid q
    v.sid = sid ∧ v.number = leAt h 4 2 ∧ v.st = .pending ∧ v.swaths = 1 ∧ v.firstSeq = q ∧ v.spoil = none := by
  unfold sheetOpened
  dsimp only
  split <;> exact ⟨rfl, rfl, rfl, rfl, rfl, rfl⟩

section
variable {s : State} {i : SlotIx} {q : Seq}

/-- Steps 5 and 7 of a swath that opens a sheet. -/
theorem State.sheetJoined_start (start : sheetStartFlag (s.slot i).shadow = true) (fresh : ∀ v ∈ s.media.table, v.sid < s.media.nextSid) :
    s.sheetJoined i q = { s with
      slots := s.slots.set i { (s.slot i).leaveFree with seq := some q, sheet := some s.media.nextSid },
      parser := { s.parser with lastAccepted := some q, expected := s.parser.expected + 1,
                                openSheet := if sheetEndFlag (s.slot i).shadow = true then none
                                  else some { number := leAt (s.slot i).shadow 4 2, sid := s.media.nextSid } },
      media := { s.media with table := s.media.table ++ [sheetOpened (s.slot i).shadow s.media.nextSid q], nextSid := s.media.nextSid + 1 } } := by
  have old (f : Sheet → Sheet) : s.media.table.map (fun t => if t.sid = s.media.nextSid then f t else t) = s.media.table :=
    (List.map_congr_left fun v hv => if_neg (Nat.ne_of_lt (fresh v hv))).trans (List.map_id' _)
  have join : (s.sequenceTaken i q).joinSheet i (s.slot i).shadow q = { s with
      slots := s.slots.set i { (s.slot i).leaveFree with seq := some q, sheet := some s.media.nextSid },
      parser := { s.parser with lastAccepted := some q, expected := s.parser.expected + 1,
                                openSheet := some { number := leAt (s.slot i).shadow 4 2, sid := s.media.nextSid } },
      media := { s.media with table := s.media.table ++ [newSheet (s.slot i).shadow s.media.nextSid q], nextSid := s.media.nextSid + 1 } } := by
    refine (if_pos start).trans ?_
    have slots : (s.sequenceTaken i q).slots = s.slots.set i { (s.slot i).leaveFree with seq := some q } := rfl
    rw [State.modSlot, slots_get_eq]
    dsimp only [State.slots_modMedia]
    rw [slots, Vector.getElem_set_self, Vector.set_set]
    rfl
  rw [State.sheetJoined, join, State.closeSheet, sheetOpened]
  split
  · dsimp only [State.modSheet, State.modMedia]
    rw [List.map_append, old]
    have own : (newSheet (s.slot i).shadow s.media.nextSid q).sid = s.media.nextSid := rfl
    rw [List.map_singleton, if_pos own]
  · rfl

/-- A SWATH that opens a sheet is posted, and its record stands at the tail of the table. -/
theorem State.acceptCommit_start (h : (s.slot i).commitKind = some .swath) (start : sheetStartFlag (s.slot i).shadow = true)
    (fresh : ∀ v ∈ s.media.table, v.sid < s.media.nextSid) : State.AgendaFrame { s with
      slots := s.slots.set i ((s.slot i).accepted q (some s.media.nextSid)),
      parser := { s.parser with lastAccepted := some q, expected := s.parser.expected + 1, posted := s.parser.posted ++ [i],
                                openSheet := if sheetEndFlag (s.slot i).shadow = true then none
                                  else some { number := leAt (s.slot i).shadow 4 2, sid := s.media.nextSid } },
      media := { s.media with table := s.media.table ++ [sheetOpened (s.slot i).shadow s.media.nextSid q], nextSid := s.media.nextSid + 1 } }
      (s.acceptCommit i q) := by
  have e := State.sheetJoined_start (q := q) start fresh
  have own : (s.sheetJoined i q).slot i = { (s.slot i).leaveFree with seq := some q, sheet := some s.media.nextSid } :=
    (slot_set (s := s) (i := i) (by rw [e]) i).trans (if_pos rfl)
  obtain ⟨hsid, -, -, -, -, hspoil⟩ := sheetOpened_fields (s.slot i).shadow s.media.nextSid q
  have found : (s.sheetJoined i q).sheet? s.media.nextSid = some (sheetOpened (s.slot i).shadow s.media.nextSid q) := by
    have none : s.media.table.find? (fun t => t.sid == s.media.nextSid) = none :=
      List.find?_eq_none.2 fun v hv => by simpa using Nat.ne_of_lt (fresh v hv)
    rw [e, State.sheet?, List.find?_append, none]
    simp [hsid]
  rw [State.acceptCommit_swath h (by rw [own, State.skipAtCommit, Option.bind_some, found]; exact hspoil)]
  obtain ⟨a, f⟩ := (s.sheetJoined i q).postSlot_stir_frame i
  refine ⟨a, ?_⟩
  rw [f, State.atTail, own, e]
  dsimp only
  rw [Vector.set_set]
  rfl

end

section
variable {s : State} {i : SlotIx} {q : Seq} {o : OpenSheet}

/-- A sheet's record after steps 6 and 7 of a swath that joins it. -/
def Sheet.joined (h : List Byte) (sid : Nat) (t : Sheet) : Sheet :=
  if t.sid = sid then
    if sheetEndFlag h = true then { t with swaths := t.swaths + 1, endCommitted := true, trailing := trailingOf h } else { t with swaths := t.swaths + 1 }
  else t

theorem Sheet.joined_fields (h : List Byte) (sid : Nat) (t : Sheet) : (t.joined h sid).sid = t.sid ∧ (t.joined h sid).spoil = t.spoil := by
  unfold Sheet.joined
  split
  · split <;> exact ⟨rfl, rfl⟩
  · exact ⟨rfl, rfl⟩

/-- Steps 6 and 7 of a swath that joins the open sheet. -/
theorem State.sheetJoined_joins (start : sheetStartFlag (s.slot i).shadow = false) (opened : s.parser.openSheet = some o) :
    s.sheetJoined i q = { s with
      slots := s.slots.set i { (s.slot i).leaveFree with seq := some q, sheet := some o.sid },
      parser := { s.parser with lastAccepted := some q, expected := s.parser.expected + 1,
                                openSheet := if sheetEndFlag (s.slot i).shadow = true then none else some o },
      media := { s.media with table := s.media.table.map (Sheet.joined (s.slot i).shadow o.sid) } } := by
  have join : (s.sequenceTaken i q).joinSheet i (s.slot i).shadow q = { s with
      slots := s.slots.set i { (s.slot i).leaveFree with seq := some q, sheet := some o.sid },
      parser := { s.parser with lastAccepted := some q, expected := s.parser.expected + 1 },
      media := { s.media with table := s.media.table.map fun t => if t.sid = o.sid then { t with swaths := t.swaths + 1 } else t } } := by
    refine (if_neg (by rw [start]; exact Bool.false_ne_true)).trans ?_
    have slots : (s.sequenceTaken i q).slots = s.slots.set i { (s.slot i).leaveFree with seq := some q } := rfl
    rw [show (s.sequenceTaken i q).parser.openSheet = some o from opened]
    dsimp only
    rw [State.modSlot, slots_get_eq]
    dsimp only [State.slots_modSheet]
    rw [slots, Vector.getElem_set_self, Vector.set_set]
    rfl
  rw [State.sheetJoined, join, State.closeSheet]
  unfold Sheet.joined
  split
  · rw [show State.parser _ = { s.parser with lastAccepted := some q, expected := s.parser.expected + 1 } from rfl]
    dsimp only [State.modSheet, State.modMedia]
    rw [opened]
    dsimp only
    rw [List.map_map]
    congr 3
    funext t
    dsimp only [Function.comp]
    by_cases h : t.sid = o.sid
    · simp only [if_pos h]
    · simp only [if_neg h]
  · rw [← opened]

/-- A SWATH that joins a sheet that is not being spoiled is posted. -/
theorem State.acceptCommit_joins {v : Sheet} (h : (s.slot i).commitKind = some .swath) (start : sheetStartFlag (s.slot i).shadow = false)
    (opened : s.parser.openSheet = some o) (hv : s.sheet? o.sid = some v) (clear : v.spoil = none) : State.AgendaFrame { s with
      slots := s.slots.set i ((s.slot i).accepted q (some o.sid)),
      parser := { s.parser with lastAccepted := some q, expected := s.parser.expected + 1, posted := s.parser.posted ++ [i],
                                openSheet := if sheetEndFlag (s.slot i).shadow = true then none else some o },
      media := { s.media with table := s.media.table.map (Sheet.joined (s.slot i).shadow o.sid) } }
      (s.acceptCommit i q) := by
  have e := State.sheetJoined_joins (q := q) start opened
  have own : (s.sheetJoined i q).slot i = { (s.slot i).leaveFree with seq := some q, sheet := some o.sid } :=
    (slot_set (s := s) (i := i) (by rw [e]) i).trans (if_pos rfl)
  have found : (s.sheetJoined i q).sheet? o.sid = some (v.joined (s.slot i).shadow o.sid) := by
    have same : (fun t : Sheet => t.sid == o.sid) ∘ Sheet.joined (s.slot i).shadow o.sid = fun t => t.sid == o.sid := by
      funext t
      rw [Function.comp, (Sheet.joined_fields ..).1]
    rw [e, State.sheet?]
    dsimp only
    rw [List.find?_map, same]
    rw [State.sheet?] at hv
    rw [hv]
    rfl
  have spoil : (v.joined (s.slot i).shadow o.sid).spoil = none := (Sheet.joined_fields ..).2.trans clear
  rw [State.acceptCommit_swath h (by rw [own, State.skipAtCommit, Option.bind_some, found]; exact spoil)]
  obtain ⟨a, f⟩ := (s.sheetJoined i q).postSlot_stir_frame i
  refine ⟨a, ?_⟩
  rw [f, State.atTail, own, e]
  dsimp only
  rw [Vector.set_set]
  rfl

end

/-! ### The open word (R22, R23) -/

section
variable {s : State} {i : SlotIx}

theorem State.openSlot_busy (h : (s.slot i).st ≠ .free) : s.openSlot i = s.protocolFault i .openNotFree 0 := if_neg h

theorem State.openSlot_refused {r : Reason} {d : Nat} (h : (s.slot i).st = .free) (e : s.openError (s.slot i).shadow = some (r, d)) :
    s.openSlot i = s.modSlot i fun k => { k with reason := some r, detail := d } := by
  rw [State.openSlot, if_pos h, e]

theorem State.openSlot_taken (h : (s.slot i).st = .free) (e : s.openError (s.slot i).shadow = none) : s.openSlot i = s.takeOpen i := by
  rw [State.openSlot, if_pos h, e]

/-- The windows that an open of a slot makes. -/
def State.openedWindows (s : State) (i : SlotIx) : List Window :=
  windowsOf (geometryOf (s.slot i).shadow) i s.nextWid (geometryOf (s.slot i).shadow).present

theorem windowsOf_planes (g : Geometry) (i : SlotIx) (wid : Nat) (ps : List (Chan × Nat)) :
    (windowsOf g i wid ps).map (fun x => (x.chan, x.base)) = ps := by
  induction ps generalizing wid with
  | nil => rfl
  | cons p ps ih => rw [windowsOf, List.map_cons, ih]

theorem mem_windowsOf {g : Geometry} {i : SlotIx} {wid : Nat} {ps : List (Chan × Nat)} {x : Window} (h : x ∈ windowsOf g i wid ps) :
    x.slot = i ∧ x.len = g.columns * 256 ∧ x.mark = 0 := by
  induction ps generalizing wid with
  | nil => exact absurd h List.not_mem_nil
  | cons p ps ih =>
    rcases List.mem_cons.1 h with rfl | h
    · exact ⟨rfl, rfl, rfl⟩
    · exact ih h

theorem State.takeOpen_eq (s : State) (i : SlotIx) : s.takeOpen i =
    { s with windows := s.windows ++ s.openedWindows i, nextWid := s.nextWid + (s.openedWindows i).length, slots := s.slots.set i (s.slot i).open } := by
  rw [State.openedWindows, windowsOf_length]
  rfl

end

/-- The state in which an open word is taken. -/
theorem State.exec_openWord {s : State} (up : s.link.state = .up) (i : SlotIx) (w : WriteBeat) :
    exec (.openWord i w) s = .next (settle settleFuel ((s.atCommit i w).exchangeWrite i w)) :=
  congrArg (fun t => Host.Outcome.next (settle settleFuel t)) (State.exchange_up up i w)

/-- An open word and a commit word in one beat are taken in that order. -/
theorem State.exchangeWrite_both {s : State} {i : SlotIx} {w : WriteBeat} (o : w.hasOpen = true) (c : w.hasCommit = true) :
    s.exchangeWrite i w = (s.openSlot i).commitSlot i w.commitSeq := by
  rw [State.exchangeWrite, o, c]
  rfl

end Sys2Proof.Machine

section
open Sys2Proof Sys2Proof.Machine

/-- Settles O10: the open word by its three cases; with a commit word the commit finds the slot as the open left it. -/
theorem openWordTaken : Obligations.OpenWordTaken := by
  refine ⟨fun s i w r o t => ⟨fun busy => ?_, fun why d free e => ?_, fun free e => ?_⟩, fun s i w r o c free new => ⟨fun why d e k => ?_, fun e turn stands good start closed room fresh => ?_⟩⟩
  · refine (State.exec_openWord r.up i w).trans (congrArg Host.Outcome.next ?_)
    rw [State.exchangeWrite_open o t, State.openSlot_busy (s := s.atCommit i w) busy, State.protocolFault_eq]
    exact settle_none _ r.agenda
  · refine (State.exec_openWord r.up i w).trans (congrArg Host.Outcome.next ?_)
    rw [State.exchangeWrite_open o t, State.openSlot_refused (s := s.atCommit i w) free e]
    exact settle_none _ r.agenda
  · refine ⟨s.openedWindows i, (State.exec_openWord r.up i w).trans (congrArg Host.Outcome.next ?_), windowsOf_planes .., fun x hx => mem_windowsOf hx⟩
    rw [State.exchangeWrite_open o t, State.openSlot_taken (s := s.atCommit i w) free e, State.takeOpen_eq]
    exact settle_none _ r.agenda
  · let u := (s.atCommit i w).modSlot i fun k => { k with reason := some why, detail := d }
    have own : u.slot i = { s.slot i with reason := some why, detail := d } := State.slot_modSlot_self _ _ _
    have no : ¬ (u.slot i).takesCommit = true := by
      rw [own, Slot.takesCommit_iff]
      rintro (h | ⟨-, h⟩)
      · exact absurd (free.symm.trans h) nofun
      · exact h k
    refine (State.exec_openWord r.up i w).trans (congrArg Host.Outcome.next ?_)
    rw [State.exchangeWrite_both o c, State.openSlot_refused (s := s.atCommit i w) free e]
    have step : u.commitSlot i w.commitSeq = u.protocolFault i .commitState w.commitSeq.toNat := (if_neg new).trans (if_neg no)
    rw [show State.commitSlot _ i w.commitSeq = _ from step, State.protocolFault_eq, own]
    rw [show u.slots = s.slots.set i { s.slot i with reason := some why, detail := d } from rfl, Vector.set_set]
    dsimp only
    rw [free]
    exact settle_none _ r.agenda
  · let u := (s.atCommit i w).takeOpen i
    have hu : u = _ := State.takeOpen_eq _ _
    have own : u.slot i = (s.slot i).open := (slot_set (s := s.atCommit i w) (i := i) (k := (s.slot i).open) (by rw [hu]; rfl) i).trans (if_pos rfl)
    have kind : (u.slot i).commitKind = some .swath := by rw [own]; rfl
    have idle : u.sequenceStands w.commitSeq = false := by
      rw [State.sequenceStands, List.any_eq_false] at stands ⊢
      intro j hj
      rw [slot_set (s := s.atCommit i w) (i := i) (by rw [hu]) j]
      split
      · exact Bool.false_ne_true
      · exact stands j hj
    have fresh' : ∀ v ∈ u.media.table, v.sid < u.media.nextSid := fresh
    have shadow : (u.slot i).shadow = (s.slot i).shadow := by rw [own]; rfl
    have step : u.commitSlot i w.commitSeq = u.acceptCommit i w.commitSeq := by
      have takes : (u.slot i).takesCommit = true := by rw [own]; rfl
      rw [State.commitSlot, if_neg (show ¬ u.parser.lastAccepted = some w.commitSeq from new), if_pos takes, State.sequenceChecks]
      rw [show u.parser.expected = w.commitSeq from turn.symm]
      rw [if_neg (Classical.not_not.2 rfl), idle, if_neg Bool.false_ne_true, State.contentChecks_good kind (by rw [shadow]; exact good),
        State.sheetChecks_start (by rw [shadow]; exact start), show u.parser.openSheet = none from closed]
      exact if_neg (Nat.not_le.2 room)
    obtain ⟨a, f⟩ := State.acceptCommit_start (q := w.commitSeq) kind (by rw [shadow]; exact start) fresh'
    have slot : (u.acceptCommit i w.commitSeq).slot i = (u.slot i).accepted w.commitSeq (some u.media.nextSid) :=
      (slot_set (s := u) (i := i) (by rw [f]) i).trans (if_pos rfl)
    refine ⟨u.acceptCommit i w.commitSeq, s.openedWindows i, ?_, ?_⟩
    · refine (State.exec_openWord r.up i w).trans (congrArg (fun t => Host.Outcome.next (settle settleFuel t)) ?_)
      rw [State.exchangeWrite_both o c, State.openSlot_taken (s := s.atCommit i w) free e]
      exact step
    · rw [slot, own, f, hu]
      exact ⟨rfl, rfl, rfl, rfl, rfl, rfl, rfl, rfl, windowsOf_planes ..⟩

end

/-! O19, O20: plane writes that count, and late writes. -/
namespace Sys2Proof.Machine

/-! ### The drops of a write beat (R46, R47) -/

theorem foldl_dropOf (codes : List Nat) (d : Drops) : codes.foldl (fun d c => d.add (dropOf c)) d =
    ⟨d.small + codes.count 1, d.medium + codes.count 2, d.large + codes.count 3⟩ := by
  induction codes generalizing d with
  | nil => rfl
  | cons c cs ih =>
    rw [List.foldl_cons, ih]
    simp only [List.count_cons, Drops.add]
    match c with
    | 0 => rfl
    | 1 => simp [dropOf]; omega
    | 2 => simp [dropOf]; omega
    | 3 => simp [dropOf]; omega
    | c + 4 => simp [dropOf, Drops.none]

/-- The drops of codes are counted by size. -/
theorem countDrops_eq (codes : List Nat) : countDrops codes = ⟨codes.count 1, codes.count 2, codes.count 3⟩ := by
  rw [countDrops, foldl_dropOf]
  simp [Drops.none]

theorem count_codesOfByte (b code : Nat) : (codesOfByte b).count code = (List.range 4).countP fun n => decide (b / 4 ^ n % 4 = code) := by
  rw [show codesOfByte b = (List.range 4).map fun n => b / 4 ^ n % 4 from by
    simp [codesOfByte, List.range_succ], List.count, List.countP_map]
  rfl

/-- The drops of a size among the enabled bytes of a beat. -/
theorem count_enabledCodes (w : WriteBeat) (code : Nat) : (enabledCodes w).count code =
    ((List.range 64).map fun j =>
      if w.en j = true then ((List.range 4).countP fun n => decide (w.byte j / 4 ^ n % 4 = code)) else 0).sum := by
  rw [enabledCodes, List.count_flatMap]
  congr 2
  funext j
  rw [Function.comp]
  split
  · exact count_codesOfByte _ _
  · rfl

/-! ### A write beat in a plane window (R6, R47, R48) -/

theorem beatWrites_iff (w : WriteBeat) : (List.range 64).any w.en = true ↔ beatWrites w := by
  simp [beatWrites, List.any_eq_true]

/-- A write beat in a window. As in `State.learnWrite_cases` the definition is unfolded as a function. -/
theorem State.learnWrite_plane {s : State} {a : Nat} {win : Window} (h : s.classify a = .plane win) (w : WriteBeat) :
    s.learnWrite a w = s.planeBeatWrite win (a - win.base) w := by
  generalize hf : State.learnWrite = f
  delta State.learnWrite at hf
  subst hf
  dsimp only
  rw [h]

/-- A write beat in a window, in UP. -/
theorem State.exec_planeWrite {s : State} (up : s.link.state = .up) {a : Addr} {w : WriteBeat} {win : Window} (h : s.classify a.toNat = .plane win) :
    exec (.planeWrite a w) s = .next (settle settleFuel ((s.afterWrite a.toNat w).planeBeatWrite win (a.toNat - win.base) w)) := by
  refine congrArg (fun t => Host.Outcome.next (settle settleFuel t)) ?_
  have learnt : (s.afterWrite a.toNat w).learnWrite a.toNat w = (s.afterWrite a.toNat w).planeBeatWrite win (a.toNat - win.base) w :=
    State.learnWrite_plane (s := s.afterWrite a.toNat w) h w
  rw [← learnt, ← State.writeArrives_up up]
  rfl

section
variable {s : State} {win : Window} {o : Nat} {w : WriteBeat}

theorem State.planeBeatWrite_none (h : ¬ beatWrites w) : s.planeBeatWrite win o w = s := by
  refine if_pos ?_
  rw [Bool.not_eq_true', Bool.eq_false_iff, ne_eq, beatWrites_iff]
  exact h

variable (h : beatWrites w)
include h

theorem State.planeBeatWrite_some : s.planeBeatWrite win o w =
    match (s.slot win.slot).st with
    | .opened => s.modSlot win.slot fun k => k.addWritten win.chan w
    | .posted => (s.rejectSwath win.slot .lateWrite win.chan.num).count .lateWrites 1
    | .held => (s.rejectSwath win.slot .lateWrite win.chan.num).count .lateWrites 1
    | .admitted => (s.rejectSwath win.slot .lateWrite win.chan.num).count .lateWrites 1
    | .firing => s.lateWriteFiring win.slot win.chan o
    | .advancing => s.lateWriteFiring win.slot win.chan o
    | _ => s := by
  refine if_neg ?_
  rw [Bool.not_eq_true', Bool.not_eq_false, beatWrites_iff]
  exact h

theorem State.planeBeatWrite_opened (g : (s.slot win.slot).st = .opened) :
    s.planeBeatWrite win o w = s.modSlot win.slot fun k => k.addWritten win.chan w := by
  rw [State.planeBeatWrite_some h, g]

theorem State.planeBeatWrite_waiting (g : (s.slot win.slot).st = .posted ∨ (s.slot win.slot).st = .held ∨ (s.slot win.slot).st = .admitted) :
    s.planeBeatWrite win o w = (s.rejectSwath win.slot .lateWrite win.chan.num).count .lateWrites 1 := by
  rw [State.planeBeatWrite_some h]
  rcases g with g | g | g <;> rw [g]

theorem State.planeBeatWrite_printing (g : (s.slot win.slot).st = .firing ∨ (s.slot win.slot).st = .advancing) :
    s.planeBeatWrite win o w = s.lateWriteFiring win.slot win.chan o := by
  rw [State.planeBeatWrite_some h]
  rcases g with g | g <;> rw [g]

end

/-- A late write into a FIRING or ADVANCING swath. -/
theorem State.lateWriteFiring_eq {s : State} {i : SlotIx} {c : Chan} {o : Nat} (room : s.counters.lateWrites < max32) : s.lateWriteFiring i c o =
    { s with counters := { s.counters with lateWrites := s.counters.lateWrites + 1 },
             slots := if (s.slot i).tally.lateWritePosted = true then s.slots
               else s.slots.set i { s.slot i with tally := { (s.slot i).tally with lateWritePosted := true } },
             events := if (s.slot i).tally.lateWritePosted = true then s.events
               else s.posted .lateWrite i.val (c.num + 256 * o) (s.slot i).st.code } := by
  unfold State.lateWriteFiring
  dsimp only
  rw [State.count_of_le (i := .lateWrites) room]
  split
  · rfl
  · rw [State.post_eq_posted]; rfl

end Sys2Proof.Machine

section
open Sys2Proof Sys2Proof.Machine

/-- Settles O19, by the codes of the enabled bytes. -/
theorem planeWritesCountWhileOpen : Obligations.PlaneWritesCountWhileOpen := by
  intro s a w win r h g old found new
  refine ⟨fun writes => ?_, fun writes => ?_⟩
  · rw [State.exec_planeWrite r.up h, State.planeBeatWrite_opened (s := s.afterWrite a.toNat w) writes g]
    have drops : old.satAdd (countDrops (enabledCodes w)) = new := by
      rw [countDrops_eq, count_enabledCodes, count_enabledCodes, count_enabledCodes]
      rfl
    rw [← drops]
    exact congrArg Host.Outcome.next (settle_none _ r.agenda)
  · rw [State.exec_planeWrite r.up h, State.planeBeatWrite_none writes]
    exact congrArg Host.Outcome.next (settle_none _ r.agenda)

/-- Settles O20, by whether the swath waits or prints. -/
theorem lateWrites : Obligations.LateWrites := by
  intro s a w win up idle h writes room k
  refine ⟨fun waits list => ?_, fun prints ag => ?_⟩
  · let v := (s.afterWrite a.toNat w).rejectSwath win.slot .lateWrite win.chan.num
    have own : Quiet (s.afterWrite a.toNat w) v := State.rejectSwath_quiet (.refl _) ..
    have counted : v.count .lateWrites 1 = { v with counters := { s.counters with lateWrites := s.counters.lateWrites + 1 } } := by
      have e : v.counters = s.counters := own.countersStand
      rw [State.count_of_le (i := .lateWrites) (by rw [e]; exact room), e]
      rfl
    have after := settle_quiet settleFuel (.refl (v.count .lateWrites 1)) (by rw [counted]; exact own.waiting.trans idle.waiting)
      (by rw [counted]; exact own.stalled.trans idle.stalled)
    have entry : (s.afterWrite a.toNat w).retireEntry win.slot .rejected (some .lateWrite) ∈ v.parser.retired :=
      State.mem_retired_retire _ _ _ _ _ list
    refine ⟨settle settleFuel (v.count .lateWrites 1), ?_, ?_, ?_⟩
    · rw [State.exec_planeWrite up h, State.planeBeatWrite_waiting (s := s.afterWrite a.toNat w) writes waits]
    · rw [after.countersStand, counted]
    · refine after.retiredStand.subset ?_
      rw [counted]
      exact entry
  · rw [State.exec_planeWrite up h, State.planeBeatWrite_printing (s := s.afterWrite a.toNat w) writes prints,
      State.lateWriteFiring_eq (s := s.afterWrite a.toNat w) room]
    exact congrArg Host.Outcome.next (settle_none _ ag)

end

/-! O4, O5, O6: power-on reset, requests and the link, link loss. -/
namespace Sys2Proof.Machine

/-! ### What the writing of a sensor line changes (R91, R130, R154) -/

/-- Two states that differ in sensor lines alone. -/
structure State.LineFrame (s t : State) : Prop where
  rest : t = { s with ink := t.ink, svc := t.svc, media := t.media }
  ink : ∀ c, (t.ink.get c).unlined = (s.ink.get c).unlined
  svc : t.svc.unlined = s.svc.unlined
  media : t.media.unlined = s.media.unlined

theorem State.LineFrame.refl (s : State) : s.LineFrame s := ⟨rfl, fun _ => rfl, rfl, rfl⟩

theorem State.LineFrame.trans {s t u : State} (h : s.LineFrame t) (g : t.LineFrame u) : s.LineFrame u where
  rest := g.rest.trans (by rw [h.rest])
  ink c := (g.ink c).trans (h.ink c)
  svc := g.svc.trans h.svc
  media := g.media.trans h.media

theorem State.lineFrame_modInk (s : State) (c : Chan) {f : InkChan → InkChan} (h : (f (s.ink.get c)).unlined = (s.ink.get c).unlined) :
    s.LineFrame (s.modInk c f) := by
  refine ⟨rfl, fun d => ?_, rfl, rfl⟩
  rw [State.ink_modInk, PerChan.get_set]
  split
  next e => rw [e]; exact h
  next => rfl

theorem State.lineFrame_setLine (s : State) (i : LineId) (l : Line) : s.LineFrame (s.setLine i l) := by
  cases i with
  | lowFloat c => exact s.lineFrame_modInk c (f := fun k => { k with lowFloat := l }) rfl
  | fullFloat c => exact s.lineFrame_modInk c (f := fun k => { k with fullFloat := l }) rfl
  | presence c => exact s.lineFrame_modInk c (f := fun k => { k with presence := l }) rfl
  | capped | openLine | wiperHome | carriage | feedPath | platen | cutterHome => exact ⟨rfl, fun _ => rfl, rfl, rfl⟩
  | rollPresent r | rollEnd r => cases r <;> exact ⟨rfl, fun _ => rfl, rfl, rfl⟩

/-- A line that is not the one written is as it was. -/
theorem State.line_setLine_ne (s : State) {i j : LineId} (l : Line) (h : j ≠ i) : (s.setLine i l).line j = s.line j := by
  have chan {c d : Chan} {f : InkChan → InkChan} {g : InkChan → Line} (e : g (f (s.ink.get c)) = g (s.ink.get c)) :
      g ((s.modInk c f).ink.get d) = g (s.ink.get d) := by
    rw [State.ink_modInk, PerChan.get_set]
    split
    next k => rw [k]; exact e
    next => rfl
  have other {c d : Chan} {f : InkChan → InkChan} (e : d ≠ c) : (s.modInk c f).ink.get d = s.ink.get d := by
    rw [State.ink_modInk, PerChan.get_set_ne _ _ e]
  cases i with
  | lowFloat c =>
    cases j with
    | lowFloat d => exact congrArg InkChan.lowFloat (other fun e => h (e ▸ rfl))
    | fullFloat d => exact chan (g := InkChan.fullFloat) rfl
    | presence d => exact chan (g := InkChan.presence) rfl
    | _ => rfl
  | fullFloat c =>
    cases j with
    | lowFloat d => exact chan (g := InkChan.lowFloat) rfl
    | fullFloat d => exact congrArg InkChan.fullFloat (other fun e => h (e ▸ rfl))
    | presence d => exact chan (g := InkChan.presence) rfl
    | _ => rfl
  | presence c =>
    cases j with
    | lowFloat d => exact chan (g := InkChan.lowFloat) rfl
    | fullFloat d => exact chan (g := InkChan.fullFloat) rfl
    | presence d => exact congrArg InkChan.presence (other fun e => h (e ▸ rfl))
    | _ => rfl
  | capped | openLine | wiperHome | carriage | feedPath | platen | cutterHome => cases j <;> first | rfl | exact absurd rfl h
  | rollPresent r =>
    cases j with
    | rollPresent q => cases r <;> cases q <;> first | rfl | exact absurd rfl h
    | rollEnd q => cases r <;> cases q <;> rfl
    | _ => cases r <;> rfl
  | rollEnd r =>
    cases j with
    | rollPresent q => cases r <;> cases q <;> rfl
    | rollEnd q => cases r <;> cases q <;> first | rfl | exact absurd rfl h
    | _ => cases r <;> rfl

theorem State.line_setLine (s : State) (i j : LineId) (l : Line) : (s.setLine i l).line j = if j = i then l else s.line j := by
  split
  next h => rw [h, State.line_setLine_self]
  next h => exact s.line_setLine_ne l h

/-! ### Power-on reset (R18, log 4) -/

/-- Lines taken over one after another. -/
theorem lineFrame_keepPins (old : State) (l : List LineId) (t : State) : t.LineFrame (l.foldl (keepPin old) t) := by
  induction l generalizing t with
  | nil => exact .refl t
  | cons i l ih => exact (t.lineFrame_setLine i _).trans (ih _)

theorem line_keepPins (old : State) (l : List LineId) (t : State) (j : LineId) :
    (l.foldl (keepPin old) t).line j = if j ∈ l then (old.line j).repower else t.line j := by
  induction l generalizing t with
  | nil => rfl
  | cons i l ih =>
    rw [List.foldl_cons, ih, keepPin, State.line_setLine]
    by_cases h : j ∈ l
    · rw [if_pos h, if_pos (List.mem_cons_of_mem _ h)]
    · rw [if_neg h]
      by_cases e : j = i
      · rw [if_pos e, if_pos (List.mem_cons.2 (.inl e)), e]
      · rw [if_neg e, if_neg fun g => (List.mem_cons.1 g).elim e h]

theorem LineId.mem_all (i : LineId) : i ∈ LineId.all := by
  cases i with
  | lowFloat c | fullFloat c | presence c => cases c <;> decide
  | rollPresent r | rollEnd r => cases r <;> decide
  | _ => decide

/-- The part after a reset: every block at its power-on values, the sensor pins as they are. -/
theorem State.lineFrame_repower (s : State) (v : BitVec 4) : State.LineFrame { State.powerOn v with pending := s.pending } (s.repower v) :=
  lineFrame_keepPins s _ _

theorem State.line_repower (s : State) (v : BitVec 4) (i : LineId) : (s.repower v).line i = (s.line i).repower := by
  rw [State.repower, line_keepPins, if_pos i.mem_all]

end Sys2Proof.Machine

section
open Sys2Proof Sys2Proof.Machine

/-- Settles O4: a reset is the power-on state with the pins kept. -/
theorem powerOnResetValues : Obligations.PowerOnResetValues := by
  intro v s
  obtain ⟨rest, ink, svc, media⟩ := s.lineFrame_repower v
  refine ⟨s.repower v, rfl, fun i => s.line_repower v i, ?_⟩
  rw [svc, media]
  refine ⟨(congrArg State.pending rest :), congrArg State.agenda rest, congrArg State.out rest, congrArg State.time rest, congrArg State.link rest,
    congrArg State.counters rest, fun i => ?_, congrArg State.parser rest, congrArg State.windows rest, congrArg State.nextWid rest,
    congrArg State.flow rest, fun c => (ink c).trans (congrArg InkChan.unlined (PerChan.get_of _ c)), fun c => ?_, rfl, rfl,
    congrArg State.prof rest, congrArg State.mail rest, congrArg State.events rest⟩
  · rw [State.slot, show (s.repower v).slots = _ from congrArg State.slots rest]
    exact get_replicate _ i
  · rw [show (s.repower v).health = _ from congrArg State.health rest]
    exact PerChan.get_of _ c

end

/-! O5: requests are forwarded, and a request ends link loss. -/
namespace Sys2Proof.Machine

/-- Every reaction but the taking of a waiting read is quiet, whatever waits. -/
theorem State.react_quiet_of_ne (s : State) {r : Reaction} (h : r ≠ .drain) : Quiet s (s.react r) := by
  have q := Quiet.refl s
  cases r with
  | drain => exact absurd rfl h
  | directives => exact State.runDirectives_quiet _ q
  | evalFront => exact State.evalFront_quiet q
  | inkReport cs f => exact State.inkReport_quiet q cs f
  | quiet => exact State.quietTest_quiet q
  | refill => exact State.refillTests_quiet q
  | idle => exact State.idleTest_quiet q
  | serviceStep => exact State.serviceStep_quiet q
  | walk => exact State.walk_quiet q
  | boundary => exact State.boundaryWalk_quiet q
  | sheets => exact State.sheetsTest_quiet q
  | sheetStart => exact State.sheetStartTest_quiet q
  | mediaOps => exact State.mediaTest_quiet q
  | starve => exact State.starveTest_quiet q
  | uncap => exact State.uncapTest_quiet q
  | heldRead => exact State.heldReadTest_quiet q
  | linkCheck => exact State.linkTest_quiet q

/-! ### The silence count of a link that is UP stays at 0 through the reactions (R13, R15) -/

/-- A request has just arrived: the link is UP and the silence count stands at 0. -/
def State.Fresh (s : State) : Prop := s.link.state = .up ∧ s.link.silence = 0

section
variable {s t : State} (h : s.Fresh)
include h

theorem State.Fresh.quiet (q : Quiet s t) : t.Fresh :=
  ⟨(q.linkUp h.1 (by rw [h.2]; exact Nat.ne_of_beq_eq_false rfl)).1, q.silence.trans h.2⟩

theorem State.Fresh.frame (e : t.link = s.link) : t.Fresh := by
  rw [State.Fresh, e]
  exact h

theorem State.Fresh.count (i : CounterId) (n : Nat) : (s.count i n).Fresh := h.frame (State.link_count s i n)

theorem State.Fresh.arrive : s.arrive.Fresh := by
  rw [State.arrive_up h.1]
  exact ⟨h.1, rfl⟩

theorem State.Fresh.fetchOrderFault (win : Window) (o : Nat) : (s.fetchOrderFault win o).Fresh := by
  unfold State.fetchOrderFault
  extract_lets i t
  have ht : t.Fresh := h.count .fetchOrder 1
  split
  · exact ht
  · exact ht.frame rfl

theorem State.Fresh.countedBeat (win : Window) (o : Nat) (codes : List Nat) : (s.countedBeat win o codes).2.Fresh := by
  unfold State.countedBeat
  extract_lets i k c p
  split
  split
  rename_i moved unplaced _ _ kept cut _
  extract_lets a b d e
  have ha : a.Fresh := by
    change (if _ then _ else _ : State).Fresh
    split
    · exact h
    · exact h.count ..
  have hb : b.Fresh := by
    change (if _ then _ else _ : State).Fresh
    split
    · exact ha
    · exact ha.count ..
  have hd : d.Fresh := hb.quiet ((State.postBudget_quiet (Quiet.refl b) ..).modSlot fun _ => Slot.Same.mk rfl rfl rfl)
  have he : e.Fresh := hd.frame rfl
  change (if _ then _ else _ : State).Fresh
  split
  · exact he.quiet (State.fetchCompletes_quiet (Quiet.refl e) _)
  · exact he

theorem State.Fresh.firingBeat (win : Window) (o : Nat) (mem : List Byte) : (s.firingBeat win o mem).2.Fresh := by
  unfold State.firingBeat
  extract_lets codes
  split
  · exact h.fetchOrderFault ..
  · split
    · exact h.countedBeat ..
    · exact h

theorem State.Fresh.planeAnswer (a wid : Nat) (mem : List Byte) : (s.planeAnswer a wid mem).2.Fresh := by
  unfold State.planeAnswer
  split
  · exact h.count ..
  · extract_lets k o
    split
    · exact h.firingBeat ..
    · split
      · exact State.Fresh.firingBeat (h.quiet (State.startFiring_quiet (Quiet.refl s) _)) ..
      · exact h.count ..

theorem State.Fresh.answer (cls : ReqClass) (a : Nat) (d : List Byte) : (s.answer cls a d).Fresh := h.quiet (Quiet.refl s).answer

theorem State.Fresh.considerFetch (k : FetchKind) : (s.considerFetch k).Fresh := by
  unfold State.considerFetch
  split
  · split
    · exact h
    · exact h.quiet (State.answerGoWord_quiet (Quiet.refl s) ..)
  · exact h.answer ..
  · exact (h.planeAnswer ..).answer ..
  · exact h.quiet (State.answerSpit_quiet (Quiet.refl s) _)
  · exact State.Fresh.answer (s := { s with events := (s.events.take s.time.ms).2 }) h .fetch (s.spanBase + 0x140) _
  · exact State.Fresh.answer (s := { s with parser := { s.parser with retired := s.parser.retired.tail, retireOverflow := 0 } }) h .fetch (s.spanBase + 0x180) _
  · exact h.answer ..

theorem State.Fresh.acceptFetch (r : FetchReq) : (s.acceptFetch r).Fresh := by
  unfold State.acceptFetch
  extract_lets t
  have ht : t.Fresh := h
  have queued (bs : List FetchBeat) : (t.queueFetch bs).Fresh := ht
  split
  · exact ht
  · split
    · split
      · exact ht.considerFetch _
      · exact ((queued _).considerFetch _).quiet (Quiet.refl _).wake
    · exact queued _

theorem State.Fresh.drain : s.drain.Fresh := by
  unfold State.drain
  split
  next b bs _ _ => exact (State.Fresh.considerFetch (s := { s with link := { s.link with waiting := bs } }) h b.kind).quiet (Quiet.refl _).wake
  next r rs _ _ =>
    split
    · rw [State.acceptStalled, h.1]
      exact ((State.Fresh.arrive (s := { s with link := { s.link with stalled := rs } }) h).acceptFetch _).quiet (Quiet.refl _).wake
    · exact h
  next => exact h

theorem State.Fresh.react (r : Reaction) : (s.react r).Fresh := by
  by_cases d : r = .drain
  · rw [d]
    exact h.drain
  · exact h.quiet (s.react_quiet_of_ne d)

end

theorem State.Fresh.settle {s : State} (n : Nat) (h : s.Fresh) : (Machine.settle n s).Fresh := by
  induction n generalizing s with
  | zero => exact h
  | succ n ih =>
    unfold Machine.settle
    split
    next => exact h
    next r rs _ => exact ih (State.Fresh.react (s := { s with agenda := rs }) h r)

/-- A request that arrives leaves the link UP and the silence count at 0, whatever follows from its arrival. -/
theorem State.fresh_arrive (s : State) : s.arrive.Fresh := by
  unfold State.arrive
  split
  next h => exact ⟨h, rfl⟩
  next => exact State.Fresh.quiet (s := { s with link := { s.link with silence := 0, state := .up, lostMs := 0 } }) ⟨rfl, rfl⟩ (Quiet.refl _).post.stirWalk

theorem State.fresh_arrived (s : State) : s.arrived.Fresh := by
  unfold State.arrived
  split
  · exact s.fresh_arrive
  · exact s.fresh_arrive.settle _

/-! ### Reads that only return memory (R1) -/

/-- Only reads of a malformed request wait, none is stalled, and the records that `z` holds stand. -/
structure RawReads (z s : State) : Prop where
  recs : z.events.recs <+: s.events.recs
  waiting : ∀ b ∈ s.link.waiting, ∃ a m, b.kind = .raw a m
  stalled : s.link.stalled = []

theorem RawReads.quiet {z s t : State} (h : RawReads z s) (q : Quiet s t) : RawReads z t where
  recs := h.recs.trans q.recsStand
  waiting b hb := h.waiting b (q.waiting ▸ hb)
  stalled := q.stalled.trans h.stalled

theorem RawReads.drain {z s : State} (h : RawReads z s) : RawReads z s.drain := by
  unfold State.drain
  split
  next b bs held waiting =>
    obtain ⟨a, m, e⟩ := h.waiting b (by rw [waiting]; exact List.mem_cons_self)
    refine RawReads.quiet ?_ (Quiet.refl _).wake
    rw [e]
    exact RawReads.quiet (s := { s with link := { s.link with waiting := bs } })
      ⟨h.recs, fun c hc => h.waiting c (by rw [waiting]; exact List.mem_cons_of_mem _ hc), h.stalled⟩ (Quiet.refl _).answer
  next =>
    rename_i stalled _
    exact absurd (h.stalled.symm.trans stalled) nofun
  next => exact h

theorem RawReads.react {z s : State} (h : RawReads z s) (r : Reaction) : RawReads z (s.react r) := by
  by_cases d : r = .drain
  · rw [d]
    exact h.drain
  · exact h.quiet (s.react_quiet_of_ne d)

theorem RawReads.settle {z s : State} (n : Nat) (h : RawReads z s) : RawReads z (Machine.settle n s) := by
  induction n generalizing s with
  | zero => exact h
  | succ n ih =>
    unfold Machine.settle
    split
    next => exact h
    next r rs _ => exact ih (RawReads.react (s := { s with agenda := rs }) ⟨h.recs, h.waiting, h.stalled⟩ r)

/-- A FETCH read of a malformed request is answered, or waits as one that only returns memory. -/
theorem RawReads.acceptFetch {z s : State} (h : RawReads z s) (f : Forward) (a : Nat) (mem : List Byte) :
    RawReads z (s.acceptFetch { forwarded := f, beats := [.raw a mem] }) := by
  unfold State.acceptFetch
  extract_lets t
  have ht : RawReads z t := ⟨h.recs, h.waiting, h.stalled⟩
  dsimp only
  split
  · exact ht.quiet (Quiet.refl t).answer
  · refine ⟨ht.recs, fun b hb => ?_, ht.stalled⟩
    rcases List.mem_append.1 hb with hb | hb
    · exact ht.waiting b hb
    · obtain rfl := List.mem_singleton.1 hb
      exact ⟨a, mem, rfl⟩

/-! ### Requests in UP (R1, R2) -/

/-- The state after the arrival, in UP, of a request that is forwarded. -/
def State.passed (s : State) (f : Forward) : State :=
  { s with out := { answers := [], forwarded := [f] }, link := { s.link with silence := 0 } }

theorem State.forward_arrived_up {s : State} (u : s.link.state = .up) (f : Forward) : s.cleared.arrived.forward f = s.passed f := by
  rw [State.arrived_up (show s.cleared.link.state = .up from u)]; rfl

/-- A FETCH read of one beat that finds none in hand is taken up at once, whatever is forwarded for it. -/
theorem State.fetchRead_up {s : State} (u : s.link.state = .up) (r : NoReads s) (f : Forward) (k : FetchKind) :
    (s.cleared.fetchRead fun _ => { forwarded := f, beats := [k] }) = (s.passed f).considerFetch k := by
  have up := State.arrived_up (show s.cleared.link.state = .up from u)
  rw [State.fetchRead_idle r.cleared, State.acceptFetch_one (by rw [up]; exact r.held) (by rw [up]; exact r.waiting), State.forward_arrived_up u]

theorem State.answer_passed {s : State} {cls : ReqClass} (r : cls = .fetch → NoReads s) (f : Forward) (a : Nat) (d : List Byte) :
    (s.passed f).answer cls a d =
      { s with out := { answers := [{ cls := cls, addr := a, data := d }], forwarded := [f] }, link := { s.link with silence := 0 } } := by
  by_cases e : cls = .fetch
  · subst e
    obtain ⟨-, gathered, waiting, -⟩ := r rfl
    rw [State.answer_last (by rw [State.moreBeats, show (s.passed f).link.waiting = [] from waiting])]
    simp [State.passed, gathered]
  · rw [State.answer_other e]; rfl

/-! ### Write requests beat by beat (R2, R6) -/

theorem State.learnWrite_plain {s : State} {a : Nat} (h : s.classify a = .plain) (w : WriteBeat) : s.learnWrite a w = s := by
  generalize hf : State.learnWrite = f
  delta State.learnWrite at hf
  subst hf
  dsimp only
  rw [h]

theorem State.learnWrite_body {s : State} {a k : Nat} (h : s.classify a = .body k) (w : WriteBeat) :
    s.learnWrite a w = s.bodyWrite (64 * k) w := by
  generalize hf : State.learnWrite = f
  delta State.learnWrite at hf
  subst hf
  dsimp only
  rw [h]

/-- A later beat is an event of its own. -/
theorem runEvents_laterWrites_cons (s : State) (a : Nat) (w : WriteBeat) (ws : List WriteBeat) :
    runEvents s (laterWrites a (w :: ws)) = runEvents (settle settleFuel (s.learnWrite a w)) (laterWrites (a + 64) ws) := rfl

/-- Later beats that are plain leave a settled state alone. -/
theorem runEvents_laterWrites_plain {s : State} (g : s.agenda = []) (ws : List WriteBeat) (a : Nat)
    (h : ∀ k < ws.length, s.classify (a + 64 * k) = .plain) : runEvents s (laterWrites a ws) = s := by
  induction ws generalizing a with
  | nil => rfl
  | cons w ws ih =>
    have first : s.learnWrite a w = s := State.learnWrite_plain (h 0 (Nat.succ_pos _)) w
    rw [runEvents_laterWrites_cons, first, settle_none _ g]
    refine ih (a + 64) fun k hk => ?_
    rw [show a + 64 + 64 * k = a + 64 * (k + 1) from by omega]
    exact h (k + 1) (Nat.succ_lt_succ hk)

theorem State.exec_plainWrite {s : State} (u : s.link.state = .up) (a : Addr) (w : WriteBeat) (ws : List WriteBeat) :
    exec (.plainWrite a (w :: ws)) s =
      .next (runEvents (settle settleFuel ((s.passed (.write a.toNat (w :: ws))).learnWrite a.toNat w)) (laterWrites (a.toNat + 64) ws)) := by
  rw [← State.forward_arrived_up u]
  rfl

/-- The beats of the mailbox body. -/
theorem State.classify_body {s : State} {k : Nat} (h : k < 3) : s.classify (s.spanBase + 64 * k) = .body k := by
  rw [State.classify_span ⟨Nat.le_add_right _ _, by omega⟩, Nat.add_sub_cancel_left]
  match k, h with
  | 0, _ | 1, _ | 2, _ => rfl

/-! ### A request that finds the link LOST (R15) -/

theorem State.posted_room {s : State} (h : s.events.recs.length < 32) (k : EventKind) (a b c : Nat) : s.record k a b c ∈ (s.posted k a b c).recs := by
  rw [State.posted, EventQueue.enter, if_pos h]
  exact List.mem_append_right _ List.mem_cons_self

/-- LINK_RESTORED is posted as the link leaves LOST. -/
theorem State.mem_recs_arrive {s : State} (l : s.link.state = .lost) (h : s.events.recs.length < 32) :
    s.record .linkRestored 0xFF s.link.lostMs 0 ∈ s.arrive.events.recs := by
  rw [State.arrive, l]
  dsimp only [State.leaveLost]
  rw [State.stirWalk, State.events_wake, State.post_eq_posted]
  exact State.posted_room h _ _ _ _

theorem State.pause_arrive (s : State) : s.arrive.flow.pause = s.flow.pause := by
  unfold State.arrive
  split
  · rfl
  · exact (congrArg Flow.pause (State.flow_wake _ _)).trans rfl

/-- A request changes no pause flag as it arrives. -/
theorem State.pause_arrived (s : State) : s.arrived.flow.pause = s.flow.pause := by
  unfold State.arrived
  split
  · exact s.pause_arrive
  · obtain ⟨up, still⟩ := s.fresh_arrive
    exact ((settle_keeps settleFuel (.refl s.arrive)).linkUp up (by rw [still]; exact Nat.ne_of_beq_eq_false rfl)).2.2.trans s.pause_arrive

theorem State.quiet_arrived_lost {s : State} (l : s.link.state = .lost) (hw : s.link.waiting = []) (hs : s.link.stalled = []) :
    Quiet s.arrive s.arrived := by
  rw [State.arrived_lost l]
  refine settle_quiet _ (.refl _) ?_ ?_
  · rw [State.link_arrive_lost l]; exact hw
  · rw [State.link_arrive_lost l]; exact hs

/-- What a malformed request does after its arrival: it is forwarded, and a read is answered or waits. -/
theorem State.malformed_cases {P : State → Prop} (s : State) (dir : Direction) (a n : Nat) (cls : ReqClass) (data : List WriteBeat) (mem : List Byte)
    (r : dir = .read → cls = .fetch → NoReads s) (write : ∀ f, P (s.arrived.forward f)) (other : ∀ f, P ((s.arrived.forward f).answer cls a mem))
    (fetch : ∀ f, P (s.arrived.acceptFetch { forwarded := f, beats := [.raw a mem] })) : P (s.malformed dir a n cls data mem) := by
  unfold State.malformed
  cases dir with
  | write => exact write _
  | read =>
    cases cls with
    | fetch =>
      change P (s.fetchRead fun _ => { forwarded := .malformed .read a n .fetch data, beats := [.raw a mem] })
      rw [State.fetchRead_idle (r rfl rfl)]
      exact fetch _
    | _ => exact other _

end Sys2Proof.Machine

section
open Sys2Proof Sys2Proof.Machine

/-- Settles O5: what a request forwards and teaches in UP; in LOST, the invariants of the reactions to its arrival. -/
theorem requestsPassAndEndLinkLoss : Obligations.RequestsPassAndEndLinkLoss := by
  refine ⟨fun s a n cls data mem r => ?_, fun s a n cls data mem r idle => ?_, fun s a ws r some plain => ?_, fun s a w0 w1 w2 r at_ => ?_,
    fun s dir a n cls data mem lost idle => ?_⟩
  · exact congrArg Host.Outcome.next (State.event_eq (State.forward_arrived_up r.up _) r.agenda)
  · refine congrArg Host.Outcome.next (State.event_eq ?_ r.agenda)
    rw [← State.answer_passed idle]
    by_cases f : cls = .fetch
    · subst f
      exact State.fetchRead_up r.up (idle rfl) _ _
    · rw [← State.forward_arrived_up r.up]
      cases cls <;> first | exact absurd rfl f | rfl
  · match ws, some, plain with
    | w :: ws, _, plain =>
      let f := s.passed (.write a.toNat (w :: ws))
      have plain0 := plain 0 (Nat.succ_pos _)
      rw [Nat.mul_zero, Nat.add_zero] at plain0
      have first : f.learnWrite a.toNat w = f := State.learnWrite_plain (s := f) plain0 w
      rw [State.exec_plainWrite r.up, first, settle_none (s := f) _ r.agenda]
      refine congrArg Host.Outcome.next (runEvents_laterWrites_plain (s := f) r.agenda ws _ fun k hk => ?_)
      rw [show a.toNat + 64 + 64 * k = a.toNat + 64 * (k + 1) from by omega]
      exact plain (k + 1) (Nat.succ_lt_succ hk)
  · have learns (t : State) (ht : t.spanBase = s.spanBase) (g : t.agenda = []) (k : Nat) (hk : k < 3) (w : WriteBeat) :
        settle settleFuel (t.learnWrite (a.toNat + 64 * k) w) = t.bodyWrite (64 * k) w := by
      rw [State.learnWrite_body (by rw [at_, ← ht]; exact State.classify_body hk) w]
      exact settle_none _ g
    let f := s.passed (.write a.toNat [w0, w1, w2])
    have first := learns f rfl r.agenda 0 (by omega) w0
    have second := learns (f.bodyWrite 0 w0) rfl r.agenda 1 (by omega) w1
    have third := learns ((f.bodyWrite 0 w0).bodyWrite 64 w1) rfl r.agenda 2 (by omega) w2
    rw [Nat.mul_zero, Nat.add_zero] at first
    rw [Nat.mul_one] at second
    rw [show a.toNat + 64 * 2 = a.toNat + 64 + 64 from by omega] at third
    rw [State.exec_plainWrite r.up, first, runEvents_laterWrites_cons, second, runEvents_laterWrites_cons, third]
    rfl
  · let u := s.cleared.malformed dir a.toNat n cls data mem
    have fresh : u.Fresh := State.malformed_cases s.cleared dir a.toNat n cls data mem (fun d c => (idle d c).cleared)
      (fun f => State.fresh_arrived _) (fun f => State.Fresh.answer (State.Fresh.frame (State.fresh_arrived _) rfl) ..)
      fun f => (State.fresh_arrived _).acceptFetch _
    have keeps : Keeps s.cleared.arrived u := State.malformed_cases s.cleared dir a.toNat n cls data mem (fun d c => (idle d c).cleared)
      (fun f => State.forward_keeps (.refl _) f) (fun f => State.answer_keeps (State.forward_keeps (.refl _) f) ..)
      fun f => State.acceptFetch_keeps (.refl _) _
    have nonzero {t : State} (h : t.Fresh) : t.link.silence ≠ silenceLimit := by rw [h.2]; exact Nat.ne_of_beq_eq_false rfl
    have arrived := s.cleared.fresh_arrived
    have pause : u.flow.pause = s.flow.pause := (keeps.linkUp arrived.1 (nonzero arrived)).2.2.trans s.cleared.pause_arrived
    have last := fresh.settle settleFuel
    refine ⟨settle settleFuel u, rfl, last.1, last.2, ?_, fun hw hs room => ?_⟩
    · exact ((settle_keeps settleFuel (.refl u)).linkUp fresh.1 (nonzero fresh)).2.2.trans pause
    · have q := State.quiet_arrived_lost (s := s.cleared) lost hw hs
      have link := State.link_arrive_lost (s := s.cleared) lost
      have start : RawReads s.cleared.arrive s.cleared.arrived :=
        ⟨q.recsStand, fun b hb => by rw [q.waiting, link, show s.cleared.link.waiting = [] from hw] at hb; exact absurd hb List.not_mem_nil,
          q.stalled.trans (by rw [link]; exact hs)⟩
      have raw : RawReads s.cleared.arrive u := State.malformed_cases s.cleared dir a.toNat n cls data mem (fun d c => (idle d c).cleared)
        (fun f => ⟨start.recs, start.waiting, start.stalled⟩)
        (fun f => RawReads.quiet (s := s.cleared.arrived.forward f) ⟨start.recs, start.waiting, start.stalled⟩ (Quiet.refl _).answer)
        fun f => start.acceptFetch f _ mem
      have posted := (raw.settle settleFuel).recs.subset (State.mem_recs_arrive (s := s.cleared) lost room)
      exact posted

end

/-! The Service Sequencer's operations, each as what it leaves of a state up to the agenda (chapter 7). -/
namespace Sys2Proof.Machine

/-! ### Operations that only schedule beyond one record -/

section
variable {s t : State} (h : s.AgendaFrame t)
include h

theorem State.AgendaFrame.modSvc (f : Service → Service) : (s.modSvc f).AgendaFrame (t.modSvc f) := by
  obtain ⟨a, rfl⟩ := h
  exact ⟨a, rfl⟩

end

/-- A state with its station set. -/
def State.withStation (s : State) (st : Station) : State := s.modSvc fun v => { v with station := st }

theorem State.agendaFrame_setStation (s : State) (st : Station) : (s.withStation st).AgendaFrame (s.setStation st) := by
  unfold State.setStation
  split
  next h =>
    refine ⟨s.agenda, ?_⟩
    rw [State.withStation, ← h]
    rfl
  next => exact (State.agendaFrame_stir _).trans (State.agendaFrame_wake _ _)

/-- Every service reservation released. -/
def State.serviceReleased (s : State) : State :=
  { s with ink := PerChan.of fun c =>
      { s.ink.get c with reserved := (s.ink.get c).reserved - (s.ink.get c).servicePart, servicePart := 0 } }

theorem State.agendaFrame_releaseService (s : State) : s.serviceReleased.AgendaFrame s.releaseService := by
  unfold State.releaseService
  extract_lets vols
  split
  next h =>
    have e : s.serviceReleased.ink = s.ink := by
      refine PerChan.ext_get fun c => ?_
      have z : (s.ink.get c).servicePart = 0 := (PerChan.get_of _ c).symm.trans (volume_zero h c)
      rw [State.serviceReleased, PerChan.get_of, z, Nat.sub_zero, ← z]
    have same : s.serviceReleased = s := by
      change { s with ink := s.serviceReleased.ink } = s
      rw [e]
    rw [same]
    exact .refl s
  next => exact State.agendaFrame_inkChanged _ _

/-- The queue that a returning request goes back to: at its head as QUEUED, unless a link reset drops it. -/
def Service.returnedQueue (v : Service) : List ServiceReq :=
  ((v.queue.filter fun r => r.state == .running && !(v.stepEnd.dropFlow && r.flow)).map fun r => { r with state := .queued }) ++ dropRunning v.queue

/-- The running request returned to the queue with what it held released. -/
def State.requestBack (s : State) : State :=
  s.serviceReleased.modSvc fun v =>
    { v with queue := v.returnedQueue, steps := [], asking := false, callRunning := false, toSuck := [], spit := SpitWork.none, stepEnd := StepEnd.normal }

theorem State.agendaFrame_spitProgress (s : State) (r : ServiceReq) : s.AgendaFrame (s.spitProgress r) := by
  unfold State.spitProgress
  split
  · exact s.agendaFrame_wake _
  · exact .refl s

theorem State.agendaFrame_returnRunning (s : State) : s.requestBack.AgendaFrame s.returnRunning := by
  obtain ⟨a, e⟩ := s.agendaFrame_releaseService
  unfold State.returnRunning
  rw [e]
  extract_lets drop x ran back t
  have ht : s.requestBack.AgendaFrame t :=
    State.AgendaFrame.trans ⟨a, rfl⟩ ((State.agendaFrame_stirWalk _).trans (State.agendaFrame_wake _ [.uncap]))
  refine ht.trans ?_
  clear_value ran
  cases ran with
  | none => exact .refl t
  | some r =>
    dsimp only
    split
    · exact t.agendaFrame_wake _
    · exact t.agendaFrame_spitProgress _

/-- The cap step of R152 in flight, outside the queue. -/
def State.capsOutside (s : State) : State :=
  s.modSvc fun v => { v with motorMs := 0, stepEnd := { StepEnd.normal with outside := true }, station := .capping }

theorem State.agendaFrame_capOutside (s : State) : s.capsOutside.AgendaFrame s.capOutside := by
  obtain ⟨a, e⟩ := State.agendaFrame_setStation (s.modSvc fun v => { v with motorMs := 0, stepEnd := { StepEnd.normal with outside := true } }) .capping
  rw [State.capOutside, e]
  exact ⟨.serviceStep :: a, rfl⟩

/-- The cap step of R152 where it is due. -/
def State.capRested (s : State) : State := if s.svc.station = .uncapped ∧ s.svc.carriageLine.filt = .active then s.capsOutside else s

theorem State.agendaFrame_restCap (s : State) : s.capRested.AgendaFrame s.restCap := by
  unfold State.restCap State.capRested
  by_cases h : s.svc.station = .uncapped ∧ s.svc.carriageLine.filt = .active
  · rw [if_pos h, if_pos (by simpa [Line.isActive] using h)]
    exact s.agendaFrame_capOutside
  · rw [if_neg h, if_neg (by simpa [Line.isActive] using h)]
    exact .refl s

/-! ### Debits (R88, R90) -/

/-- A channel's record after a debit, its low flag evaluated. -/
def State.debitedChan (s : State) (service : Bool) (c : Chan) (used ended : Nat) : InkChan :=
  let k := debitChan (s.ink.get c) service used ended
  { k with low := decide (k.level ≤ (s.chanProf c).lowMark * pLPerUL) }

/-- Two states that differ in the ink of one channel and in what was posted. -/
theorem State.debitOne_frame (s : State) (service : Bool) (c : Chan) (used ended : Nat) :
    ∃ e, s.debitOne service c used ended = { s with ink := s.ink.set c (s.debitedChan service c used ended), events := e } := by
  have own : (s.modInk c fun k => debitChan k service used ended).ink.get c = debitChan (s.ink.get c) service used ended :=
    PerChan.get_set_self _ _ _
  have set_set (p : PerChan InkChan) (x y : InkChan) : (p.set c x).set c y = p.set c y := by cases c <;> rfl
  rw [State.debitOne, State.evalLow_eq, State.atLowMark, own, State.ink_modInk, set_set]
  exact ⟨_, rfl⟩

/-- A debit of channels one after another. -/
theorem State.debits_frame (service : Bool) (cs : ChanSet) (used ended : PerChan Nat) {l : List Chan} (nodup : l.Nodup) (s : State) :
    ∃ k e, l.foldl (fun s c => if cs.get c then s.debitOne service c (used.get c) (ended.get c) else s) s = { s with ink := k, events := e } ∧
      ∀ c, k.get c = if c ∈ l ∧ cs.get c = true then s.debitedChan service c (used.get c) (ended.get c) else s.ink.get c := by
  induction l generalizing s with
  | nil => exact ⟨s.ink, s.events, rfl, fun c => (if_neg fun h => List.not_mem_nil h.1).symm⟩
  | cons d l ih =>
    obtain ⟨fresh, nodup⟩ := List.nodup_cons.1 nodup
    rw [List.foldl_cons]
    by_cases hd : cs.get d = true
    · obtain ⟨e, he⟩ := s.debitOne_frame service d (used.get d) (ended.get d)
      obtain ⟨k, e', hk, get⟩ := ih nodup (s.debitOne service d (used.get d) (ended.get d))
      rw [if_pos hd, hk]
      refine ⟨k, e', by rw [he], fun c => ?_⟩
      rw [get, he]
      dsimp only
      by_cases hc : c = d
      · subst hc
        rw [if_neg fun g => fresh g.1, if_pos ⟨List.mem_cons_self, hd⟩, PerChan.get_set_self]
      · have same : State.debitedChan { s with ink := s.ink.set d (s.debitedChan service d (used.get d) (ended.get d)), events := e } service c
            (used.get c) (ended.get c) = s.debitedChan service c (used.get c) (ended.get c) := by
          unfold State.debitedChan
          dsimp only
          rw [PerChan.get_set_ne _ _ hc]
          rfl
        rw [same, PerChan.get_set_ne _ _ hc]
        simp only [List.mem_cons, hc, false_or]
    · obtain ⟨k, e, hk, get⟩ := ih nodup s
      rw [if_neg hd, hk]
      refine ⟨k, e, rfl, fun c => (get c).trans ?_⟩
      by_cases hc : c = d
      · subst hc
        rw [if_neg fun g => hd g.2, if_neg fun g => hd g.2]
      · simp only [List.mem_cons, hc, false_or]

/-- A debit whole: the ink of the channels of the set, and what was posted. -/
theorem State.debit_frame (s : State) (service : Bool) (cs : ChanSet) (used ended : PerChan Nat) :
    ∃ e a, s.debit service cs used ended = { s with
      ink := PerChan.of fun c => if cs.get c = true then s.debitedChan service c (used.get c) (ended.get c) else s.ink.get c, events := e, agenda := a } := by
  obtain ⟨k, e, hk, get⟩ := State.debits_frame service cs used ended (l := Chan.all) (by decide) s
  have ink : k = PerChan.of fun c => if cs.get c = true then s.debitedChan service c (used.get c) (ended.get c) else s.ink.get c :=
    PerChan.ext_get fun c => by rw [get, PerChan.get_of]; simp only [Chan.mem_all c, true_and]
  unfold State.debit
  extract_lets t
  have ht : t = { s with ink := k, events := e } := hk
  rw [ht, ← ink]
  split
  · exact ⟨e, s.agenda, rfl⟩
  · obtain ⟨a, f⟩ := State.agendaFrame_inkChanged { s with ink := k, events := e } cs
    exact ⟨e, a, f⟩

/-! ### The running request through an offer (R133) -/

/-- The running requests of a queue. -/
def runningOf (q : List ServiceReq) : List ServiceReq := q.filter fun r => r.state == .running

theorem runningOf_absorbOld (mid : Bool) (pos : Nat) (big : Level) (cs : ChanSet) (i : Nat) (q : List ServiceReq) :
    runningOf (absorbOld mid pos big cs i q) = runningOf q := by
  induction q generalizing i with
  | nil => rfl
  | cons r rs ih =>
    unfold absorbOld
    dsimp only
    have keep : runningOf (r :: absorbOld mid pos big cs (i + 1) rs) = runningOf (r :: rs) := by
      simp only [runningOf, List.filter_cons] at ih ⊢
      rw [ih]
    split
    next h =>
      have quiet : ¬ (r.state == .running) = true := by
        simp only [Bool.and_eq_true, decide_eq_true_eq] at h
        simpa using h.1.2
      have drop : runningOf (r :: rs) = runningOf rs := List.filter_cons_of_neg quiet
      split
      · rw [ih, drop]
      · rw [drop, ← ih (i + 1)]
        exact List.filter_cons_of_neg quiet
    next => exact keep

theorem runningOf_modify {q : List ServiceReq} {i : Nat} {f : ServiceReq → ServiceReq} (h : ∀ r, q[i]? = some r → r.state ≠ .running)
    (hf : ∀ r, (f r).state = r.state) : runningOf (q.modify i f) = runningOf q := by
  induction q generalizing i with
  | nil => cases i <;> rfl
  | cons r rs ih =>
    cases i with
    | zero =>
      have n : ¬ (r.state == .running) = true := by simpa using h r rfl
      have nf : ¬ ((f r).state == .running) = true := by rw [hf]; exact n
      have fresh : runningOf (r :: rs) = runningOf rs := List.filter_cons_of_neg n
      exact Eq.trans (List.filter_cons_of_neg nf) fresh.symm
    | succ i =>
      have e := ih (i := i) fun x hx => h x hx
      rw [List.modify_succ_cons]
      simp only [runningOf, List.filter_cons] at e ⊢
      rw [e]

theorem mergeTarget_queued {q : List ServiceReq} {level : Level} {i : Nat} (h : mergeTarget q level = some i) :
    ∀ r, q[i]? = some r → r.state = .queued := by
  intro r hr
  have g := List.find?_some h
  rw [hr] at g
  simp only [Bool.and_eq_true, beq_iff_eq] at g
  exact g.1.2

/-- An offer leaves the running request where it is. -/
theorem State.runningOf_offer (s : State) (level : Level) (cs : ChanSet) (flow : Bool) :
    runningOf (s.offer level cs flow).2.svc.queue = runningOf s.svc.queue := by
  unfold State.offer
  extract_lets mid q0 done
  have first : runningOf q0 = runningOf s.svc.queue := by
    change runningOf (match opposed level with | some o => _ | none => _) = _
    split
    next o _ =>
      rw [runningOf, runningOf, List.filter_filter]
      refine List.filter_congr fun r _ => ?_
      cases h : r.state <;> simp
    next => rfl
  have taken (res : OfferResult) (q : List ServiceReq) : (done res q).2.svc.queue = q := by
    obtain ⟨a, h⟩ := (s.modSvc fun v => { v with queue := q }).stirWalk_wake_frame (if level = .cap then [.uncap, .evalFront] else [.evalFront])
    exact congrArg (fun t => t.svc.queue) h
  rcases absorbNew mid level flow q0 cs with ⟨left, whole⟩
  cases whole
  case true => exact (congrArg runningOf (taken .absorbed q0)).trans first
  case false =>
    dsimp only
    rw [if_neg Bool.false_ne_true]
    split
    next i hi =>
      rw [taken, runningOf_absorbOld, runningOf_modify (f := fun r => { r with chans := r.chans.union left, flow := r.flow && flow }) (fun r hr => by rw [mergeTarget_queued hi r hr]; exact nofun) fun _ => rfl]
      exact first
    next =>
      split
      next =>
        rw [taken, runningOf_absorbOld, runningOf, List.filter_append]
        simpa [runningOf] using first
      next => exact first

end Sys2Proof.Machine

/-! A spit that ends and a station brought to rest, as what they leave of a state (R140, R148, R152, R153). -/
namespace Sys2Proof.Machine

/-! ### The wipe counter and the queue -/

/-- Every request of a queue that carries the flow flag is RUNNING. -/
def unflowed (q : List ServiceReq) : Prop := ∀ r ∈ q, r.flow = true → r.state = .running

theorem mem_absorbOld {mid : Bool} {pos : Nat} {big : Level} {cs : ChanSet} {i : Nat} {q : List ServiceReq} {r : ServiceReq}
    (h : r ∈ absorbOld mid pos big cs i q) : ∃ r' ∈ q, r'.flow = r.flow ∧ r'.state = r.state := by
  induction q generalizing i with
  | nil => exact absurd h List.not_mem_nil
  | cons x xs ih =>
    have later (g : r ∈ absorbOld mid pos big cs (i + 1) xs) : ∃ r' ∈ x :: xs, r'.flow = r.flow ∧ r'.state = r.state := by
      obtain ⟨r', m, e⟩ := ih g
      exact ⟨r', List.mem_cons_of_mem _ m, e⟩
    have here (y : ServiceReq) (flow : y.flow = x.flow) (st : y.state = x.state) (g : r ∈ y :: absorbOld mid pos big cs (i + 1) xs) :
        ∃ r' ∈ x :: xs, r'.flow = r.flow ∧ r'.state = r.state := by
      rcases List.mem_cons.1 g with rfl | g
      · exact ⟨x, List.mem_cons_self, flow.symm, st.symm⟩
      · exact later g
    unfold absorbOld at h
    dsimp only at h
    split at h
    · split at h
      · exact later h
      · exact here { x with chans := x.chans.minus cs } rfl rfl h
    · exact here x rfl rfl h

/-- An offer without the flow flag brings no request with it. -/
theorem State.unflowed_offer {s : State} (h : unflowed s.svc.queue) (level : Level) (cs : ChanSet) :
    unflowed (s.offer level cs false).2.svc.queue := by
  unfold State.offer
  extract_lets mid q0 done
  have first : unflowed q0 := by
    change unflowed (match opposed level with | some o => _ | none => _)
    split
    · exact fun r m => h r (List.mem_filter.1 m).1
    · exact h
  have taken (res : OfferResult) (q : List ServiceReq) : (done res q).2.svc.queue = q := by
    obtain ⟨a, h⟩ := (s.modSvc fun v => { v with queue := q }).stirWalk_wake_frame (if level = .cap then [.uncap, .evalFront] else [.evalFront])
    exact congrArg (fun t => t.svc.queue) h
  have absorbed {pos : Nat} {ds : ChanSet} {q : List ServiceReq} (g : unflowed q) : unflowed (absorbOld mid pos level ds 0 q) := by
    intro r m f
    obtain ⟨r', m', e, e'⟩ := mem_absorbOld m
    rw [← e']
    exact g r' m' (e.trans f)
  rcases absorbNew mid level false q0 cs with ⟨left, whole⟩
  cases whole
  case true => exact (taken .absorbed q0).symm ▸ first
  case false =>
    dsimp only
    rw [if_neg Bool.false_ne_true]
    split
    next i _ =>
      rw [taken]
      refine absorbed fun r m f => ?_
      obtain ⟨j, hj⟩ := List.mem_iff_getElem?.1 m
      rw [List.getElem?_modify] at hj
      obtain ⟨x, hx, e⟩ := Option.map_eq_some_iff.1 hj
      split at e
      · subst e
        simp at f
      · subst e
        exact first x (List.mem_of_getElem? hx) f
    next =>
      split
      · rw [taken]
        refine absorbed fun r m f => ?_
        rcases List.mem_append.1 m with m | m
        · exact first r m f
        · rw [List.mem_singleton] at m
          subst m
          simp at f
      · exact first

/-- Two states that differ in the queue, the wipe counter, the event queue and the agenda, the running request kept. -/
structure State.WipeFrame (s t : State) : Prop where
  frame : ∃ q w e a, t = { s with svc := { s.svc with queue := q, wipeVolume := w }, events := e, agenda := a }
  running : runningOf t.svc.queue = runningOf s.svc.queue
  unflowed : unflowed s.svc.queue → unflowed t.svc.queue

theorem State.WipeFrame.refl (s : State) : s.WipeFrame s := ⟨⟨_, _, _, _, rfl⟩, rfl, id⟩

theorem State.WipeFrame.trans {s t u : State} (h : s.WipeFrame t) (g : t.WipeFrame u) : s.WipeFrame u := by
  obtain ⟨⟨q, w, e, a, rfl⟩, run, flow⟩ := h
  obtain ⟨⟨q', w', e', a', rfl⟩, run', flow'⟩ := g
  exact ⟨⟨q', w', e', a', rfl⟩, run'.trans run, fun x => flow' (flow x)⟩

theorem State.AgendaFrame.wipe {s t : State} (h : s.AgendaFrame t) : s.WipeFrame t := by
  obtain ⟨a, rfl⟩ := h
  exact ⟨⟨_, _, _, a, rfl⟩, rfl, id⟩

theorem State.wipeFrame_events (s : State) (e : EventQueue) (a : List Reaction) : s.WipeFrame { s with events := e, agenda := a } :=
  ⟨⟨_, _, _, _, rfl⟩, rfl, id⟩

theorem State.wipeFrame_offer (s : State) (level : Level) (cs : ChanSet) : s.WipeFrame (s.offer level cs false).2 := by
  refine ⟨?_, s.runningOf_offer .., fun h => State.unflowed_offer h level cs⟩
  obtain ⟨q, a, e, h⟩ := s.offer_frame level cs false
  exact ⟨q, _, e, a, h⟩

theorem State.wipeFrame_wipeVolume (s : State) (w : Nat) : s.WipeFrame (s.modSvc fun v => { v with wipeVolume := w }) := ⟨⟨_, _, _, _, rfl⟩, rfl, id⟩

theorem State.wipeFrame_wipeTest (s : State) : s.WipeFrame s.wipeTest := by
  unfold State.wipeTest
  split
  · have offered := s.wipeFrame_offer .wipe ChanSet.empty
    split
    next e => rw [e] at offered; exact offered
    next e => rw [e] at offered; exact offered.trans (State.wipeFrame_wipeVolume _ 0)
  · exact .refl s

theorem State.wipeFrame_wipeAdd (s : State) (v : Nat) : s.WipeFrame (s.wipeAdd v) := (s.wipeFrame_wipeVolume _).trans (State.wipeFrame_wipeTest _)

/-! ### A spit ends (R140) -/

/-- The ink after the debit of a spit step. -/
def State.spitInk (s : State) : PerChan InkChan := PerChan.of fun c =>
  if s.runningChans.get c = true then s.debitedChan true c (s.spitUsed.get c) (s.ink.get c).servicePart else s.ink.get c

theorem State.wipeFrame_spitDebit (s : State) : { s with ink := s.spitInk }.WipeFrame s.spitDebit := by
  have ended : (fun c => if s.runningChans.get c = true then
      s.debitedChan true c (s.spitUsed.get c) ((PerChan.of fun c => (s.ink.get c).servicePart).get c) else s.ink.get c) =
      fun c => if s.runningChans.get c = true then s.debitedChan true c (s.spitUsed.get c) (s.ink.get c).servicePart else s.ink.get c :=
    funext fun c => by rw [PerChan.get_of]
  obtain ⟨e, a, h⟩ := s.debit_frame true s.runningChans s.spitUsed (PerChan.of fun c => (s.ink.get c).servicePart)
  rw [ended] at h
  rw [State.spitDebit, h]
  exact (State.wipeFrame_events { s with ink := s.spitInk } e a).trans (State.wipeFrame_wipeAdd _ _)

theorem State.wipeFrame_withStation {s t : State} (h : s.WipeFrame t) (st : Station) : (s.withStation st).WipeFrame (t.withStation st) := by
  obtain ⟨⟨q, w, e, a, rfl⟩, run, flow⟩ := h
  exact ⟨⟨q, w, e, a, rfl⟩, run, flow⟩

theorem State.wipeFrame_spitAbandoned (s : State) : ({ s with ink := s.spitInk }.withStation .uncapped).WipeFrame s.spitAbandoned :=
  (State.wipeFrame_withStation s.wipeFrame_spitDebit .uncapped).trans (State.agendaFrame_setStation _ _).wipe

/-! ### A station brought to rest (R152, R153) -/

/-- A state whose call or spit has ended at once. -/
def State.stepLeft (s : State) : State :=
  match s.svc.station with
  | .spitting => { s with ink := s.spitInk }.withStation .uncapped
  | .calling => s.withStation s.svc.resting.station
  | _ => s

/-- The running request returned at once from a call, a spit or a wait: what comes before the return is the end of the step and, of a spit, what its debit offers. -/
theorem State.restAtOnce_running {s : State} {r : ServiceReq} (h : s.running? = some r) :
    ∃ t, s.stepLeft.WipeFrame t ∧ t.requestBack.AgendaFrame s.restAtOnce := by
  unfold State.restAtOnce State.stepLeft
  rw [h]
  cases s.svc.station with
  | spitting => exact ⟨_, s.wipeFrame_spitAbandoned, State.agendaFrame_returnRunning _⟩
  | calling => exact ⟨_, (State.agendaFrame_setStation _ _).wipe, State.agendaFrame_returnRunning _⟩
  | capped | uncapped | uncapping | capping | wiping | suction | fault => exact ⟨s, .refl s, s.agendaFrame_returnRunning⟩

theorem State.restAtOnce_none {s : State} (h : s.running? = none) : s.restAtOnce = s := by
  rw [State.restAtOnce, h]

end Sys2Proof.Machine

/-! O6: the link that enters LOST, and the station brought to rest by it (R14, R111, R152). -/
namespace Sys2Proof.Machine

/-! ### The running request as a queue shows it -/

theorem State.running?_eq (s : State) : s.running? = (runningOf s.svc.queue).head? := List.head?_filter.symm

/-- A running request at the head of the queue and no other there. -/
theorem runningOf_head {q rest : List ServiceReq} {r : ServiceReq} (hq : q = r :: rest) (run : r.state = .running) (others : ∀ q ∈ rest, q.state ≠ .running) :
    runningOf q = [r] := by
  subst hq
  have here : (r.state == .running) = true := by simp [run]
  have none : runningOf rest = [] := List.filter_eq_nil_iff.2 fun q m => by simpa using others q m
  exact (List.filter_cons_of_pos (p := fun r : ServiceReq => r.state == .running) here).trans (congrArg (List.cons r) none)

theorem Service.returnedQueue_eq (v : Service) : v.returnedQueue =
    (((runningOf v.queue).filter fun r => !(v.stepEnd.dropFlow && r.flow)).map fun r => { r with state := .queued }) ++ dropRunning v.queue := by
  rw [Service.returnedQueue, runningOf, List.filter_filter]
  simp only [Bool.and_comm]

theorem Service.not_running_returnedQueue (v : Service) : ∀ q ∈ v.returnedQueue, q.state ≠ .running := by
  intro q m
  rcases List.mem_append.1 m with m | m
  · obtain ⟨r, -, rfl⟩ := List.mem_map.1 m
    exact nofun
  · simpa [dropRunning] using (List.mem_filter.1 m).2

theorem State.running?_eq_none_iff (s : State) : s.running? = none ↔ ∀ q ∈ s.svc.queue, q.state ≠ .running := by
  rw [State.running?, List.find?_eq_none]
  simp

/-- The one running request that is not dropped is back at the head of the queue. -/
theorem State.head_requestBack {s : State} {r : ServiceReq} (one : runningOf s.svc.queue = [r]) (stays : (s.svc.stepEnd.dropFlow && r.flow) = false) :
    s.requestBack.svc.queue.head? = some { r with state := .queued } := by
  change s.svc.returnedQueue.head? = _
  rw [Service.returnedQueue_eq, one, List.filter_cons_of_pos (by rw [stays]; rfl)]
  rfl

/-! ### What bringing the station to rest leaves of the ink -/

theorem State.endAfter_spitInk (s : State) (c : Chan) : (s.spitInk.get c).endAfter = (s.ink.get c).endAfter := by
  rw [State.spitInk, PerChan.get_of]
  split <;> rfl

theorem State.endAfter_stepLeft (s : State) (c : Chan) : (s.stepLeft.ink.get c).endAfter = (s.ink.get c).endAfter := by
  unfold State.stepLeft
  split
  · exact s.endAfter_spitInk c
  · rfl
  · rfl

theorem State.endAfter_requestBack (s : State) (c : Chan) : (s.requestBack.ink.get c).endAfter = (s.ink.get c).endAfter := by
  rw [State.requestBack, State.ink_modSvc, State.serviceReleased]
  dsimp only
  rw [PerChan.get_of]

theorem State.endAfter_restAtOnce (s : State) (c : Chan) : (s.restAtOnce.ink.get c).endAfter = (s.ink.get c).endAfter := by
  cases h : s.running? with
  | none => rw [State.restAtOnce_none h]
  | some r =>
    obtain ⟨t, ⟨⟨q, w, e, a, rfl⟩, -, -⟩, b, back⟩ := State.restAtOnce_running h
    rw [back]
    exact (State.endAfter_requestBack _ c).trans (s.endAfter_stepLeft c)

theorem State.ink_capRested (s : State) : s.capRested.ink = s.ink := by
  unfold State.capRested
  split <;> rfl

theorem State.endAfter_serviceLost (s : State) (c : Chan) : (s.serviceLost.ink.get c).endAfter = (s.ink.get c).endAfter := by
  unfold State.serviceLost
  split
  · split <;> rfl
  · obtain ⟨a, h⟩ := s.restAtOnce.agendaFrame_restCap
    rw [h]
    change (s.restAtOnce.capRested.ink.get c).endAfter = _
    rw [State.ink_capRested, State.endAfter_restAtOnce]

/-! ### The station under a link that enters LOST -/

/-- A step that R152 lets run. -/
theorem Station.runsOn_iff (st : Station) : st.runsOn = true ↔ st = .capping ∨ st = .uncapping ∨ st = .wiping ∨ st = .suction := by cases st <;> decide

theorem State.serviceLost_runsOn {s : State} (h : s.svc.station.runsOn = true) (inside : s.svc.stepEnd.outside = false) :
    s.serviceLost = s.modSvc fun v => { v with stepEnd := { v.stepEnd with returns := true, capAfter := true } } := by
  rw [State.serviceLost, if_pos h, if_neg (by rw [inside]; exact Bool.false_ne_true)]

theorem State.agendaFrame_serviceLost {s : State} (h : s.svc.station.runsOn = false) : s.restAtOnce.capRested.AgendaFrame s.serviceLost := by
  rw [State.serviceLost, if_neg (by rw [h]; exact Bool.false_ne_true)]
  exact State.agendaFrame_restCap _

/-- The station of the request that a call or a spit leaves, the cap step of R152 after it. -/
theorem State.serviceLost_returned {s : State} {r : ServiceReq} (one : runningOf s.svc.queue = [r]) (stays : s.svc.stepEnd.dropFlow = false)
    (st : s.svc.station = .calling ∨ s.svc.station = .spitting) :
    s.serviceLost.running? = none ∧ s.serviceLost.svc.queue.head? = some { r with state := .queued } ∧ s.serviceLost.svc.asking = false ∧
      s.serviceLost.svc.station = (if s.svc.station = .calling ∧ s.svc.resting = .closed then .capped
        else if s.svc.carriageLine.filt = .active then .capping else .uncapped) := by
  have on : s.svc.station.runsOn = false := by rcases st with st | st <;> rw [st] <;> rfl
  obtain ⟨b, last⟩ := State.agendaFrame_serviceLost on
  obtain ⟨t, ⟨⟨q, w, e, a, ht⟩, kept, -⟩, a', back⟩ := State.restAtOnce_running (s.running?_eq.trans (congrArg List.head? one))
  have left : ∃ k, s.stepLeft = { s with ink := k, svc := { s.svc with station := if s.svc.station = .calling then s.svc.resting.station else .uncapped } } := by
    unfold State.stepLeft
    rcases st with st | st <;> rw [st]
    · exact ⟨s.ink, rfl⟩
    · exact ⟨s.spitInk, rfl⟩
  obtain ⟨k, left⟩ := left
  rw [left] at ht kept
  have svc : s.restAtOnce.svc = t.requestBack.svc := (congrArg State.svc back :)
  have queue : s.serviceLost.svc.queue = t.requestBack.svc.queue := by
    rw [last, ← svc]
    unfold State.capRested
    split <;> rfl
  have tone : runningOf t.svc.queue = [r] := kept.trans one
  have tdrop : t.svc.stepEnd.dropFlow = false := by rw [ht]; exact stays
  refine ⟨(State.running?_eq_none_iff _).2 ?_, ?_, ?_, ?_⟩
  · rw [queue]
    exact t.svc.not_running_returnedQueue
  · rw [queue]
    exact State.head_requestBack tone (by rw [tdrop]; rfl)
  · rw [last]
    change s.restAtOnce.capRested.svc.asking = false
    unfold State.capRested
    split
    · exact (congrArg Service.asking svc)
    · exact (congrArg Service.asking svc)
  · have station : s.restAtOnce.svc.station = if s.svc.station = .calling then s.svc.resting.station else .uncapped := by rw [svc, ht]; rfl
    have line : s.restAtOnce.svc.carriageLine = s.svc.carriageLine := by rw [svc, ht]; rfl
    rw [last]
    change s.restAtOnce.capRested.svc.station = _
    unfold State.capRested
    rw [station, line]
    rcases st with st | st <;> rw [st]
    · cases rest : s.svc.resting with
      | closed => rw [if_neg (by simp [CapPos.station])]; simpa [CapPos.station, st, rest] using station
      | opened =>
        by_cases act : s.svc.carriageLine.filt = .active
        · simp [CapPos.station, act, State.capsOutside]
        · simpa [CapPos.station, act, st, rest] using station
    · by_cases act : s.svc.carriageLine.filt = .active
      · simp [act, State.capsOutside]
      · simpa [act, st] using station

/-- An idle station that stands uncapped with the carriage at it begins the cap step of R152. -/
theorem State.serviceLost_uncapped {s : State} (st : s.svc.station = .uncapped) (idle : s.running? = none) (act : s.svc.carriageLine.filt = .active) :
    s.serviceLost.svc.station = .capping ∧ s.serviceLost.svc.stepEnd.outside = true := by
  obtain ⟨a, h⟩ := State.agendaFrame_serviceLost (s := s) (by rw [st]; rfl)
  rw [h, State.restAtOnce_none idle, State.capRested, if_pos ⟨st, act⟩]
  exact ⟨rfl, rfl⟩

/-! ### O6 -/

theorem State.activity_le (s : State) : s.activity ≤ 15 := by
  unfold State.activity
  have part (p : Prop) [Decidable p] (n : Nat) : (if p then n else 0) ≤ n := by
    split
    · exact Nat.le_refl n
    · exact Nat.zero_le n
  exact Nat.add_le_add (Nat.add_le_add (Nat.add_le_add (part _ 1) (part _ 2)) (part _ 4)) (part _ 8)

/-- What the link leaves as it enters LOST, before the station is brought to rest. -/
def State.linkDown (s : State) : State :=
  let t := { s with link := { s.link with silence := silenceLimit } }.post .linkLost 0xFF s.activity silenceLimit
  { t with link := { t.link with state := .lost, lostMs := 0 }, flow := { t.flow with pause := true } }.inkLost

theorem State.lostNow_active {s : State} (u : s.link.state = .up) (act : s.active = true) : s.linkDown.serviceLost.AgendaFrame s.lostNow := by
  unfold State.lostNow
  rw [if_pos (by rw [u, act]; rfl)]
  exact (State.agendaFrame_wake _ _).trans (State.agendaFrame_stir _)

theorem State.endAfter_linkDown (s : State) (c : Chan) : (s.linkDown.ink.get c).endAfter = (s.ink.get c).running :=
  congrArg InkChan.endAfter (PerChan.get_of _ c)

/-- Settles O6, part 1 by what every reaction keeps while no read waits, part 2 by the frames of bringing the station to rest. -/
theorem silenceWhileActiveLosesTheLink : Obligations.SilenceWhileActiveLosesTheLink := by
  unfold Obligations.SilenceWhileActiveLosesTheLink
  refine ⟨fun s u act r => ⟨_, rfl, ?_⟩, fun s u act => ?_, fun s r off => ?_⟩
  · have frame : Quiet s.cleared.linkDown s.cleared.lostNow := by
      obtain ⟨a, h⟩ := State.lostNow_active (s := s.cleared) u act
      rw [h]
      exact (State.serviceLost_quiet (.refl s.cleared.linkDown)).setAgenda
    have q := settle_quiet settleFuel frame r.waiting r.stalled
    refine ⟨q.lost rfl, q.silence, q.paused rfl, fun room => q.recsStand.subset ?_⟩
    have posted := State.posted_room (s := { s.cleared with link := { s.cleared.link with silence := silenceLimit } }) room .linkLost 0xFF s.activity silenceLimit
    rw [State.record, Nat.min_eq_left (Nat.le_trans s.activity_le (by decide))] at posted
    exact posted
  · obtain ⟨a, h⟩ := State.lostNow_active (s := s.cleared) u act
    have q := State.serviceLost_quiet (.refl s.cleared.linkDown)
    refine ⟨s.cleared.lostNow, rfl, ?_⟩
    rw [h]
    refine ⟨q.lost rfl, q.paused rfl, fun c => ?_, fun st inside => ?_, fun x rest hq run others stays st => ?_, fun st idle act => ?_⟩
    · exact (State.endAfter_serviceLost _ c).trans (State.endAfter_linkDown _ c)
    · exact congrArg State.svc (State.serviceLost_runsOn (s := s.cleared.linkDown) ((Station.runsOn_iff _).2 st) inside)
    · exact State.serviceLost_returned (s := s.cleared.linkDown) (runningOf_head hq run others) stays st
    · exact State.serviceLost_uncapped (s := s.cleared.linkDown) st idle act
  · have still : s.cleared.lostNow = s.cleared := by
      unfold State.lostNow
      refine if_neg ?_
      rcases off with off | off
      · change ¬ (decide (s.link.state = .up) && s.active) = true
        simp [off]
      · change ¬ (decide (s.link.state = .up) && s.active) = true
        simp [off]
    change Host.Outcome.next (settle settleFuel s.cleared.lostNow) = _
    rw [still]
    exact congrArg _ (settle_none _ r)

end Sys2Proof.Machine

/-! The end of a station step, the return of a request, and the faults of the station (R138, R141 to R145). -/
namespace Sys2Proof.Machine

/-! ### Effects up to the agenda -/

/-- An effect that is known up to what it schedules. -/
theorem Effects.of_frame {c : Instr} {s u : State} {f : State → State} (e : exec c s = .next (s.event f)) (h : u.AgendaFrame (f s.cleared)) :
    Effects c s u := by
  obtain ⟨a, h⟩ := h
  exact ⟨a, e.trans (congrArg (fun t => Host.Outcome.next (settle settleFuel t)) h)⟩

/-- Every effect is its own. -/
theorem Effects.own {c : Instr} {s : State} {f : State → State} (e : exec c s = .next (s.event f)) : Effects c s (f s.cleared) := .of_frame e (.refl _)

/-- A command without effect, with nothing scheduled, clears the outputs alone. -/
theorem State.event_still {s : State} {f : State → State} (r : s.agenda = []) (h : f s.cleared = s.cleared) : s.event f = s.cleared :=
  State.event_eq h r

/-! ### What the end of a step keeps -/

/-- A Service record apart from the fields of its step and its queue. -/
def Service.steady (v : Service) : Service :=
  { v with station := .capped, queue := [], steps := [], asking := false, callRunning := false, motorMs := 0, toSuck := [], spit := SpitWork.none, stepEnd := StepEnd.normal }

/-- Two states that differ in the step, the queue of requests, the Health Table, the event queue and the agenda. -/
def State.StepFrame (s t : State) : Prop :=
  ∃ v h e a, t = { s with svc := v, health := h, events := e, agenda := a } ∧ v.steady = s.svc.steady

theorem State.StepFrame.refl (s : State) : s.StepFrame s := ⟨_, _, _, _, rfl, rfl⟩

theorem State.StepFrame.trans {s t u : State} (h : s.StepFrame t) (g : t.StepFrame u) : s.StepFrame u := by
  obtain ⟨v, k, e, a, rfl, same⟩ := h
  obtain ⟨v', k', e', a', rfl, same'⟩ := g
  exact ⟨v', k', e', a', rfl, same'.trans same⟩

theorem State.AgendaFrame.step {s t : State} (h : s.AgendaFrame t) : s.StepFrame t := by
  obtain ⟨a, rfl⟩ := h
  exact ⟨_, _, _, a, rfl, rfl⟩

theorem State.stepFrame_modSvc (s : State) {f : Service → Service} (h : (f s.svc).steady = s.svc.steady) : s.StepFrame (s.modSvc f) :=
  ⟨_, _, _, _, rfl, h⟩

theorem State.stepFrame_setStation (s : State) (st : Station) : s.StepFrame (s.setStation st) :=
  (s.stepFrame_modSvc (f := fun v => { v with station := st }) rfl).trans (s.agendaFrame_setStation st).step

theorem State.station_setStation (s : State) (st : Station) : (s.setStation st).svc.station = st := by
  obtain ⟨a, h⟩ := s.agendaFrame_setStation st
  rw [h]
  rfl

theorem State.stepFrame_cleaningCompleted (s : State) (level : Level) (cs : ChanSet) : s.StepFrame (s.cleaningCompleted level cs) := by
  cases level <;> exact ⟨_, _, _, _, rfl, rfl⟩

theorem State.svc_cleaningCompleted (s : State) (level : Level) (cs : ChanSet) : (s.cleaningCompleted level cs).svc = s.svc := by cases level <;> rfl

theorem State.stepFrame_completeRequest (s : State) (r : ServiceReq) : s.StepFrame (s.completeRequest r) := by
  unfold State.completeRequest
  refine (s.stepFrame_modSvc (f := fun v =>
    { v with queue := dropRunning v.queue, steps := [], asking := false, callRunning := false, spit := SpitWork.none }) rfl).trans
    ((State.stepFrame_setStation _ s.svc.cap.station).trans ?_)
  refine State.StepFrame.trans ?_ ((State.agendaFrame_stirWalk _).trans (State.agendaFrame_wake _ _)).step
  exact State.StepFrame.trans ⟨_, _, _, _, rfl, rfl⟩ (State.stepFrame_cleaningCompleted _ r.level r.chans)

theorem State.station_completeRequest (s : State) (r : ServiceReq) : (s.completeRequest r).svc.station = s.svc.cap.station := by
  unfold State.completeRequest
  extract_lets t
  obtain ⟨a, h⟩ := (((t.postCall .serviceDone r).cleaningCompleted r.level r.chans).agendaFrame_stirWalk).trans (State.agendaFrame_wake _ [.uncap, .evalFront])
  rw [h]
  change ((t.postCall .serviceDone r).cleaningCompleted r.level r.chans).svc.station = _
  rw [State.svc_cleaningCompleted]
  exact State.station_setStation _ _

theorem State.stepFrame_requestBack (s : State) : s.serviceReleased.StepFrame s.requestBack := ⟨_, _, _, _, rfl, rfl⟩

theorem State.stepFrame_returnRunning (s : State) : s.serviceReleased.StepFrame s.returnRunning :=
  s.stepFrame_requestBack.trans s.agendaFrame_returnRunning.step

theorem State.stepFrame_restCap (s : State) : s.StepFrame s.restCap := by
  refine State.StepFrame.trans ?_ s.agendaFrame_restCap.step
  unfold State.capRested
  split
  · exact ⟨_, _, _, _, rfl, rfl⟩
  · exact .refl s

theorem State.svc_returnRunning (s : State) : s.returnRunning.svc = s.requestBack.svc := by
  obtain ⟨a, h⟩ := s.agendaFrame_returnRunning
  rw [h]

/-- The station keeps to the cap it has where R152 asks for no cap step. -/
theorem State.restCap_capped {s : State} (h : s.svc.station ≠ .uncapped) : s.restCap = s := by
  rw [State.restCap, if_neg]
  simp [h]

/-! ### A step ends (R138, R144, R152) -/

/-- The ink after the end of a step: a request that returns releases what it holds. -/
def State.stepEndInk (s : State) : PerChan InkChan :=
  if s.svc.stepEnd.outside = false ∧ s.svc.stepEnd.returns = true then s.serviceReleased.ink else s.ink

theorem State.serviceReleased_frame {s t : State} (h : s.StepFrame t) : { s with ink := s.serviceReleased.ink }.StepFrame t.serviceReleased := by
  obtain ⟨v, k, e, a, rfl, same⟩ := h
  exact ⟨v, k, e, a, rfl, same⟩

/-- What the end of a step leaves. -/
theorem State.stepEnds_frame (s : State) : { s with ink := s.stepEndInk }.StepFrame s.stepEnds := by
  have seat := s.stepFrame_setStation s.svc.cap.station
  unfold State.stepEnds State.stepEndInk
  extract_lets e t
  by_cases out : s.svc.stepEnd.outside = true
  · rw [if_pos out, if_neg (by rw [out]; exact fun h => Bool.false_ne_true h.1.symm)]
    exact seat.trans ((State.stepFrame_modSvc _ rfl).trans (State.agendaFrame_stirWalk _).step)
  · rw [if_neg out]
    by_cases ret : s.svc.stepEnd.returns = true
    · rw [if_pos ret, if_pos ⟨Bool.eq_false_iff.2 out, ret⟩]
      have back := (State.serviceReleased_frame seat).trans t.stepFrame_returnRunning
      split
      · exact back.trans (State.stepFrame_restCap _)
      · exact back
    · rw [if_neg ret, if_neg fun h => ret h.2]
      refine seat.trans ?_
      split
      · exact State.stepFrame_completeRequest _ _
      · exact (State.stepFrame_modSvc _ rfl).trans ⟨_, _, _, _, rfl, rfl⟩
      · exact .refl _

theorem State.steady_stepEnds (s : State) : s.stepEnds.svc.steady = s.svc.steady := by
  obtain ⟨v, k, e, a, h, same⟩ := s.stepEnds_frame
  rw [h]
  exact same

/-- The station after a step whose end leads to no cap step of R152. -/
theorem State.station_stepEnds {s : State} (h : s.svc.cap = .closed ∨ s.svc.stepEnd.capAfter = false) : s.stepEnds.svc.station = s.svc.cap.station := by
  have seat := s.station_setStation s.svc.cap.station
  have cap : (s.setStation s.svc.cap.station).svc.cap = s.svc.cap := by
    obtain ⟨a, f⟩ := s.agendaFrame_setStation s.svc.cap.station
    rw [f]
    rfl
  unfold State.stepEnds
  extract_lets e t
  have back : t.returnRunning.svc.station = s.svc.cap.station := by rw [State.svc_returnRunning]; exact seat
  split
  · exact seat
  · split
    · split
      next after =>
        rcases h with h | h
        · rw [State.restCap_capped]
          · exact back
          · rw [back, h]; decide
        · exact absurd (h.symm.trans after) Bool.false_ne_true
      next => exact back
    · split
      · exact (State.station_completeRequest _ _).trans (congrArg CapPos.station cap)
      · exact seat
      · exact seat

/-! ### A request returns (R144, R145) -/

theorem head_runningOf {s : State} {r : ServiceReq} (h : s.running? = some r) : (runningOf s.svc.queue).head? = some r := s.running?_eq ▸ h

/-- The first running request is the head of the queue it returns to. -/
theorem State.head_returned {s : State} {r : ServiceReq} (h : (runningOf s.svc.queue).head? = some r) (stays : (s.svc.stepEnd.dropFlow && r.flow) = false) :
    s.requestBack.svc.queue.head? = some { r with state := .queued } := by
  obtain ⟨rest, e⟩ := List.head?_eq_some_iff.1 h
  change s.svc.returnedQueue.head? = _
  rw [Service.returnedQueue_eq, e, List.filter_cons_of_pos (by rw [stays]; rfl)]
  rfl

theorem State.not_running_requestBack (s : State) : ∀ q ∈ s.requestBack.svc.queue, q.state ≠ .running := s.svc.not_running_returnedQueue

/-! ### The station enters FAULT (R145) -/

/-- A state whose station has entered FAULT. -/
def State.faulted (s : State) : State :=
  if s.running?.isSome then (s.withStation .fault).requestBack else (s.withStation .fault).modSvc fun v => { v with stepEnd := StepEnd.normal }

theorem State.AgendaFrame.requestBack {s t : State} (h : s.AgendaFrame t) : s.requestBack.AgendaFrame t.requestBack := by
  obtain ⟨a, rfl⟩ := h
  exact ⟨a, rfl⟩

theorem State.agendaFrame_stationFault (s : State) : s.faulted.AgendaFrame s.stationFault := by
  unfold State.stationFault State.faulted
  have seat := s.agendaFrame_setStation .fault
  dsimp only
  split
  · exact seat.requestBack.trans (State.agendaFrame_returnRunning _)
  · exact seat.modSvc _

/-- In FAULT no request runs, and the one that ran is back at the head of the queue. -/
theorem State.faulted_back (s : State) : s.faulted.svc.station = .fault ∧ (∀ r ∈ s.faulted.svc.queue, r.state ≠ .running) ∧
    ∀ r, s.running? = some r → (s.svc.stepEnd.dropFlow && r.flow) = false →
      s.faulted.svc.queue.head? = some { r with state := .queued } ∧ s.faulted.svc.asking = false := by
  unfold State.faulted
  cases run : s.running? with
  | none => exact ⟨rfl, (s.running?_eq_none_iff).1 run, nofun⟩
  | some x =>
    refine ⟨rfl, State.not_running_requestBack _, fun r e stays => ⟨?_, rfl⟩⟩
    injection e with e
    subst e
    exact State.head_returned (s := s.withStation .fault) (head_runningOf (s := s) run) stays

theorem State.cap_faulted (s : State) : s.faulted.svc.cap = s.svc.cap := by
  unfold State.faulted
  split <;> rfl

theorem State.events_faulted (s : State) : s.faulted.events = s.events := by
  unfold State.faulted
  split <;> rfl

/-- The motor stops at a cap or uncap step that has passed its limit. -/
def State.capFailed (s : State) (d : Nat) : State :=
  ((s.post .capFault 0xFF d (s.svc.cappedLine.filt.code + 256 * s.svc.openLine.filt.code)).modSvc fun v => { v with cap := .opened }).faulted

theorem State.agendaFrame_capFails {s : State} (h : s.svc.station = .capping ∨ s.svc.station = .uncapping) :
    (s.capFailed (if s.svc.station = .capping then 1 else 2)).AgendaFrame s.capFails := by
  unfold State.capFails
  rcases h with h | h
  · rw [h, if_pos rfl]; exact State.agendaFrame_stationFault _
  · rw [h, if_neg (by decide)]; exact State.agendaFrame_stationFault _

theorem State.capFails_other {s : State} (h : s.svc.station ≠ .capping) (g : s.svc.station ≠ .uncapping) : s.capFails = s := by
  unfold State.capFails
  split
  · exact absurd (by assumption) h
  · exact absurd (by assumption) g
  · rfl

theorem State.agendaFrame_wiperFails {s : State} (h : s.svc.station = .wiping) :
    (s.post .wiperFault 0xFF s.svc.wiperLine.filt.code 0).faulted.AgendaFrame s.wiperFails := by
  rw [State.wiperFails, if_pos h]
  exact State.agendaFrame_stationFault _

theorem State.wiperFails_other {s : State} (h : s.svc.station ≠ .wiping) : s.wiperFails = s := if_neg h

/-! ### The wiper home line (R141) -/

/-- A wipe that ends, its counter cleared unless the station was lost. -/
def State.wiped (s : State) : State := if s.svc.stepEnd.lostWipe then s else s.modSvc fun v => { v with wipeVolume := 0 }

theorem State.agendaFrame_wipeCompletes {s : State} (h : s.svc.station = .wiping) : s.wiped.stepEnds.AgendaFrame s.wipeCompletes := by
  rw [State.wipeCompletes, if_pos h]
  exact .refl _

theorem State.wipeCompletes_other {s : State} (h : s.svc.station ≠ .wiping) : s.wipeCompletes = s := if_neg h

theorem State.agendaFrame_wiperHome (s : State) : ((s.setLine .wiperHome (Line.take true)).wipeCompletes).AgendaFrame (s.returnCommand .wiperHome) :=
  State.agendaFrame_stir _

theorem State.wiperHome_false (s : State) : s.lineCommand .wiperHome false = s.setLine .wiperHome (Line.take false) := by
  rw [State.lineCommand]
  split
  · rfl
  · change State.wiperChanged _ _ = _
    rw [State.wiperChanged, if_neg]
    rw [Bool.and_eq_true]
    exact fun h => Bool.false_ne_true h.2

/-- Settles O46. -/
theorem stationFaults : Obligations.StationFaults := by
  intro s
  refine ⟨fun h => ?_, fun r h g => ?_, fun h => ?_, fun r h => ?_, fun h => ?_, fun r => ?_, fun h => ?_⟩
  · refine ⟨_, .of_frame (f := State.capFails) rfl (State.agendaFrame_capFails (s := s.cleared) h), State.faulted_back _, State.cap_faulted _, fun room => ?_⟩
    change _ ∈ (State.faulted _).events.recs
    rw [State.events_faulted]
    exact State.posted_room room ..
  · exact congrArg Host.Outcome.next (State.event_still r (State.capFails_other (s := s.cleared) h g))
  · refine ⟨_, .of_frame (f := State.wiperFails) rfl (State.agendaFrame_wiperFails (s := s.cleared) h), State.faulted_back _, State.cap_faulted _, fun room => ?_⟩
    rw [State.events_faulted]
    exact State.posted_room room ..
  · exact congrArg Host.Outcome.next (State.event_still r (State.wiperFails_other (s := s.cleared) h))
  · refine ⟨_, .of_frame (f := fun s => s.returnCommand .wiperHome) rfl ((State.agendaFrame_wipeCompletes ?_).trans s.cleared.agendaFrame_wiperHome), ?_⟩
    · exact h
    · have steady := (s.cleared.setLine .wiperHome (Line.take true)).wiped.steady_stepEnds
      refine ⟨(congrArg Service.wiperLine steady).trans ?_, (congrArg Service.cap steady).trans ?_, (congrArg Service.wipeVolume steady).trans ?_, fun o c => ?_⟩
      · unfold State.wiped
        split <;> rfl
      · unfold State.wiped
        split <;> rfl
      · unfold State.wiped
        change Service.wipeVolume (Service.steady (State.svc (if s.svc.stepEnd.lostWipe = true then _ else _))) = _
        split <;> rfl
      · refine (State.station_stepEnds (.inr ?_)).trans ((congrArg CapPos.station ?_).trans (congrArg CapPos.station o))
        · unfold State.wiped
          split <;> exact c
        · unfold State.wiped
          split <;> rfl
  · exact congrArg Host.Outcome.next (State.event_eq s.cleared.wiperHome_false r)
  · refine .of_frame (f := fun s => s.returnCommand .wiperHome) rfl (State.AgendaFrame.trans ?_ s.cleared.agendaFrame_wiperHome)
    exact (State.wipeCompletes_other (s := s.cleared.setLine .wiperHome (Line.take true)) h).symm ▸ .refl _

end Sys2Proof.Machine

/-! The reset of the station and the lines of the cap and the carriage (R130, R131, R136, R142, R144, R145). -/
namespace Sys2Proof.Machine

/-! ### SERVICE_RESET (R145) -/

/-- The effect of a directive that is known up to what it schedules. -/
theorem Effects.of_directive_frame {s : State} {w : WriteBeat} (h : s.takesTrigger w) (up : s.link.state = .up) {i : Instr} (k : Nat) (run : State → Taken)
    {c : ResultCode} {d : Nat} {t u : State} (x : exec i s = .next (s.event fun s => (s.triggerArrives w).trigger k w run))
    (e : run (s.atDirective w) = ⟨c, d, t⟩) (hu : u.AgendaFrame t) : Effects i s (u.putResult w.triggerSeq k c d) := by
  obtain ⟨a, rfl⟩ := hu
  exact Effects.of_directive h up k run x e rfl

/-- A station that has left FAULT. -/
def State.faultLeft (s : State) : State :=
  if s.svc.cappedLine.filt = .active then s.capCloses.withStation .capped
  else (s.modSvc fun v => { v with cap := .opened }).withStation .uncapped

theorem State.agendaFrame_leaveFault (s : State) : s.faultLeft.AgendaFrame s.leaveFault := by
  unfold State.leaveFault State.faultLeft
  by_cases h : s.svc.cappedLine.filt = .active
  · rw [if_pos h, if_pos (by simp [Line.isActive, h])]; exact State.agendaFrame_setStation _ _
  · rw [if_neg h, if_neg (by simp [Line.isActive, h])]; exact State.agendaFrame_setStation _ _

theorem State.cleaningLeft_frame (s : State) (level : Level) (cs : ChanSet) : ∃ h, s.cleaningLeft level cs = { s with health := h } := by
  cases level <;> exact ⟨_, rfl⟩

theorem State.cleaningsLeft_frame (q : List ServiceReq) (s : State) :
    ∃ h, q.foldl (fun s r => s.cleaningLeft r.level r.chans) s = { s with health := h } := by
  induction q generalizing s with
  | nil => exact ⟨_, rfl⟩
  | cons r q ih =>
    obtain ⟨h, e⟩ := s.cleaningLeft_frame r.level r.chans
    obtain ⟨h', e'⟩ := ih (s.cleaningLeft r.level r.chans)
    exact ⟨h', by rw [List.foldl_cons, e', e]⟩

/-- Two states that differ in the Health Table and the agenda. -/
def State.HealthFrame (s t : State) : Prop := ∃ h, State.AgendaFrame { s with health := h } t

theorem State.flushQueue_frame (s : State) : (s.modSvc fun v => { v with queue := [] }).HealthFrame s.flushQueue := by
  unfold State.flushQueue
  extract_lets q t
  obtain ⟨h, e⟩ := t.cleaningsLeft_frame q
  exact ⟨h, by rw [e]; exact (State.agendaFrame_wake _ _).trans (State.agendaFrame_stir _)⟩

/-- What SERVICE_RESET leaves of a station in FAULT. -/
theorem State.doServiceReset_fault {s : State} (h : s.svc.station = .fault) (b : List Byte) : ∃ t, s.doServiceReset b =
      ⟨.done, if s.svc.cappedLine.filt = .active then 0 else 1, t⟩ ∧
    (s.faultLeft.modSvc fun v => { v with queue := if byteAt b 0 = 0 then v.queue else [] }).HealthFrame t := by
  have code : (if s.svc.cappedLine.isActive = true then 0 else 1) = if s.svc.cappedLine.filt = .active then 0 else 1 :=
    ite_of_iff (by simp [Line.isActive]) _ _
  obtain ⟨a, left⟩ := s.agendaFrame_leaveFault
  unfold State.doServiceReset
  rw [if_pos h, code]
  refine ⟨_, rfl, ?_⟩
  by_cases z : byteAt b 0 = 0
  · simp only [if_pos z, if_pos (show bodyFirst b = 0 from z)]
    exact ⟨s.faultLeft.health, State.AgendaFrame.trans ⟨a, left⟩ (State.agendaFrame_stirWalk _)⟩
  · simp only [if_neg z, if_neg (show ¬ bodyFirst b = 0 from z)]
    obtain ⟨k, e⟩ := s.leaveFault.flushQueue_frame
    refine ⟨k, State.AgendaFrame.trans (State.AgendaFrame.trans ⟨a, ?_⟩ e) (State.agendaFrame_stirWalk _)⟩
    change { s.leaveFault.modSvc fun v => { v with queue := [] } with health := k } = _
    rw [left]
    rfl

theorem exec_serviceReset_idle {s : State} {w : WriteBeat} (h : s.takesTrigger w) (r : Ready s) (st : s.svc.station ≠ .fault) :
    exec (.serviceReset w) s = .next (s.afterDirective w 11 .state s.svc.station.code) :=
  congrArg Host.Outcome.next (State.directive_answers h r 11 (fun s => s.doServiceReset s.mail.body) _ _ (if_neg st))

/-- Settles O47. -/
theorem serviceReset : Obligations.ServiceReset := by
  refine fun s w h => ⟨exec_serviceReset_idle h, fun up st => ?_⟩
  obtain ⟨t, e, k, frame⟩ := State.doServiceReset_fault (s := s.atDirective w) st s.mail.body
  by_cases c : s.svc.cappedLine.filt = .active
  · rw [if_pos (show (s.atDirective w).svc.cappedLine.filt = .active from c)] at e
    rw [State.faultLeft, if_pos (show (s.atDirective w).svc.cappedLine.filt = .active from c)] at frame
    refine ⟨_, Effects.of_directive_frame h up 11 (fun s => s.doServiceReset s.mail.body) rfl e frame, rfl, rfl, rfl, ?_⟩
    rw [if_pos c]
    exact ⟨rfl, rfl, rfl, fun c => congrArg Decap.ms (PerChan.get_of _ c)⟩
  · rw [if_neg (show ¬ (s.atDirective w).svc.cappedLine.filt = .active from c)] at e
    rw [State.faultLeft, if_neg (show ¬ (s.atDirective w).svc.cappedLine.filt = .active from c)] at frame
    refine ⟨_, Effects.of_directive_frame h up 11 (fun s => s.doServiceReset s.mail.body) rfl e frame, rfl, rfl, rfl, ?_⟩
    rw [if_neg c]
    exact ⟨rfl, rfl, rfl, rfl⟩

/-! ### The lines of the cap (R131, R142) -/

/-- A line that must be inactive. -/
def Line.implied (l : Line) : Line := if l.filt = .active then Line.take false else l

theorem State.impliedInactive_openLine (s : State) : s.impliedInactive .openLine = s.modSvc fun v => { v with openLine := v.openLine.implied } := by
  unfold State.impliedInactive Line.implied
  by_cases h : s.svc.openLine.filt = .active
  · rw [if_pos (by exact h), State.modSvc, if_pos h]; rfl
  · rw [if_neg (by exact h), State.modSvc, if_neg h]

theorem State.impliedInactive_capped (s : State) : s.impliedInactive .capped = s.modSvc fun v => { v with cappedLine := v.cappedLine.implied } := by
  unfold State.impliedInactive Line.implied
  by_cases h : s.svc.cappedLine.filt = .active
  · rw [if_pos (by exact h), State.modSvc, if_pos h]; rfl
  · rw [if_neg (by exact h), State.modSvc, if_neg h]

theorem State.lineCommand_capped_false {s : State} (h : s.svc.cappedLine.filt ≠ .unknown) :
    s.lineCommand .capped false = s.setLine .capped (Line.take false) := by
  rw [State.lineCommand]
  split
  · rfl
  · change State.cappedChanged _ s.svc.cappedLine.filt = _
    rw [State.cappedChanged, if_neg h, if_neg]
    exact Bool.false_ne_true

theorem State.lineCommand_openLine_false (s : State) : s.lineCommand .openLine false = s.setLine .openLine (Line.take false) := by
  rw [State.lineCommand]
  split
  · rfl
  · change State.openChanged _ = _
    rw [State.openChanged, if_neg]
    exact Bool.false_ne_true

/-- The first filtered state of the capped line, inactive. -/
def State.foundOpen (s : State) : State := (s.setLine .capped (Line.take false)).capOpens.withStation .uncapped

theorem State.agendaFrame_foundOpen {s : State} (h : s.svc.cappedLine.filt = .unknown) : s.foundOpen.AgendaFrame (s.lineCommand .capped false) := by
  rw [State.lineCommand, if_neg (by rw [show (s.line .capped).filt = _ from h]; decide)]
  change State.AgendaFrame _ (State.cappedChanged _ s.svc.cappedLine.filt)
  rw [State.cappedChanged, if_pos h, if_neg (by exact Bool.false_ne_true)]
  exact (State.agendaFrame_setStation _ _).trans (State.agendaFrame_stirWalk _)

theorem State.agendaFrame_foundCapped {s : State} (h : s.svc.cappedLine.filt = .unknown) :
    (s.setLine .capped (Line.take true)).AgendaFrame (s.lineCommand .capped true) := by
  rw [State.lineCommand, if_neg (by rw [show (s.line .capped).filt = _ from h]; decide)]
  change State.AgendaFrame _ (State.cappedChanged _ s.svc.cappedLine.filt)
  rw [State.cappedChanged, if_pos h, if_pos (by rfl)]
  exact (State.agendaFrame_wake _ _).trans (State.agendaFrame_stirWalk _)

/-- The capped line active by the command that names the change. -/
def State.cappedTaken (s : State) : State := s.modSvc fun v => { v with cappedLine := Line.take true, openLine := v.openLine.implied }

/-- The open line active by the command that names the change. -/
def State.openTaken (s : State) : State := s.modSvc fun v => { v with openLine := Line.take true, cappedLine := v.cappedLine.implied }

theorem State.agendaFrame_cappedActive {s : State} (h : s.svc.cappedLine.filt ≠ .unknown) : s.cappedTaken.capCompletes.AgendaFrame s.cappedActive := by
  unfold State.cappedActive
  rw [State.impliedInactive_openLine]
  dsimp only
  split
  next g => exact absurd g h
  next => exact State.agendaFrame_stir _

theorem State.agendaFrame_cappedActive_first {s : State} (h : s.svc.cappedLine.filt = .unknown) : s.cappedTaken.AgendaFrame s.cappedActive := by
  unfold State.cappedActive
  rw [State.impliedInactive_openLine]
  dsimp only
  split
  next g => exact State.agendaFrame_foundCapped g
  next g => exact absurd h g

theorem State.agendaFrame_openActive (s : State) : s.openTaken.uncapCompletes.AgendaFrame ((s.impliedInactive .capped).returnInput .openLine true .filtered) := by
  rw [State.impliedInactive_capped]
  exact State.agendaFrame_stir _

/-- Every decap timer restarts and no stale flag moves. -/
theorem State.restartDecaps_fresh (s : State) (c : Chan) : (s.restartDecaps.svc.decap.get c).ms = 0 ∧ (s.restartDecaps.svc.decap.get c).expired = false ∧
    (s.restartDecaps.svc.decap.get c).stale = (s.svc.decap.get c).stale := by
  rw [State.restartDecaps, State.svc_modSvc]
  dsimp only
  rw [PerChan.get_of]
  exact ⟨rfl, rfl, rfl⟩

/-- Settles O44. -/
theorem capLines : Obligations.CapLines := by
  intro s fresh off
  refine ⟨fun h => ⟨.of_frame rfl (?_ : State.AgendaFrame _ (if _ then _ else _)), ?_⟩, fun r h b => ?_, fun r h => ?_, fun r => ?_, fun h st => ?_, fun st => ?_, fun st => ?_, fun st => ?_⟩
  · rw [if_pos (by exact h)]
    exact State.agendaFrame_foundCapped (s := s.cleared) h
  · have frame := State.agendaFrame_foundOpen (s := s.cleared) h
    have facts : s.cleared.foundOpen.svc.station = .uncapped ∧ s.cleared.foundOpen.svc.cap = .opened ∧ fresh s.cleared.foundOpen ∧
        s.cleared.foundOpen.svc.cappedLine = Line.take false ∧ s.cleared.foundOpen.svc.queue = s.svc.queue ∧ s.cleared.foundOpen.slots = s.slots ∧
        s.cleared.foundOpen.ink = s.ink ∧ s.cleared.foundOpen.media = s.media :=
      ⟨rfl, rfl, fun c => State.restartDecaps_fresh _ c, rfl, rfl, rfl, rfl, rfl⟩
    rintro cmd (rfl | rfl)
    · refine ⟨_, .of_frame rfl (?_ : State.AgendaFrame _ (if _ then _ else _)), facts⟩
      rw [if_pos (by exact h)]
      exact frame
    · exact ⟨_, .of_frame (f := fun s => s.lineCommand .capped false) rfl frame, facts⟩
  · exact congrArg Host.Outcome.next (State.event_still r (if_neg h))
  · exact congrArg Host.Outcome.next (State.event_eq (f := fun s => s.lineCommand .capped false) (State.lineCommand_capped_false (s := s.cleared) h) r)
  · exact congrArg Host.Outcome.next (State.event_eq (f := fun s => s.lineCommand .openLine false) s.cleared.lineCommand_openLine_false r)
  · refine ⟨_, .of_frame (f := State.cappedActive) rfl (State.agendaFrame_cappedActive (s := s.cleared) h), ?_⟩
    rw [State.capCompletes, if_pos (by exact st)]
    have steady := s.cleared.cappedTaken.capCloses.steady_stepEnds
    refine ⟨State.station_stepEnds (.inl rfl), (congrArg Service.cap steady :), fun c => ?_, (congrArg Service.cappedLine steady :), (congrArg Service.openLine steady :)⟩
    rw [show s.cleared.cappedTaken.capCloses.stepEnds.svc.decap = s.cleared.cappedTaken.capCloses.svc.decap from (congrArg Service.decap steady :)]
    exact State.restartDecaps_fresh _ c
  · by_cases h : s.svc.cappedLine.filt = .unknown
    · exact .of_frame (f := State.cappedActive) rfl (State.agendaFrame_cappedActive_first (s := s.cleared) h)
    · refine .of_frame (f := State.cappedActive) rfl ?_
      have frame := State.agendaFrame_cappedActive (s := s.cleared) h
      rw [State.capCompletes, if_neg (by exact st)] at frame
      exact frame
  · refine ⟨_, .of_frame (f := fun s => (s.impliedInactive .capped).returnInput .openLine true .filtered) rfl s.cleared.agendaFrame_openActive, ?_⟩
    rw [State.uncapCompletes, if_pos (by exact st)]
    have steady := s.cleared.openTaken.capOpens.steady_stepEnds
    refine ⟨(congrArg Service.cap steady :), fun c => ?_, fun after => State.station_stepEnds (.inr after), (congrArg Service.openLine steady :), (congrArg Service.cappedLine steady :)⟩
    rw [show s.cleared.openTaken.capOpens.stepEnds.svc.decap = s.cleared.openTaken.capOpens.svc.decap from (congrArg Service.decap steady :)]
    exact State.restartDecaps_fresh _ c
  · have frame := s.cleared.agendaFrame_openActive
    rw [State.uncapCompletes, if_neg (by exact st)] at frame
    exact .of_frame (f := fun s => (s.impliedInactive .capped).returnInput .openLine true .filtered) rfl frame

end Sys2Proof.Machine

/-! O48: the call for the carriage and its line (R136, R144, R152). -/
namespace Sys2Proof.Machine

/-! ### The call timer (R136) -/

theorem State.callTimesOut_running {s : State} {r : ServiceReq} (st : s.svc.station = .calling) (c : s.svc.callRunning = true) (h : s.running? = some r) :
    s.callTimesOut = { s with svc := { s.svc with callMs := callLimit, callRunning := false },
                              events := s.posted .callTimeout r.chans.subject (r.level.code + 256 * s.passCount r) r.chans.mask } := by
  unfold State.callTimesOut
  rw [if_pos (by rw [st, c]; rfl)]
  extract_lets t
  have run : t.running? = some r := h
  rw [run]
  rfl

theorem State.callTimesOut_other {s : State} (h : s.svc.station ≠ .calling ∨ s.svc.callRunning = false) : s.callTimesOut = s := by
  refine if_neg ?_
  rcases h with h | h <;> simp [h]

/-! ### The carriage line (R136, R144, R152) -/

/-- The carriage line with a filtered state. -/
def State.carriageTaken (s : State) (b : Bool) : State := s.modSvc fun v => { v with carriageLine := Line.take b }

theorem State.lineCommand_carriage_same {s : State} {b : Bool} (h : s.svc.carriageLine.filt = LineState.ofLevel b) :
    s.lineCommand .carriage b = s.carriageTaken b := if_pos h

theorem State.lineCommand_carriage {s : State} {b : Bool} (h : s.svc.carriageLine.filt ≠ LineState.ofLevel b) :
    s.lineCommand .carriage b = (s.carriageTaken b).carriageChanged := if_neg h

theorem State.carriageChanged_up {s : State} (h : s.svc.carriageLine.filt = .active) (u : s.link.state = .up) : s.AgendaFrame s.carriageChanged := by
  unfold State.carriageChanged
  rw [if_pos (by simp [Line.isActive, h]), u]
  exact s.agendaFrame_stir

/-- With the link LOST the arrival of the carriage starts the cap step of R152. -/
theorem State.carriageChanged_lost {s : State} (h : s.svc.carriageLine.filt = .active) (l : s.link.state = .lost) (idle : s.running? = none)
    (st : s.svc.station = .uncapped) : s.capsOutside.AgendaFrame s.carriageChanged := by
  have rest := s.agendaFrame_restCap
  rw [State.capRested, if_pos ⟨st, h⟩] at rest
  unfold State.carriageChanged
  rw [if_pos (by simp [Line.isActive, h]), l, idle]
  exact rest.trans (State.agendaFrame_stir _)

section
variable {s : State} (h : s.svc.carriageLine.filt ≠ .active)
include h

theorem State.carriageChanged_still (a : s.svc.station ≠ .spitting) (b : s.svc.station ≠ .wiping) : s.carriageChanged = s := by
  unfold State.carriageChanged
  rw [if_neg (by simpa [Line.isActive] using h)]
  split
  · exact absurd (by assumption) a
  · exact absurd (by assumption) b
  · rfl

variable {r : ServiceReq} (run : s.running? = some r)
include run

/-- A wipe that loses the carriage goes on and returns its request at its end. -/
theorem State.carriageChanged_wiping (st : s.svc.station = .wiping) (l : s.svc.stepEnd.lostWipe = false) : s.carriageChanged = { s with
    svc := { s.svc with stepEnd := { s.svc.stepEnd with returns := true, lostWipe := true } },
    events := if s.svc.stepEnd.capAfter = true then s.events else s.posted .stationLost r.chans.subject r.level.code 1 } := by
  unfold State.carriageChanged State.postStationLost
  rw [if_neg (by simpa [Line.isActive] using h), st, run]
  dsimp only
  rw [if_neg (by rw [l]; exact Bool.false_ne_true)]
  split <;> rfl

/-- A spit that loses the carriage is debited and its request returns. -/
theorem State.carriageChanged_spitting (st : s.svc.station = .spitting) :
    s.carriageChanged = ((s.post .stationLost r.chans.subject r.level.code 2).spitAbandoned.returnRunning) := by
  unfold State.carriageChanged State.postStationLost
  rw [if_neg (by simpa [Line.isActive] using h), st, run]

end

/-- What the return of the request of an abandoned spit leaves of a state. -/
structure State.SpitReturned (s : State) (r : ServiceReq) (u : State) : Prop where
  station : u.svc.station = .uncapped
  asking : u.svc.asking = false
  idle : ∀ x ∈ u.svc.queue, x.state ≠ .running
  head : (s.svc.stepEnd.dropFlow && r.flow) = false → u.svc.queue.head? = some { r with state := .queued } ∧ u.svc.steps = []
  ink : ∀ c, r.chans.get c = true → (u.ink.get c).servicePart = 0 ∧
    (u.ink.get c).level = (s.ink.get c).level - min (s.svc.spit.counted.get c * (s.chanProf c).large) (s.ink.get c).servicePart

theorem State.inkOf_spitInk {s : State} {r : ServiceReq} (run : s.running? = some r) {c : Chan} (hc : r.chans.get c = true) :
    s.spitInk.get c = s.debitedChan true c (s.svc.spit.counted.get c * (s.chanProf c).large) (s.ink.get c).servicePart := by
  have own : s.runningChans.get c = true := by rw [State.runningChans, run]; exact hc
  rw [State.spitInk, PerChan.get_of, if_pos own, State.spitUsed, PerChan.get_of]

theorem State.spitReturned_of_frame {s t : State} {r : ServiceReq} (run : s.running? = some r)
    (h : ({ s with ink := s.spitInk }.withStation .uncapped).WipeFrame t) : s.SpitReturned r t.requestBack := by
  obtain ⟨⟨q, w, e, a, rfl⟩, kept, -⟩ := h
  refine ⟨rfl, rfl, State.not_running_requestBack _, fun stays => ⟨State.head_returned ?_ stays, rfl⟩, fun c hc => ?_⟩
  · rw [kept]
    exact head_runningOf run
  · rw [State.requestBack, State.ink_modSvc, State.serviceReleased]
    dsimp only
    rw [PerChan.get_of, State.withStation, State.ink_modSvc, State.inkOf_spitInk run hc]
    exact ⟨rfl, rfl⟩

/-- An abandoned spit: its request at the head of the queue, the ink debited and released. -/
theorem State.spitReturned {s : State} {r : ServiceReq} (run : s.running? = some r) : s.SpitReturned r s.spitAbandoned.returnRunning := by
  obtain ⟨a, back⟩ := s.spitAbandoned.agendaFrame_returnRunning
  have done := State.spitReturned_of_frame run s.wipeFrame_spitAbandoned
  rw [back]
  exact ⟨done.station, done.asking, done.idle, done.head, done.ink⟩

/-- Settles O48. -/
theorem callAndCarriage : Obligations.CallAndCarriage := by
  intro s
  refine ⟨fun r a st c run => ?_, fun a h => ?_, fun h u => ?_, fun h l idle st => ?_, fun b a h => ?_, fun a h st st' => ?_, fun r h run => ⟨fun a st l => ?_, fun st => ?_⟩⟩
  · exact congrArg Host.Outcome.next (State.event_eq (State.callTimesOut_running (s := s.cleared) st c run) a)
  · exact congrArg Host.Outcome.next (State.event_still a (State.callTimesOut_other (s := s.cleared) h))
  · refine .of_frame (f := fun s => s.lineCommand .carriage true) rfl ?_
    rw [State.lineCommand_carriage (s := s.cleared) (b := true) h]
    exact State.carriageChanged_up (s := s.cleared.carriageTaken true) rfl u
  · refine ⟨(s.cleared.carriageTaken true).capsOutside, .of_frame (f := fun s => s.lineCommand .carriage true) rfl ?_, ?_⟩
    · rw [State.lineCommand_carriage (s := s.cleared) (b := true) h]
      exact State.carriageChanged_lost (s := s.cleared.carriageTaken true) rfl l idle st
    · exact ⟨rfl, rfl, rfl, rfl⟩
  · cases b with
    | true => exact congrArg Host.Outcome.next (State.event_eq (f := fun s => s.lineCommand .carriage true) (State.lineCommand_carriage_same (s := s.cleared) h) a)
    | false => exact congrArg Host.Outcome.next (State.event_eq (f := fun s => s.lineCommand .carriage false) (State.lineCommand_carriage_same (s := s.cleared) h) a)
  · refine congrArg Host.Outcome.next (State.event_eq (f := fun s => s.lineCommand .carriage false) ?_ a)
    rw [State.lineCommand_carriage (s := s.cleared) (b := false) h]
    exact State.carriageChanged_still (s := s.cleared.carriageTaken false) nofun st st'
  · refine congrArg Host.Outcome.next (State.event_eq (f := fun s => s.lineCommand .carriage false) ?_ a)
    rw [State.lineCommand_carriage (s := s.cleared) (b := false) h]
    exact State.carriageChanged_wiping (s := s.cleared.carriageTaken false) nofun run st l
  · have lost : (fun s : State => s.lineCommand .carriage false) s.cleared =
        ((s.cleared.carriageTaken false).post .stationLost r.chans.subject r.level.code 2).spitAbandoned.returnRunning :=
      (State.lineCommand_carriage (s := s.cleared) (b := false) h).trans (State.carriageChanged_spitting (s := s.cleared.carriageTaken false) nofun run st)
    obtain ⟨station, asking, idle, head, ink⟩ :=
      State.spitReturned (s := (s.cleared.carriageTaken false).post .stationLost r.chans.subject r.level.code 2) (r := r) run
    refine ⟨_, .of_frame (f := fun s => s.lineCommand .carriage false) rfl (lost.symm ▸ .refl _), station, asking, idle, head, fun room => ?_, ink⟩
    have quiet := State.returnRunning_quiet (State.spitAbandoned_quiet (.refl ((s.cleared.carriageTaken false).post .stationLost r.chans.subject r.level.code 2)))
    exact quiet.recsStand.subset (State.posted_room (s := s.cleared.carriageTaken false) room ..)

end Sys2Proof.Machine

/-! O49: the spit beats and the suction of a channel (R11, R88, R139, R143, R152). -/
namespace Sys2Proof.Machine

/-! ### The service data of a beat (R11, R139) -/

/-- The two bits of a nozzle in a spit byte. -/
def Nozzle.spitBits (z : Nozzle) : Nat := if z.st = .retired then 0 else 3

theorem Nozzle.spitBits_lt (z : Nozzle) : z.spitBits < 4 := by
  unfold Nozzle.spitBits
  split <;> decide

theorem spitByte_toNat (a b c d : Nozzle) :
    (spitByte [a, b, c, d]).toNat = a.spitBits + 4 * b.spitBits + 16 * c.spitBits + 64 * d.spitBits := by
  have term (z : Nozzle) (k : Nat) : (if z.st = .retired then 0 else 3 * 4 ^ k) = z.spitBits * 4 ^ k := by
    unfold Nozzle.spitBits
    split
    · exact (Nat.zero_mul _).symm
    · rfl
  have ha := a.spitBits_lt
  have hb := b.spitBits_lt
  have hc := c.spitBits_lt
  have hd := d.spitBits_lt
  simp only [spitByte, List.zipIdx_cons, List.zipIdx_nil, List.map_cons, List.map_nil, term, List.sum_cons, List.sum_nil, BitVec.toNat_ofNat]
  omega

theorem length_spitBytes (l : List Nozzle) : (spitBytes l).length = l.length / 4 := by
  induction l using spitBytes.induct with
  | case1 a b c d rest ih =>
    rw [spitBytes, List.length_cons, ih]
    simp only [List.length_cons]
    omega
  | case2 l h =>
    rcases l with _ | ⟨a, _ | ⟨b, _ | ⟨c, _ | ⟨d, rest⟩⟩⟩⟩
    case cons.cons.cons.cons => exact absurd rfl (h a b c d rest)
    all_goals simp [spitBytes]

/-- A nozzle's bits stand at its place in the spit bytes. -/
theorem bits_spitBytes {l : List Nozzle} {k : Nat} {z : Nozzle} (whole : l.length % 4 = 0) (h : l[k]? = some z) :
    byteAt (spitBytes l) (k / 4) / 4 ^ (k % 4) % 4 = z.spitBits := by
  induction l using spitBytes.induct generalizing k with
  | case1 a b c d rest ih =>
    rw [spitBytes]
    by_cases first : k < 4
    · have ha := a.spitBits_lt
      have hb := b.spitBits_lt
      have hc := c.spitBits_lt
      have hd := d.spitBits_lt
      have byte : byteAt (spitByte [a, b, c, d] :: spitBytes rest) (k / 4) = a.spitBits + 4 * b.spitBits + 16 * c.spitBits + 64 * d.spitBits := by
        rw [Nat.div_eq_of_lt first]
        exact spitByte_toNat a b c d
      rw [byte, Nat.mod_eq_of_lt first]
      rcases (by omega : k = 0 ∨ k = 1 ∨ k = 2 ∨ k = 3) with rfl | rfl | rfl | rfl <;> cases h <;> omega
    · obtain ⟨j, rfl⟩ : ∃ j, k = j + 4 := ⟨k - 4, by omega⟩
      rw [show (j + 4) / 4 = j / 4 + 1 by omega, show (j + 4) % 4 = j % 4 by omega]
      exact ih (by simpa [Nat.add_assoc] using whole) h
  | case2 l short =>
    rcases l with _ | ⟨a, _ | ⟨b, _ | ⟨c, _ | ⟨d, rest⟩⟩⟩⟩
    case nil => exact absurd h nofun
    case cons.cons.cons.cons => exact absurd rfl (short a b c d rest)
    all_goals simp at whole

theorem State.length_spitNozzles {s : State} {b : Fin 20} (h : (s.health.get (Chan.ofServiceOffset (64 * b.val))).nozzles.length = 1024) :
    (s.spitNozzles b).length = 256 := by
  rw [State.spitNozzles, List.length_take, List.length_drop, h]
  omega

theorem State.get_spitNozzles (s : State) (b : Fin 20) {k : Nat} (h : k < 256) :
    (s.spitNozzles b)[k]? = (s.health.get (Chan.ofServiceOffset (64 * b.val))).nozzles[4 * (64 * b.val % 256) + k]? := by
  rw [State.spitNozzles, List.getElem?_take_of_lt h, List.getElem?_drop]

theorem State.spitData_off {s : State} {b : Fin 20} (h : s.svc.station ≠ .spitting ∨ s.svc.spit.set.get (Chan.ofServiceOffset (64 * b.val)) = false) :
    s.spitData b = List.replicate 64 0 := by
  refine if_neg ?_
  rcases h with h | h <;> simp [h]

theorem State.spitData_on {s : State} {b : Fin 20} (st : s.svc.station = .spitting) (set : s.svc.spit.set.get (Chan.ofServiceOffset (64 * b.val)) = true) :
    s.spitData b = spitBytes (s.spitNozzles b) := if_pos (by simp [st, set])

/-- The nozzles of a segment that a predicate picks, counted by place. -/
theorem countP_take_drop (p : Nozzle → Bool) (l : List Nozzle) (n m : Nat) :
    ((l.drop n).take m).countP p = (List.range m).countP fun k => (l[n + k]?).any p := by
  induction m with
  | zero => rfl
  | succ m ih =>
    rw [List.take_add_one, List.countP_append, List.range_succ, List.countP_append, ih, List.getElem?_drop]
    cases here : l[n + m]? <;> simp [here]

/-! ### A spit beat counted (R139, R140) -/

section
variable {s : State} {b : Fin 20}

/-- The drops counted of a channel, with those of a beat. -/
def State.spitCounted (s : State) (b : Fin 20) : PerChan Nat :=
  let c := Chan.ofServiceOffset (64 * b.val)
  if s.svc.spit.set.get c = true then s.svc.spit.counted.set c (s.svc.spit.counted.get c + (s.spitNozzles b).countP fun z => z.st != .retired)
  else s.svc.spit.counted

theorem State.spitTest_off (h : s.svc.station ≠ .spitting ∨ s.svc.spit.mark ≠ 64 * b.val) : s.spitTest b = s := by
  refine if_neg ?_
  rcases h with h | h <;> simp [h]

variable (st : s.svc.station = .spitting) (mark : s.svc.spit.mark = 64 * b.val)
include st mark

theorem State.spitTest_counts : s.spitTest b = s.spitCount b := if_pos (by simp [st, mark])

theorem State.spitTest_beat (h : b.val < 19) :
    s.spitTest b = { s with svc := { s.svc with spit := { s.svc.spit with mark := s.svc.spit.mark + 64, counted := s.spitCounted b } } } := by
  rw [State.spitTest_counts st mark]
  refine (if_pos ?_).trans rfl
  change s.svc.spit.mark + 64 < 1280
  omega

/-- The state after the last beat of a pass, before channels leave the set. -/
def State.passEnded (s : State) (b : Fin 20) : State :=
  { s with svc := { s.svc with spit := { s.svc.spit with mark := 0, passes := s.svc.spit.passes + 1, counted := s.spitCounted b } } }

theorem State.spitTest_pass (h : b.val = 19) : s.spitTest b =
    if (s.passEnded b).passLeave.svc.spit.set.isEmpty then (s.passEnded b).passLeave.spitDebit.stepEnds else (s.passEnded b).passLeave := by
  rw [State.spitTest_counts st mark]
  refine (if_neg ?_).trans rfl
  change ¬ s.svc.spit.mark + 64 < 1280
  omega

end

theorem ChanSet.isEmpty_iff {cs : ChanSet} : cs.isEmpty = true ↔ ∀ c, cs.get c = false := by
  refine ⟨ChanSet.get_of_isEmpty, fun h => ?_⟩
  simp only [ChanSet.isEmpty, Bool.not_eq_true', List.any_eq_false]
  exact fun c _ => by rw [h c]; exact Bool.false_ne_true

theorem State.passLeave_none {s : State} (h : ∀ c, s.svc.spit.set.get c = true → s.svc.spit.passes < s.svc.spit.own.get c) : s.passLeave = s := by
  refine if_pos (ChanSet.isEmpty_iff.2 fun c => ?_)
  rw [PerChan.get_of]
  cases g : s.svc.spit.set.get c with
  | false => rfl
  | true => simpa using h c g

/-- A channel that has had its own passes has its timer restarted and is no longer stale. -/
theorem State.decap_passLeave {s : State} {c : Chan} (h : s.svc.spit.set.get c = true) (p : s.svc.spit.own.get c ≤ s.svc.spit.passes) :
    s.passLeave.svc.decap.get c = Decap.zero := by
  unfold State.passLeave
  extract_lets out stale t
  have leaves : out.get c = true := by
    change (PerChan.of fun c => _).get c = true
    rw [PerChan.get_of, h]
    simpa using p
  have zero : t.svc.decap.get c = Decap.zero := by
    change (State.modSvc s _).stir.svc.decap.get c = _
    rw [State.svc_stir, State.svc_modSvc]
    dsimp only
    rw [PerChan.get_of, if_pos leaves]
  rw [if_neg fun e => Bool.false_ne_true ((ChanSet.get_of_isEmpty e c).symm.trans leaves)]
  split <;> exact zero

theorem State.WipeFrame.decap {s t : State} (h : s.WipeFrame t) : t.svc.decap = s.svc.decap := by
  obtain ⟨⟨q, w, e, a, rfl⟩, -, -⟩ := h
  rfl

theorem State.decap_stepEnds (s : State) : s.stepEnds.svc.decap = s.svc.decap := (congrArg Service.decap s.steady_stepEnds :)

theorem State.decap_spitEnds (s : State) : s.spitDebit.stepEnds.svc.decap = s.svc.decap :=
  s.spitDebit.decap_stepEnds.trans s.wipeFrame_spitDebit.decap

/-- A spit beat read in UP with no read in hand. -/
theorem State.spitRead_up {s : State} (u : s.link.state = .up) (r : NoReads s) (b : Fin 20) :
    s.cleared.fetchOne (.spit b) = (s.afterRead .fetch (s.spanBase + 0x8000 + 64 * b.val) (s.spitData b)).spitTest b := by
  rw [State.fetchOne_up u r]
  exact congrArg (State.spitTest · b) (State.answer_atRead (fun _ => r) ..)

/-! ### A suction ends (R88, R143) -/

theorem State.chans_single (c d : Chan) : (ChanSet.single c).get d = decide (d = c) := PerChan.get_of _ d

/-- The ink after the prime debit of a channel. -/
def State.primed (s : State) (c : Chan) : PerChan InkChan := PerChan.of fun d =>
  if d = c then s.debitedChan true c ((s.chanProf c).primeVolume * pLPerUL) (s.ink.get c).servicePart else s.ink.get d

theorem State.primeDebit_frame (s : State) (c : Chan) : ∃ e a,
    s.debit true (ChanSet.single c) (s.primeVolumes (ChanSet.single c)) (PerChan.of fun c => (s.ink.get c).servicePart) =
      { s with ink := s.primed c, events := e, agenda := a } := by
  obtain ⟨e, a, h⟩ := s.debit_frame true (ChanSet.single c) (s.primeVolumes (ChanSet.single c)) (PerChan.of fun c => (s.ink.get c).servicePart)
  refine ⟨e, a, h.trans ?_⟩
  have ink : s.primed c = PerChan.of fun d => if (ChanSet.single c).get d = true then s.debitedChan true d
      ((s.primeVolumes (ChanSet.single c)).get d) ((PerChan.of fun c => (s.ink.get c).servicePart).get d) else s.ink.get d := by
    refine PerChan.ext_get fun d => ?_
    rw [State.primed, PerChan.get_of, PerChan.get_of, State.chans_single]
    by_cases e : d = c
    · subst e
      rw [if_pos rfl, if_pos (decide_eq_true rfl), State.primeVolumes, PerChan.get_of, PerChan.get_of, State.chans_single, if_pos (decide_eq_true rfl)]
    · rw [if_neg e, if_neg (by simpa using e)]
  rw [ink]

/-- The debit of the channel whose suction ends. -/
def State.suckedOut (s : State) (c : Chan) (rest : List Chan) (e : EventQueue) (a : List Reaction) : State :=
  { s with ink := s.primed c, events := e, agenda := a, svc := { s.svc with toSuck := rest } }

theorem State.suctionEndSteps_eq {s : State} {c : Chan} {rest : List Chan} (st : s.svc.station = .suction) (h : s.svc.toSuck = c :: rest) :
    ∃ e a, s.suctionEndSteps = if s.svc.stepEnd.returns || rest.isEmpty then (s.suckedOut c rest e a).stepEnds else (s.suckedOut c rest e a).suctionBegins := by
  obtain ⟨e, a, f⟩ := (s.modSvc fun v => { v with toSuck := rest }).primeDebit_frame c
  refine ⟨e, a, ?_⟩
  unfold State.suctionEndSteps
  rw [st, h]
  dsimp only
  rw [f]
  rfl

theorem State.suctionEndSteps_other {s : State} (h : s.svc.station ≠ .suction ∨ s.svc.toSuck = []) : s.suctionEndSteps = s := by
  unfold State.suctionEndSteps
  split
  next a b =>
    rcases h with h | h
    · exact absurd a h
    · exact absurd (b.symm.trans h) nofun
  next => rfl

theorem State.suctionEnds_other {s : State} (a : s.agenda = []) (h : s.svc.station ≠ .suction ∨ s.svc.toSuck = []) : s.suctionEnds = s := by
  obtain ⟨p, agenda⟩ := s
  subst a
  rw [State.suctionEnds, State.together, State.suctionEndSteps_other (by exact h)]
  rfl

/-- The next channel's suction: the pump starts anew and a refill run there ends. -/
theorem State.suctionBegins_frame (s : State) : ∃ k a, s.suctionBegins = { s with svc := { s.svc with motorMs := 0 }, ink := k, agenda := a } ∧
    ∀ c, (k.get c).level = (s.ink.get c).level ∧ (k.get c).servicePart = (s.ink.get c).servicePart := by
  unfold State.suctionBegins
  extract_lets t
  split
  next c _ _ =>
    unfold State.stopRun
    split
    · obtain ⟨a, f⟩ := (t.modInk c endRun).agendaFrame_stir
      refine ⟨_, a, f, fun d => ?_⟩
      rw [State.ink_modInk, PerChan.get_set]
      split
      next e => subst e; exact ⟨rfl, rfl⟩
      next => exact ⟨rfl, rfl⟩
    · exact ⟨_, _, rfl, fun _ => ⟨rfl, rfl⟩⟩
  next => exact ⟨_, _, rfl, fun _ => ⟨rfl, rfl⟩⟩

theorem State.toSuck_restCap (s : State) : s.restCap.svc.toSuck = s.svc.toSuck := by
  obtain ⟨a, h⟩ := s.agendaFrame_restCap
  rw [h]
  change s.capRested.svc.toSuck = _
  unfold State.capRested
  split <;> rfl

/-- A step whose request returns leaves nothing to suck. -/
theorem State.toSuck_stepEnds {s : State} (out : s.svc.stepEnd.outside = false) (ret : s.svc.stepEnd.returns = true) : s.stepEnds.svc.toSuck = [] := by
  unfold State.stepEnds
  extract_lets e t
  have back : t.returnRunning.svc.toSuck = [] := by rw [State.svc_returnRunning]; rfl
  rw [if_neg (by rw [out]; exact Bool.false_ne_true), if_pos ret]
  split
  · rw [State.toSuck_restCap]; exact back
  · exact back

theorem State.ink_stepEnds (s : State) : s.stepEnds.ink = s.stepEndInk := by
  obtain ⟨v, k, e, a, h, -⟩ := s.stepEnds_frame
  rw [h]

theorem State.get_serviceReleased (s : State) (c : Chan) : s.serviceReleased.ink.get c =
    { s.ink.get c with reserved := (s.ink.get c).reserved - (s.ink.get c).servicePart, servicePart := 0 } := PerChan.get_of _ c

theorem State.level_stepEnds (s : State) (c : Chan) : (s.stepEnds.ink.get c).level = (s.ink.get c).level := by
  rw [State.ink_stepEnds, State.stepEndInk]
  split
  · rw [State.get_serviceReleased]
  · rfl

theorem State.servicePart_stepEnds {s : State} {c : Chan} (h : (s.ink.get c).servicePart = 0) : (s.stepEnds.ink.get c).servicePart = 0 := by
  rw [State.ink_stepEnds, State.stepEndInk]
  split
  · rw [State.get_serviceReleased]
  · exact h

/-- What the end of a suction leaves of the ink and of the step. -/
theorem State.suctionEnded {s u : State} {c : Chan} {rest : List Chan} {e : EventQueue} {a : List Reaction} (st : s.svc.station = .suction)
    (h : u = if s.svc.stepEnd.returns || rest.isEmpty then (s.suckedOut c rest e a).stepEnds else (s.suckedOut c rest e a).suctionBegins) :
    (u.ink.get c).level = (s.ink.get c).level - min ((s.chanProf c).primeVolume * pLPerUL) (s.ink.get c).servicePart ∧
    (u.ink.get c).servicePart = 0 ∧ (∀ d, d ≠ c → (u.ink.get d).level = (s.ink.get d).level) ∧
    (rest ≠ [] → s.svc.stepEnd.returns = false → u.svc.station = .suction ∧ u.svc.toSuck = rest ∧ u.svc.motorMs = 0) ∧
    (s.svc.stepEnd.returns = true → s.svc.stepEnd.outside = false → u.svc.toSuck = [] ∧
      ∀ d, d ≠ c → (u.ink.get d).servicePart = 0 ∧ (u.ink.get d).reserved = (s.ink.get d).reserved - (s.ink.get d).servicePart) := by
  have own : (s.suckedOut c rest e a).ink.get c = s.debitedChan true c ((s.chanProf c).primeVolume * pLPerUL) (s.ink.get c).servicePart := by
    rw [State.suckedOut, State.primed, PerChan.get_of, if_pos rfl]
  have other (d : Chan) (hd : d ≠ c) : (s.suckedOut c rest e a).ink.get d = s.ink.get d := by
    rw [State.suckedOut, State.primed, PerChan.get_of, if_neg hd]
  have level : ((s.suckedOut c rest e a).ink.get c).level = (s.ink.get c).level - min ((s.chanProf c).primeVolume * pLPerUL) (s.ink.get c).servicePart := by
    rw [own]; rfl
  have part : ((s.suckedOut c rest e a).ink.get c).servicePart = 0 := by
    rw [own]
    exact Nat.sub_self _
  by_cases ends : (s.svc.stepEnd.returns || rest.isEmpty) = true
  · rw [if_pos ends] at h
    subst h
    refine ⟨(State.level_stepEnds _ c).trans level, State.servicePart_stepEnds part, fun d hd => (State.level_stepEnds _ d).trans (by rw [other d hd]),
      fun more go => ?_, fun ret inside => ⟨State.toSuck_stepEnds inside ret, fun d hd => ?_⟩⟩
    · rw [go, Bool.false_or, List.isEmpty_iff] at ends
      exact absurd ends more
    · rw [State.ink_stepEnds, State.stepEndInk, if_pos (by exact ⟨inside, ret⟩), State.get_serviceReleased, other d hd]
      exact ⟨rfl, rfl⟩
  · rw [if_neg ends] at h
    subst h
    obtain ⟨k, b, frame, same⟩ := (s.suckedOut c rest e a).suctionBegins_frame
    rw [frame]
    refine ⟨(same c).1.trans level, (same c).2.trans part, fun d hd => (same d).1.trans (by rw [other d hd]), fun _ _ => ⟨st, rfl, rfl⟩, fun ret => ?_⟩
    exact absurd (by rw [ret]; rfl) ends

end Sys2Proof.Machine

section
open Sys2Proof Sys2Proof.Machine

/-- The nozzles counted as the statement counts them. -/
theorem spitDrops_eq (s : State) (b : Fin 20) :
    ((List.range 256).countP fun k => match (s.health.get (Chan.ofServiceOffset (64 * b.val))).nozzles[4 * (64 * b.val % 256) + k]? with
      | some z => decide (z.st ≠ .retired)
      | none => false) = (s.spitNozzles b).countP fun z => z.st != .retired := by
  rw [State.spitNozzles, countP_take_drop]
  refine List.countP_congr fun k _ => ?_
  cases (s.health.get (Chan.ofServiceOffset (64 * b.val))).nozzles[4 * (64 * b.val % 256) + k]? with
  | none => exact Iff.rfl
  | some z => simp

/-- Settles O49, the beats of a pass by the place of a nozzle among them, the suction by the frames of its debit and of the end of the step. -/
theorem spitAndSuction : Obligations.SpitAndSuction := by
  refine ⟨fun s b mem g r => ?_, fun s => ⟨fun c rest st h => ?_, fun a h => ?_⟩⟩
  · intro addr p c n counted reads
    have count : counted = s.spitCounted b := by
      change (if p.set.get c = true then p.counted.set c (p.counted.get c + n) else p.counted) = _
      rw [show n = _ from spitDrops_eq s b]
      rfl
    have read {v : Service} (e : (s.afterRead .fetch addr (s.spitData b)).spitTest b = { s.afterRead .fetch addr (s.spitData b) with svc := v }) : reads v :=
      congrArg Host.Outcome.next (State.event_eq (f := fun s => s.fetchOne (.spit b)) ((State.spitRead_up g.up r b).trans e) g.agenda)
    rw [count]
    refine ⟨fun st => ⟨State.spitData_off (.inl st), read (State.spitTest_off (.inl st))⟩, fun _ set => State.spitData_off (.inr set),
      fun st set full => ?_, fun st mark => read (State.spitTest_off (.inr mark)), fun st mark => ⟨fun early => read (State.spitTest_beat st mark early),
      fun last some all => read ?_, fun last => ⟨_, .own (f := fun s => s.fetchOne (.spit b)) rfl, fun d set own => ?_⟩⟩⟩
    · rw [State.spitData_on st set]
      have len := State.length_spitNozzles full
      refine ⟨by rw [length_spitBytes, len], fun k hk => ?_⟩
      have here : k < (s.spitNozzles b).length := by rw [len]; exact hk
      refine ⟨(s.spitNozzles b)[k], ?_, bits_spitBytes (by rw [len]) (List.getElem?_eq_getElem here)⟩
      rw [← State.get_spitNozzles s b hk]
      exact List.getElem?_eq_getElem here
    · rw [State.spitTest_pass (s := s.afterRead .fetch addr (s.spitData b)) st mark last,
        State.passLeave_none (s := (s.afterRead .fetch addr (s.spitData b)).passEnded b) all]
      refine if_neg fun e => ?_
      obtain ⟨d, hd⟩ := some
      exact Bool.false_ne_true ((ChanSet.get_of_isEmpty e d).symm.trans hd)
    · have zero : ((s.cleared.fetchOne (.spit b)).svc.decap.get d) = Decap.zero := by
        rw [State.spitRead_up g.up r b, State.spitTest_pass (s := s.afterRead .fetch addr (s.spitData b)) st mark last]
        have left := State.decap_passLeave (s := (s.afterRead .fetch addr (s.spitData b)).passEnded b) set own
        split
        · rw [State.decap_spitEnds]; exact left
        · exact left
      change (State.svc (s.cleared.fetchOne (.spit b)) |>.decap.get d).stale = false ∧ _
      rw [zero]
      exact ⟨rfl, rfl, rfl⟩
  · obtain ⟨e, a, f⟩ := State.suctionEndSteps_eq (s := { s.cleared with agenda := [] }) st h
    refine ⟨State.suctionEndSteps { s.cleared with agenda := [] }, .of_frame (f := State.suctionEnds) rfl ⟨_, rfl⟩, ?_⟩
    exact State.suctionEnded (s := { s.cleared with agenda := [] }) st f
  · exact congrArg Host.Outcome.next (State.event_eq (State.suctionEnds_other (s := s.cleared) a h) a)

end

/-! O45 and O50: what an offer does to the queue of requests, SERVICE_NOW, the decap and idle timers (R133, R146, R147, R149, R150). -/
namespace Sys2Proof.Machine

/-! ### An offer by what it meets in the queue (R133) -/

/-- A new request. -/
def ServiceReq.new (level : Level) (cs : ChanSet) (flow : Bool) : ServiceReq := { level := level, chans := cs, flow := flow, started := false, state := .queued }

/-- The queue without the requests opposed to a new one. -/
def unopposed (level : Level) (q : List ServiceReq) : List ServiceReq :=
  match opposed level with
  | some o => q.filter fun r => !(r.level == o && r.state == .queued)
  | none => q

/-- The state with a queue of requests. -/
def State.withQueue (s : State) (q : List ServiceReq) : State := s.modSvc fun v => { v with queue := q }

section
variable {s : State} {level : Level} {cs : ChanSet} {flow : Bool}

/-- Two states of an offer: how it was taken, and what it leaves up to the agenda. -/
def State.Offers (s : State) (level : Level) (cs : ChanSet) (flow : Bool) (r : OfferResult) (u : State) : Prop :=
  (s.offer level cs flow).1 = r ∧ u.AgendaFrame (s.offer level cs flow).2

theorem State.agendaFrame_taken (s : State) (level : Level) (q : List ServiceReq) : (s.withQueue q).AgendaFrame
    ((s.modSvc fun v => { v with queue := q }).stirWalk.wake (if level = .cap then [.uncap, .evalFront] else [.evalFront])) :=
  (State.agendaFrame_stirWalk _).trans (State.agendaFrame_wake _ _)

/-- A request that is wholly absorbed. -/
theorem State.offer_absorbed {left : ChanSet} (h : absorbNew s.prof.flow.midSheetWipe level flow (unopposed level s.svc.queue) cs = (left, true)) :
    s.Offers level cs flow .absorbed (s.withQueue (unopposed level s.svc.queue)) := by
  unfold State.Offers State.offer
  extract_lets mid q0 done
  rw [show absorbNew mid level flow q0 cs = (left, true) from h]
  exact ⟨rfl, s.agendaFrame_taken level q0⟩

variable (h : absorbNew s.prof.flow.midSheetWipe level flow (unopposed level s.svc.queue) cs = (cs, false))
include h

/-- A request that merges whole with one of the queue. -/
theorem State.offer_merged {i : Nat} {r : ServiceReq} (m : mergeTarget (unopposed level s.svc.queue) level = some i) (hr : (unopposed level s.svc.queue)[i]? = some r) :
    s.Offers level cs flow .merged (s.withQueue (absorbOld s.prof.flow.midSheetWipe i level (r.chans.union cs) 0
      ((unopposed level s.svc.queue).modify i fun r => { r with chans := r.chans.union cs, flow := r.flow && flow }))) := by
  unfold State.Offers State.offer
  extract_lets mid q0 done
  rw [show absorbNew mid level flow q0 cs = (cs, false) from h]
  dsimp only
  rw [show mergeTarget q0 level = some i from m]
  have all : (q0.modify i fun r => { r with chans := r.chans.union cs, flow := r.flow && flow })[i]? =
      some { r with chans := r.chans.union cs, flow := r.flow && flow } := by
    rw [List.getElem?_modify, show q0[i]? = some r from hr]
    simp
  dsimp only
  rw [all]
  exact ⟨rfl, s.agendaFrame_taken level _⟩

variable (m : mergeTarget (unopposed level s.svc.queue) level = none)
include m

/-- A request that enters the queue. -/
theorem State.offer_entered (room : (unopposed level s.svc.queue).length < 8) : s.Offers level cs flow .entered (s.withQueue
      (absorbOld s.prof.flow.midSheetWipe (unopposed level s.svc.queue).length level cs 0 (unopposed level s.svc.queue ++ [.new level cs flow]))) := by
  unfold State.Offers State.offer
  extract_lets mid q0 done
  rw [show absorbNew mid level flow q0 cs = (cs, false) from h]
  dsimp only
  rw [show mergeTarget q0 level = none from m]
  dsimp only
  rw [if_neg Bool.false_ne_true, if_pos (show q0.length < 8 from room), if_pos rfl]
  exact ⟨rfl, s.agendaFrame_taken level _⟩

/-- A request that finds the queue full. -/
theorem State.offer_refused (full : 8 ≤ (unopposed level s.svc.queue).length) : s.offer level cs flow =
    (.refused, (s.withQueue (unopposed level s.svc.queue)).post .serviceQueueFull cs.subject level.code cs.mask) := by
  unfold State.offer
  extract_lets mid q0 done
  rw [show absorbNew mid level flow q0 cs = (cs, false) from h]
  dsimp only
  rw [show mergeTarget q0 level = none from m]
  dsimp only
  rw [if_neg Bool.false_ne_true, if_neg (Nat.not_lt.2 (show 8 ≤ q0.length from full))]
  rfl

end

/-! ### A queue that meets nothing of an offer (R133) -/

theorem absorbNew_none {mid : Bool} {level : Level} {flow : Bool} {q : List ServiceReq} (cs : ChanSet)
    (h : ∀ r ∈ q, r.state = .queued → absorbs mid r.level level flow = false) : absorbNew mid level flow q cs = (cs, false) := by
  induction q with
  | nil => rfl
  | cons r q ih =>
    unfold absorbNew
    rw [if_neg, ih fun x m => h x (List.mem_cons_of_mem _ m)]
    simp only [Bool.and_eq_true, decide_eq_true_eq]
    exact fun g => Bool.false_ne_true ((h r List.mem_cons_self g.1).symm.trans g.2)

theorem mergeTarget_none {q : List ServiceReq} {level : Level} (h : ∀ r ∈ q, r.state = .queued → r.level = level → r.started = true) :
    mergeTarget q level = none := by
  refine List.find?_eq_none.2 fun i _ => ?_
  cases hr : q[i]? with
  | none => exact Bool.false_ne_true
  | some r =>
    simp only [Bool.and_eq_true, beq_iff_eq, Bool.not_eq_true']
    exact fun g => Bool.false_ne_true (g.2.symm.trans (h r (List.mem_of_getElem? hr) g.1.2 g.1.1))

/-- The queue keeps what a new request does not absorb. -/
theorem absorbOld_keeps {mid : Bool} {pos : Nat} {big : Level} {cs : ChanSet} {q : List ServiceReq} (i : Nat)
    (h : ∀ j r, q[j]? = some r → i + j = pos ∨ (r.state ≠ .running → absorbs mid big r.level r.flow = false)) : absorbOld mid pos big cs i q = q := by
  induction q generalizing i with
  | nil => rfl
  | cons r q ih =>
    have rest := ih (i + 1) fun j x hx => by
      have := h (j + 1) x hx
      rwa [show i + 1 + j = i + (j + 1) by omega]
    unfold absorbOld
    dsimp only
    rw [rest, if_neg]
    simp only [Bool.and_eq_true, decide_eq_true_eq]
    rintro ⟨⟨pos, st⟩, big⟩
    rcases h 0 r rfl with g | g
    · exact pos g
    · exact Bool.false_ne_true ((g st).symm.trans big)

section
variable {s : State} {level : Level} (h : s.apart level)
include h

theorem State.unopposed_apart : unopposed level s.svc.queue = s.svc.queue := by
  unfold unopposed
  split
  next o ho =>
    refine List.filter_eq_self.2 fun r m => ?_
    rw [Bool.not_eq_true', Bool.and_eq_false_iff]
    by_cases e : r.level = o
    · refine .inr (beq_eq_false_iff_ne.2 fun q => ?_)
      exact (((h r m).1 q).2.2) (ho.trans (congrArg some e.symm))
    · exact .inl (beq_eq_false_iff_ne.2 e)
  next => rfl

theorem State.absorbNew_apart (cs : ChanSet) : absorbNew s.prof.flow.midSheetWipe level false (unopposed level s.svc.queue) cs = (cs, false) := by
  rw [State.unopposed_apart h]
  exact absorbNew_none cs fun r m q => ((h r m).1 q).2.1

theorem State.mergeTarget_apart : mergeTarget (unopposed level s.svc.queue) level = none := by
  rw [State.unopposed_apart h]
  exact mergeTarget_none fun r m q => ((h r m).1 q).1

theorem State.offer_apart (cs : ChanSet) (room : s.svc.queue.length < 8) :
    s.Offers level cs false .entered (s.withQueue (s.svc.queue ++ [.new level cs false])) := by
  have e := State.offer_entered (State.absorbNew_apart h cs) (State.mergeTarget_apart h) (by rw [State.unopposed_apart h]; exact room)
  rw [State.unopposed_apart h, absorbOld_keeps] at e
  · exact e
  · intro j r hr
    rw [Nat.zero_add]
    rcases Nat.lt_or_ge j s.svc.queue.length with lt | ge
    · rw [List.getElem?_append_left lt] at hr
      exact .inr (h r (List.mem_of_getElem? hr)).2
    · refine .inl ?_
      have := List.getElem?_eq_some_iff.1 hr
      obtain ⟨lt, -⟩ := this
      rw [List.length_append] at lt
      exact Nat.le_antisymm (Nat.lt_succ_iff.1 lt) ge

theorem State.offer_apart_full (cs : ChanSet) (full : 8 ≤ s.svc.queue.length) :
    s.offer level cs false = (.refused, s.post .serviceQueueFull cs.subject level.code cs.mask) := by
  have e := State.offer_refused (State.absorbNew_apart h cs) (State.mergeTarget_apart h) (by rw [State.unopposed_apart h]; exact full)
  rw [State.unopposed_apart h] at e
  exact e

end

theorem State.apart_of_empty {s : State} (h : s.svc.queue = []) (level : Level) : s.apart level := fun r m => by
  rw [h] at m
  exact absurd m List.not_mem_nil

/-! ### An offer to a queue of one (R133) -/

theorem absorbs_self (mid : Bool) (level : Level) (flow : Bool) : absorbs mid level level flow = false := by cases level <;> rfl

theorem opposed_ne_self (level : Level) : opposed level ≠ some level := by cases level <;> decide

theorem unopposed_one {level : Level} {r : ServiceReq} (h : opposed level ≠ some r.level) : unopposed level [r] = [r] := by
  unfold unopposed
  split
  next o ho =>
    refine List.filter_eq_self.2 fun x m => ?_
    rw [List.mem_singleton.1 m]
    simpa using .inl fun e => h (ho.trans (congrArg some e.symm))
  next => rfl

theorem mergeTarget_one {r : ServiceReq} (st : r.state = .queued) (new : r.started = false) : mergeTarget [r] r.level = some 0 := by
  have step : mergeTarget [r] r.level = [0].find? fun i =>
      match [r][i]? with
      | some x => x.level == r.level && x.state == .queued && !x.started
      | none => false := rfl
  rw [step, List.find?_cons_of_pos]
  simp [st, new]

section
variable {s : State} {r : ServiceReq} (hq : s.svc.queue = [r]) (st : r.state = .queued) {level : Level} {cs : ChanSet}
include hq st

theorem State.offer_one_merges (lv : r.level = level) (new : r.started = false) :
    s.Offers level cs false .merged (s.withQueue [{ r with chans := r.chans.union cs, flow := false }]) := by
  subst lv
  have q := unopposed_one (opposed_ne_self r.level)
  have e := State.offer_merged (s := s) (level := r.level) (cs := cs) (flow := false) (i := 0) (r := r) (by
    rw [hq, q]
    exact absorbNew_none cs fun x m _ => by rw [List.mem_singleton.1 m]; exact absorbs_self ..) (by rw [hq, q]; exact mergeTarget_one st new) (by rw [hq, q]; rfl)
  rw [hq, q, absorbOld_keeps] at e
  · rw [List.modify_zero_cons, Bool.and_false] at e
    exact e
  · intro j x hx
    rcases j with _ | j
    · exact .inl rfl
    · exact absurd hx nofun

theorem State.offer_one_absorbed (lv : absorbs s.prof.flow.midSheetWipe r.level level false = true) (op : opposed level ≠ some r.level)
    (covered : level = .wipe ∨ ∀ c, cs.get c = true → r.chans.get c = true) : s.Offers level cs false .absorbed (s.withQueue [r]) := by
  have q := unopposed_one op
  have done : ∃ left, absorbNew s.prof.flow.midSheetWipe level false (unopposed level s.svc.queue) cs = (left, true) := by
    rw [hq, q]
    unfold absorbNew
    rw [if_pos (by rw [lv, st]; rfl)]
    rcases covered with w | sub
    · exact ⟨cs, if_pos w⟩
    · split
      · exact ⟨cs, rfl⟩
      · refine ⟨cs, if_pos (ChanSet.isEmpty_iff.2 fun c => ?_)⟩
        rw [ChanSet.minus, PerChan.get_of]
        cases g : cs.get c with
        | false => rfl
        | true => rw [sub c g]; rfl
  obtain ⟨left, done⟩ := done
  have e := State.offer_absorbed done
  rwa [hq, q] at e

theorem State.offer_one_opposed (op : opposed level = some r.level) : s.Offers level cs false .entered (s.withQueue [.new level cs false]) := by
  have q : unopposed level s.svc.queue = [] := by
    unfold unopposed
    rw [op, hq]
    exact List.filter_cons_of_neg (by simp [st])
  have e := State.offer_entered (s := s) (level := level) (cs := cs) (flow := false) (by rw [q]; rfl) (by rw [q]; rfl) (by rw [q]; decide)
  rwa [q, List.nil_append, absorbOld_keeps] at e
  intro j x hx
  rcases j with _ | j
  · exact .inl rfl
  · exact absurd hx nofun

theorem State.offer_one_absorbs (lv : absorbs s.prof.flow.midSheetWipe level r.level r.flow = true)
    (covered : r.level = .wipe ∨ ∀ c, r.chans.get c = true → cs.get c = true) : s.Offers level cs false .entered (s.withQueue [.new level cs false]) := by
  have big : opposed level ≠ some r.level ∧ r.level ≠ level ∧ absorbs s.prof.flow.midSheetWipe r.level level false = false := by
    revert lv
    cases level <;> cases r.level <;> simp [absorbs, opposed]
  obtain ⟨op, other, back⟩ := big
  have q := unopposed_one op
  have e := State.offer_entered (s := s) (level := level) (cs := cs) (flow := false)
    (by rw [hq, q]; exact absorbNew_none cs fun x m _ => by rw [List.mem_singleton.1 m]; exact back)
    (by rw [hq, q]; exact mergeTarget_none fun x m _ g => absurd (List.mem_singleton.1 m ▸ g) other) (by rw [hq, q]; exact (by decide : 1 < 8))
  have gone : absorbOld s.prof.flow.midSheetWipe 1 level cs 0 [r, .new level cs false] = [.new level cs false] := by
    have kept : absorbOld s.prof.flow.midSheetWipe 1 level cs 1 [.new level cs false] = [.new level cs false] := absorbOld_keeps 1 fun j x hx => by
      rcases j with _ | j
      · exact .inl rfl
      · exact absurd hx nofun
    unfold absorbOld
    dsimp only
    rw [kept, if_pos (by rw [lv, st]; rfl), if_pos]
    rw [Bool.or_eq_true, decide_eq_true_eq]
    refine covered.imp id fun sub => ChanSet.isEmpty_iff.2 fun c => ?_
    rw [ChanSet.minus, PerChan.get_of]
    cases g : r.chans.get c with
    | false => rfl
    | true => rw [sub c g]; rfl
  rw [hq, q] at e
  exact gone ▸ e

end

/-! ### SERVICE_NOW (R150) -/

/-- The answer that the result of an offer gives. -/
def OfferResult.answer : OfferResult → ResultCode × Nat
  | .entered => (.done, 0)
  | .merged => (.done, 1)
  | .absorbed => (.done, 2)
  | .refused => (.busy, 8)

theorem Level.ofCode_code (level : Level) : Level.ofCode? level.code = some level := by cases level <;> rfl

theorem Level.ofCode_eq_none {v : Nat} (h : v = 0 ∨ 6 < v) : Level.ofCode? v = none := by
  unfold Level.ofCode?
  split <;> first | omega | rfl

section
variable {s : State} {b : List Byte}

theorem State.doServiceNow_no_level (h : byteAt b 0 = 0 ∨ 6 < byteAt b 0) : s.doServiceNow b = ⟨.invalid, 1, s⟩ := by
  unfold State.doServiceNow
  rw [show Level.ofCode? (bodyFirst b) = none from Level.ofCode_eq_none h]

variable {level : Level} (h : byteAt b 0 = level.code)
include h

theorem State.doServiceNow_no_chans (g : ¬ (byteAt b 1 ≠ 0 ∧ byteAt b 1 ≤ 31)) : s.doServiceNow b = ⟨.invalid, 2, s⟩ := by
  unfold State.doServiceNow
  rw [show Level.ofCode? (bodyFirst b) = some level from (congrArg _ h).trans level.ofCode_code]
  refine if_pos ?_
  rw [Bool.not_eq_true', ← Bool.not_eq_true, validChans_iff]
  exact g

theorem State.doServiceNow_offers (g : byteAt b 1 ≠ 0 ∧ byteAt b 1 ≤ 31) : s.doServiceNow b =
    ⟨(s.offer level (ChanSet.ofMask (byteAt b 1)) false).1.answer.1, (s.offer level (ChanSet.ofMask (byteAt b 1)) false).1.answer.2,
      (s.offer level (ChanSet.ofMask (byteAt b 1)) false).2⟩ := by
  unfold State.doServiceNow
  rw [show Level.ofCode? (bodyFirst b) = some level from (congrArg _ h).trans level.ofCode_code]
  refine (if_neg ?_).trans ?_
  · rw [Bool.not_eq_true', ← Bool.not_eq_true, Classical.not_not]
    exact (validChans_iff _).2 g
  · change (match s.offer level (ChanSet.ofMask (byteAt b 1)) false with | (.entered, s') => _ | (.merged, s') => _ | (.absorbed, s') => _ | (.refused, s') => _) = _
    rcases s.offer level (ChanSet.ofMask (byteAt b 1)) false with ⟨res, t⟩
    cases res <;> rfl

end

theorem ChanSet.mask_ofMask {v : Nat} (h : v ≤ 31) : (ChanSet.ofMask v).mask = v := by
  have all : ∀ v ≤ 31, (ChanSet.ofMask v).mask = v := by decide
  exact all v h

/-- The effect of a SERVICE_NOW whose offer is known. -/
theorem Effects.serviceNow {s : State} {w : WriteBeat} (h : s.takesTrigger w) (up : s.link.state = .up) {level : Level} (hl : byteAt s.mail.body 0 = level.code)
    (g : byteAt s.mail.body 1 ≠ 0 ∧ byteAt s.mail.body 1 ≤ 31) {r : OfferResult} {q : List ServiceReq}
    (o : (s.atDirective w).Offers level (ChanSet.ofMask (byteAt s.mail.body 1)) false r ((s.atDirective w).withQueue q)) :
    Effects (.serviceNow w) s { s.afterDirective w 10 r.answer.1 r.answer.2 with svc := { s.svc with queue := q } } := by
  obtain ⟨res, frame⟩ := o
  have e := State.doServiceNow_offers (s := s.atDirective w) (b := s.mail.body) hl g
  rw [res] at e
  exact Effects.of_directive_frame h up 10 (fun s => s.doServiceNow s.mail.body) rfl e frame

/-- Settles O45. -/
theorem serviceNow : Obligations.ServiceNow := by
  intro s w up h b
  refine ⟨fun r hb => ?_, fun level hl => ?_⟩
  · exact congrArg Host.Outcome.next (State.directive_answers h ⟨up, r⟩ 10 (fun s => s.doServiceNow s.mail.body) _ _ (State.doServiceNow_no_level hb))
  intro cs good new takes
  refine ⟨fun r bad => ?_, fun g ap => ⟨fun room => ?_, fun r full => ?_⟩,
    fun x g hq st => ⟨fun lv fresh => ?_, fun lv sm cov => ?_, fun op => ?_, fun lv cov => ?_⟩⟩
  · exact congrArg Host.Outcome.next (State.directive_answers h ⟨up, r⟩ 10 (fun s => s.doServiceNow s.mail.body) _ _ (State.doServiceNow_no_chans hl bad))
  · exact Effects.serviceNow h up hl g (State.offer_apart (s := s.atDirective w) ap _ room)
  · have e := State.doServiceNow_offers (s := s.atDirective w) (b := s.mail.body) hl g
    rw [State.offer_apart_full (s := s.atDirective w) ap _ full, ChanSet.mask_ofMask g.2] at e
    exact congrArg Host.Outcome.next (State.directive_next h ⟨up, r⟩ 10 (fun s => s.doServiceNow s.mail.body) e rfl r)
  · exact Effects.serviceNow h up hl g (State.offer_one_merges (s := s.atDirective w) hq st lv fresh)
  · refine Effects.serviceNow h up hl g (State.offer_one_absorbed (s := s.atDirective w) hq st ?_ ?_ cov)
    · rw [lv]; rcases sm with rfl | rfl | rfl <;> rfl
    · rcases sm with rfl | rfl | rfl <;> exact nofun
  · exact Effects.serviceNow h up hl g (State.offer_one_opposed (s := s.atDirective w) hq st op)
  · exact Effects.serviceNow h up hl g (State.offer_one_absorbs (s := s.atDirective w) hq st lv cov)

end Sys2Proof.Machine

/-! O50: the decap timers and the idle timer (R146, R147, R149). -/
namespace Sys2Proof.Machine

/-! ### A decap timer expires (R146, R147) -/

/-- A decap timer at its limit. -/
def State.decapDone (s : State) (c : Chan) : State :=
  s.modSvc fun v => { v with decap := v.decap.set c { ms := s.decapLimitMs c, expired := true, stale := true } }

theorem State.decapRuns_iff (s : State) (c : Chan) : s.decapRuns c = true ↔ s.svc.cap = .opened ∧ (s.svc.decap.get c).expired = false := by
  rw [State.decapRuns, Bool.and_eq_true, beq_iff_eq, Bool.not_eq_true']

theorem State.decapExpires_off {s : State} {c : Chan} (h : ¬ (s.svc.cap = .opened ∧ (s.svc.decap.get c).expired = false)) : s.decapExpires c = s :=
  if_neg fun g => h ((s.decapRuns_iff c).1 g)

section
variable {s : State} {c : Chan} (h : s.svc.cap = .opened ∧ (s.svc.decap.get c).expired = false)
include h

theorem State.decapExpires_needed (p : s.prof.flow.spitPolicy = .needed) : (s.decapDone c).AgendaFrame (s.decapExpires c) := by
  unfold State.decapExpires
  rw [if_pos ((s.decapRuns_iff c).2 h)]
  extract_lets stale owed t u
  have same : u = t :=
    if_neg (by rw [show t.prof.flow.spitPolicy = _ from p]; decide)
  rw [same]
  split
  · exact State.agendaFrame_stir _
  · exact (State.agendaFrame_stir _).trans (State.agendaFrame_wake _ _)

theorem State.decapExpires_any (p : s.prof.flow.spitPolicy = .any) :
    (((s.decapDone c).offerStaleSpit (ChanSet.single c)).offerStaleSpit (s.owedStale.minus (ChanSet.single c))).AgendaFrame (s.decapExpires c) := by
  unfold State.decapExpires
  rw [if_pos ((s.decapRuns_iff c).2 h)]
  extract_lets stale owed t u
  have same : u = (t.offerStaleSpit (ChanSet.single c)).offerStaleSpit owed := if_pos p
  rw [same]
  split
  · exact State.agendaFrame_stir _
  · exact (State.agendaFrame_stir _).trans (State.agendaFrame_wake _ _)

end

/-- An offer of a stale spit moves no decap timer. -/
theorem State.decap_offerStaleSpit (s : State) (cs : ChanSet) : (s.offerStaleSpit cs).svc.decap = s.svc.decap := by
  have kept : (s.offer .spit cs false).2.svc.decap = s.svc.decap := by
    obtain ⟨q, a, e, h⟩ := s.offer_frame .spit cs false
    rw [h]
  unfold State.offerStaleSpit
  split
  · rfl
  · split
    next e => rw [e] at kept; exact kept
    next e => rw [e] at kept; exact kept

/-- A stale spit offered to an empty queue enters it. -/
theorem State.queue_offerStaleSpit {s : State} {cs : ChanSet} (h : s.svc.queue = []) (some : cs.isEmpty = false) :
    (s.offerStaleSpit cs).svc.queue = [.new .spit cs false] := by
  obtain ⟨res, a, frame⟩ := State.offer_apart (State.apart_of_empty h .spit) cs (by rw [h]; decide)
  have queue : (s.offer .spit cs false).2.svc.queue = [.new .spit cs false] := by
    rw [frame]
    change s.svc.queue ++ [.new .spit cs false] = _
    rw [h]
    rfl
  unfold State.offerStaleSpit
  rw [if_neg (by rw [some]; exact Bool.false_ne_true)]
  split
  next e =>
    rw [e] at res
    exact absurd res nofun
  next e => rw [e] at queue; exact queue

theorem State.offerStaleSpit_none {s : State} {cs : ChanSet} (h : cs.isEmpty = true) : s.offerStaleSpit cs = s := if_pos h

theorem ChanSet.single_not_empty (c : Chan) : (ChanSet.single c).isEmpty = false := by cases c <;> decide

/-! ### The idle timer (R149) -/

theorem State.anySlot_iff (s : State) (p : Slot → Bool) : s.anySlot p = true ↔ ∃ i, p (s.slot i) = true := by
  rw [State.anySlot, List.any_eq_true]
  constructor
  · rintro ⟨k, m, h⟩
    obtain ⟨i, hi, e⟩ := Vector.getElem_of_mem (Vector.mem_toList_iff.1 m)
    exact ⟨⟨i, hi⟩, by rw [show s.slot ⟨i, hi⟩ = k from e]; exact h⟩
  · rintro ⟨i, h⟩
    exact ⟨s.slot i, Vector.mem_toList_iff.2 (Vector.getElem_mem i.isLt), h⟩

theorem State.anySlot_inHand_eq_false (s : State) : s.anySlot Slot.inHand = false ↔ ∀ i, (s.slot i).st ≠ .admitted ∧ (s.slot i).st ≠ .firing := by
  have any : s.anySlot Slot.inHand = true ↔ ∃ i, Slot.inHand (s.slot i) = true := s.anySlot_iff _
  rw [← Bool.not_eq_true, any]
  simp [Slot.inHand]

theorem State.idleCounts_iff (s : State) : s.idleCounts = true ↔
    s.svc.station = .uncapped ∧ (∀ i, (s.slot i).st ≠ .admitted ∧ (s.slot i).st ≠ .firing) ∧ ∀ r ∈ s.svc.queue, r.state ≠ .running := by
  rw [State.idleCounts, Bool.and_eq_true, Bool.and_eq_true, beq_iff_eq, Bool.not_eq_true', State.anySlot_inHand_eq_false, Option.isNone_iff_eq_none,
    State.running?_eq_none_iff, and_assoc]

/-- The state after the offer of a CAP at the end of the idle time. -/
def State.capOffered (s : State) : State :=
  let at_ := max s.svc.idleMs (s.prof.flow.idleCap * 1000)
  let t := (s.offer .cap ChanSet.empty false).2
  (if t.svc.capWantedPosted then t else t.post .capWanted 0xFF at_ 0).modSvc fun v => { v with idleMs := 0, capWantedPosted := true }

theorem State.idleExpires_off {s : State} (h : s.idleCounts = false) : s.idleExpires = s := if_neg (by rw [h]; exact Bool.false_ne_true)

theorem State.agendaFrame_idleExpires {s : State} (h : s.idleCounts = true) : s.capOffered.AgendaFrame s.idleExpires := by
  unfold State.idleExpires
  rw [if_pos h]
  exact State.agendaFrame_stir _

theorem State.idleMs_capOffered (s : State) : s.capOffered.svc.idleMs = 0 := rfl

theorem State.capOffered_empty {s : State} (h : s.svc.queue = []) : s.capOffered.svc.queue = [.new .cap ChanSet.empty false] ∧
    s.capOffered.events = if s.svc.capWantedPosted = true then s.events else s.posted .capWanted 0xFF (max s.svc.idleMs (s.prof.flow.idleCap * 1000)) 0 := by
  obtain ⟨-, a, frame⟩ := State.offer_apart (State.apart_of_empty h .cap) ChanSet.empty (by rw [h]; decide)
  unfold State.capOffered
  rw [frame]
  have queue : (s.withQueue (s.svc.queue ++ [.new .cap ChanSet.empty false])).svc.queue = [.new .cap ChanSet.empty false] := by
    change s.svc.queue ++ [.new .cap ChanSet.empty false] = _
    rw [h]
    rfl
  dsimp only
  by_cases posted : s.svc.capWantedPosted = true
  · rw [if_pos posted, if_pos (by exact posted)]
    exact ⟨queue, rfl⟩
  · rw [if_neg posted, if_neg (by exact posted)]
    exact ⟨queue, rfl⟩

/-- Settles O50. -/
theorem decapAndIdle : Obligations.DecapAndIdle := by
  refine ⟨fun s c => ?_, fun s => ?_⟩
  · intro d runs
    refine ⟨fun h p => .of_frame (f := fun s => s.decapExpires c) rfl (State.decapExpires_needed (s := s.cleared) h p), fun h p => ?_,
      fun a h => congrArg Host.Outcome.next (State.event_still a (State.decapExpires_off (s := s.cleared) h))⟩
    refine ⟨_, .of_frame (f := fun s => s.decapExpires c) rfl (State.decapExpires_any (s := s.cleared) h p), ?_, fun empty none => ?_⟩
    · rw [State.decap_offerStaleSpit, State.decap_offerStaleSpit]
      rfl
    · rw [State.offerStaleSpit_none (cs := s.cleared.owedStale.minus _)]
      · exact State.queue_offerStaleSpit (s := s.cleared.decapDone c) empty (ChanSet.single_not_empty c)
      · refine ChanSet.isEmpty_iff.2 fun e => ?_
        rw [ChanSet.minus, PerChan.get_of, State.owedStale, PerChan.get_of, show s.cleared.svc.spitOwed.get e = false from none e, Bool.and_false]
        rfl
  · intro idle
    have counts : s.cleared.idleCounts = true ↔ idle := s.cleared.idleCounts_iff
    refine ⟨fun h => ⟨_, .of_frame (f := State.idleExpires) rfl (State.agendaFrame_idleExpires (counts.2 h)), rfl, fun empty => State.capOffered_empty (s := s.cleared) empty⟩,
      fun a h => congrArg Host.Outcome.next (State.event_still a (State.idleExpires_off ?_))⟩
    rw [← Bool.not_eq_true]
    exact fun g => h (counts.1 g)

end Sys2Proof.Machine

/-! O35, O36, O37: the float switches and the presence line of a channel (R91 to R95, R99, R101, R107). -/
namespace Sys2Proof.Machine

/-! ### A state with one channel's record and the event queue replaced -/

/-- A state with the record of one channel and the queue of events replaced. -/
def State.withChan (s : State) (c : Chan) (k : InkChan) (e : EventQueue) : State := { s with ink := s.ink.set c k, events := e }

section
variable (s : State) (c : Chan) (k : InkChan) (e : EventQueue)

theorem State.withChan_self : s.withChan c (s.ink.get c) s.events = s := by
  have same : s.ink.set c (s.ink.get c) = s.ink := by cases c <;> rfl
  rw [State.withChan, same]

@[simp] theorem State.inkOf_withChan : (s.withChan c k e).ink.get c = k := PerChan.get_set_self _ _ _

theorem State.inkOther_withChan {d : Chan} (h : d ≠ c) : (s.withChan c k e).ink.get d = s.ink.get d := PerChan.get_set_ne _ _ h

theorem PerChan.set_set {α : Type} (p : PerChan α) (c : Chan) (x y : α) : (p.set c x).set c y = p.set c y := by cases c <;> rfl

theorem State.withChan_modInk (f : InkChan → InkChan) : (s.withChan c k e).modInk c f = s.withChan c (f k) e := by
  rw [State.modInk, State.inkOf_withChan, State.withChan, State.withChan]
  dsimp only
  rw [PerChan.set_set]

theorem State.modInk_eq (f : InkChan → InkChan) : s.modInk c f = s.withChan c (f (s.ink.get c)) s.events := rfl

theorem State.withChan_post (x : EventKind) (a b d : Nat) : (s.withChan c k e).post x a b d = s.withChan c k (e.enter (s.record x a b d)) := rfl

/-- The low flag that a level gives. -/
def ChanProfile.low (p : ChanProfile) (level : Nat) : Bool := decide (level ≤ p.lowMark * pLPerUL)

/-- The event queue after an evaluation of the low flag. -/
def State.lowPosted (s : State) (c : Chan) (k : InkChan) (e : EventQueue) : EventQueue :=
  if (s.chanProf c).low k.level = true ∧ k.low = false ∧ k.synced = true then e.enter (s.record .low c.num 0 k.level) else e

theorem State.withChan_evalLow : (s.withChan c k e).evalLow c =
    s.withChan c { k with low := (s.chanProf c).low k.level } (s.lowPosted c k e) := by
  rw [State.evalLow_eq, State.atLowMark, State.inkOf_withChan]
  unfold State.withChan State.lowPosted
  dsimp only
  rw [PerChan.set_set]
  rfl

/-- A channel's record once a run there has ended. -/
def InkChan.stopped (k : InkChan) : InkChan := if k.running then endRun k else k

theorem State.agendaFrame_stopRun : (s.withChan c k.stopped e).AgendaFrame ((s.withChan c k e).stopRun c) := by
  unfold State.stopRun InkChan.stopped
  rw [State.inkOf, State.inkOf_withChan]
  by_cases h : k.running = true
  · rw [if_pos h, if_pos h, State.withChan_modInk]
    exact State.agendaFrame_stir _
  · rw [if_neg h, if_neg h]
    exact .refl _

theorem State.withChan_resync (mark : Nat) (tell : Bool) : (s.withChan c k e).resyncTo c mark tell =
    s.withChan c { k with level := mark } (if (tell && k.synced) = true then e.enter (s.record .resync c.num (k.level / pLPerUL) mark) else e) := by
  unfold State.resyncTo
  rw [State.inkOf, State.inkOf_withChan, State.withChan_modInk]
  dsimp only
  split <;> rfl

end

section
variable {s t : State} (h : s.AgendaFrame t) (c : Chan)
include h

theorem State.AgendaFrame.evalLow : (s.evalLow c).AgendaFrame (t.evalLow c) := by
  obtain ⟨a, rfl⟩ := h
  rw [State.evalLow_eq, State.evalLow_eq]
  exact ⟨a, rfl⟩

theorem State.AgendaFrame.post (x : EventKind) (a b d : Nat) : (s.post x a b d).AgendaFrame (t.post x a b d) := by
  obtain ⟨a, rfl⟩ := h
  exact ⟨a, rfl⟩

end

/-! ### The low float (R92, R93) -/

section
variable {s : State} {c : Chan}

theorem State.setLine_lowFloat (s : State) (c : Chan) (l : Line) : s.setLine (.lowFloat c) l = s.withChan c { s.ink.get c with lowFloat := l } s.events := rfl
theorem State.setLine_fullFloat (s : State) (c : Chan) (l : Line) : s.setLine (.fullFloat c) l = s.withChan c { s.ink.get c with fullFloat := l } s.events := rfl
theorem State.setLine_presence (s : State) (c : Chan) (l : Line) : s.setLine (.presence c) l = s.withChan c { s.ink.get c with presence := l } s.events := rfl

theorem ChanProfile.low_mark (p : ChanProfile) : p.low (p.lowMark * pLPerUL) = true := decide_eq_true (Nat.le_refl _)

theorem InkChan.measures_iff (k : InkChan) : (k.running && k.phase == .measuring) = true ↔ k.running = true ∧ k.phase = .measuring := by
  rw [Bool.and_eq_true, beq_iff_eq]

/-- A channel's record after its low float has asserted. -/
def InkChan.lowAsserted (k : InkChan) (mark : Nat) : InkChan :=
  { k with level := mark, low := true,
           measCount := if k.running = true ∧ k.phase = .measuring then 0 else k.measCount,
           counting := if k.running = true ∧ k.phase = .measuring then false else k.counting }

/-- A channel's record after its low float has deasserted. -/
def InkChan.lowDeasserted (k : InkChan) (p : ChanProfile) : InkChan :=
  { k with level := p.lowMark * pLPerUL, low := true,
           measCount := if k.running = true ∧ k.phase = .measuring then 0 else k.measCount,
           counting := if k.running = true ∧ k.phase = .measuring then true else k.counting,
           limit := if k.running = true ∧ k.phase = .measuring then p.capacity * pLPerUL / (p.nominal * pLPerUL) + 10 else k.limit }

/-- The LOW record at the low mark. -/
theorem State.lowPosted_mark (s : State) (c : Chan) {k : InkChan} (e : EventQueue) (h : k.level = (s.chanProf c).lowMark * pLPerUL) :
    s.lowPosted c k e = if k.synced = true ∧ k.low = false then e.enter (s.record .low c.num 0 k.level) else e := by
  unfold State.lowPosted
  rw [h, ChanProfile.low_mark]
  exact ite_of_iff ⟨fun g => ⟨g.2.2, g.2.1⟩, fun g => ⟨rfl, g.2, g.1⟩⟩ _ _

/-- The evaluation of the low flag at the low mark, with its report. -/
theorem State.agendaFrame_evalLow_mark (s : State) (c : Chan) (k : InkChan) (e : EventQueue) (h : k.level = (s.chanProf c).lowMark * pLPerUL) :
    (s.withChan c { k with low := true } (if k.synced = true ∧ k.low = false then e.enter (s.record .low c.num 0 k.level) else e)).AgendaFrame
      (((s.withChan c k e).evalLow c).inkChanged (ChanSet.single c)) := by
  rw [State.withChan_evalLow, State.lowPosted_mark s c e h, h, ChanProfile.low_mark, ← h]
  exact State.agendaFrame_inkChanged _ _

theorem State.lowFloatChanged_unknown (s : State) (c : Chan) : s.lowFloatChanged c .unknown = s := by
  unfold State.lowFloatChanged
  exact if_pos rfl

theorem State.lowFloatChanged_asserts (s : State) (c : Chan) (k : InkChan) (e : EventQueue) (act : k.lowFloat.filt = .active) :
    (s.withChan c (k.lowAsserted ((s.chanProf c).lowMark * pLPerUL))
      (let e' := if k.synced = true then e.enter (s.record .resync c.num (k.level / pLPerUL) ((s.chanProf c).lowMark * pLPerUL)) else e
       if k.synced = true ∧ k.low = false then e'.enter (s.record .low c.num 0 ((s.chanProf c).lowMark * pLPerUL)) else e')).AgendaFrame
      ((s.withChan c k e).lowFloatChanged c .inactive) := by
  unfold State.lowFloatChanged
  rw [State.inkOf, State.inkOf_withChan]
  dsimp only
  rw [if_neg (show ¬ LineState.inactive = .unknown by decide), if_pos (show k.lowFloat.isActive = true by simp [Line.isActive, act]), show (s.withChan c k e).chanProf c = s.chanProf c from rfl, State.withChan_resync, Bool.true_and]
  unfold InkChan.lowAsserted
  by_cases m : k.running = true ∧ k.phase = .measuring
  · rw [if_pos (k.measures_iff.2 m), if_pos m, if_pos m, State.withChan_modInk]
    exact State.agendaFrame_evalLow_mark _ _ { k with level := _, measCount := 0, counting := false } _ rfl
  · rw [if_neg fun g => m (k.measures_iff.1 g), if_neg m, if_neg m]
    exact State.agendaFrame_evalLow_mark _ _ { k with level := _ } _ rfl

theorem State.lowFloatChanged_deasserts (s : State) (c : Chan) (k : InkChan) (e : EventQueue) (act : k.lowFloat.filt = .inactive) :
    (s.withChan c (k.lowDeasserted (s.chanProf c))
      (if k.synced = true ∧ k.low = false then e.enter (s.record .low c.num 0 ((s.chanProf c).lowMark * pLPerUL)) else e)).AgendaFrame
      ((s.withChan c k e).lowFloatChanged c .active) := by
  unfold State.lowFloatChanged
  rw [State.inkOf, State.inkOf_withChan]
  dsimp only
  rw [if_neg (show ¬ LineState.active = .unknown by decide), if_neg (show ¬ k.lowFloat.isActive = true by simp [Line.isActive, act]), show (s.withChan c k e).chanProf c = s.chanProf c from rfl, State.withChan_resync, Bool.false_and, if_neg Bool.false_ne_true]
  unfold InkChan.lowDeasserted
  by_cases m : k.running = true ∧ k.phase = .measuring
  · rw [if_pos (k.measures_iff.2 m), if_pos m, if_pos m, if_pos m, State.withChan_modInk]
    exact State.agendaFrame_evalLow_mark _ _ { k with level := _, measCount := 0, counting := true, limit := _ } _ rfl
  · rw [if_neg fun g => m (k.measures_iff.1 g), if_neg m, if_neg m, if_neg m]
    exact State.agendaFrame_evalLow_mark _ _ { k with level := _ } _ rfl

/-- A line that takes another state. -/
theorem State.lineCommand_changes {s : State} {i : LineId} {b : Bool} (h : (s.line i).filt ≠ LineState.ofLevel b) :
    s.lineCommand i b = (s.setLine i (Line.take b)).lineChanged i (s.line i).filt := if_neg h

/-- A line that already has the state. -/
theorem State.lineCommand_same {s : State} {i : LineId} {b : Bool} (h : (s.line i).filt = LineState.ofLevel b) :
    s.lineCommand i b = s.setLine i (Line.take b) := if_pos h

end

/-- Settles O35. -/
theorem lowFloatChanges : Obligations.LowFloatChanges := by
  intro s c k mark measuring low
  refine ⟨fun h => ?_, fun h => ?_, fun a h => ?_, fun a h => ?_⟩
  · refine .of_frame (f := fun s => s.lineCommand (.lowFloat c) true) rfl ?_
    have frame := State.lowFloatChanged_asserts s.cleared c { k with lowFloat := Line.take true } s.events rfl
    rw [State.lineCommand_changes (by rw [show (s.cleared.line (.lowFloat c)).filt = _ from h]; decide), show (s.cleared.line (.lowFloat c)).filt = _ from h]
    exact frame
  · refine .of_frame (f := fun s => s.lineCommand (.lowFloat c) false) rfl ?_
    have frame := State.lowFloatChanged_deasserts s.cleared c { k with lowFloat := Line.take false } s.events rfl
    rw [State.lineCommand_changes (by rw [show (s.cleared.line (.lowFloat c)).filt = _ from h]; decide), show (s.cleared.line (.lowFloat c)).filt = _ from h]
    exact frame
  · refine congrArg Host.Outcome.next (State.event_eq (f := fun s => s.lineCommand (.lowFloat c) true) ?_ a)
    cases now : k.lowFloat.filt with
    | inactive => exact absurd now h
    | active => exact State.lineCommand_same now
    | unknown =>
      rw [State.lineCommand_changes (by rw [show (s.cleared.line (.lowFloat c)).filt = _ from now]; decide), show (s.cleared.line (.lowFloat c)).filt = _ from now]
      exact State.lowFloatChanged_unknown _ c
  · refine congrArg Host.Outcome.next (State.event_eq (f := fun s => s.lineCommand (.lowFloat c) false) ?_ a)
    cases now : k.lowFloat.filt with
    | active => exact absurd now h
    | inactive => exact State.lineCommand_same now
    | unknown =>
      rw [State.lineCommand_changes (by rw [show (s.cleared.line (.lowFloat c)).filt = _ from now]; decide), show (s.cleared.line (.lowFloat c)).filt = _ from now]
      exact State.lowFloatChanged_unknown _ c

end Sys2Proof.Machine

/-! O36 and O37: the full float and the presence line (R94, R99, R101, R107). -/
namespace Sys2Proof.Machine

/-! ### The full float asserts (R94, R99, R107) -/

/-- A channel's record after the calibration at the full float. -/
def InkChan.measuredAt (k : InkChan) (p : ChanProfile) : InkChan :=
  if k.running && k.phase == .measuring && k.counting then
    if measureGood p (measureStroke p k).2 then { k with cal := .done, measured := some (measureStroke p k).2, measCount := (measureStroke p k).1 }
    else { k with cal := .bad, measured := none, measCount := (measureStroke p k).1 }
  else k

theorem State.takeMeasurement_frame (s : State) (c : Chan) (k : InkChan) (e : EventQueue) :
    ∃ e', (s.withChan c k e).takeMeasurement c = s.withChan c (k.measuredAt (s.chanProf c)) e' ∧ e.recs <+: e'.recs := by
  unfold State.takeMeasurement InkChan.measuredAt
  rw [State.inkOf, State.inkOf_withChan, show (s.withChan c k e).chanProf c = s.chanProf c from rfl]
  dsimp only
  split
  · split
    · exact ⟨_, by rw [State.withChan_modInk, State.withChan_post], EventQueue.recs_enter ..⟩
    · exact ⟨_, by rw [State.withChan_modInk, State.withChan_post], EventQueue.recs_enter ..⟩
  · exact ⟨e, rfl, List.prefix_refl _⟩

/-- A channel's record after its full float has asserted. -/
def InkChan.filled (k : InkChan) (p : ChanProfile) : InkChan :=
  let k' := (({ k with level := p.fullMark * pLPerUL, synced := true } : InkChan).measuredAt p).stopped
  { k' with low := p.low k'.level }

/-- The record that the full float posts first. -/
def State.filledRecord (s : State) (c : Chan) (k : InkChan) : Event :=
  if k.synced = true then s.record .resync c.num (k.level / pLPerUL) ((s.chanProf c).fullMark * pLPerUL)
  else s.record .synced c.num 0 ((s.chanProf c).fullMark * pLPerUL)

theorem EventQueue.mem_enter {q : EventQueue} (h : q.recs.length + 1 ≤ 32) (e : Event) : e ∈ (q.enter e).recs := by
  rw [EventQueue.enter, if_pos (show q.recs.length < 32 from h)]
  exact List.mem_append_right _ List.mem_cons_self

theorem State.fullFloatAsserts_frame (s : State) (c : Chan) (k : InkChan) (e : EventQueue) :
    ∃ e', (s.withChan c (k.filled (s.chanProf c)) e').AgendaFrame ((s.withChan c k e).fullFloatAsserts c) ∧
      (e.recs.length + 1 ≤ 32 → s.filledRecord c k ∈ e'.recs) := by
  unfold State.fullFloatAsserts
  rw [State.inkOf, State.inkOf_withChan, show (s.withChan c k e).chanProf c = s.chanProf c from rfl]
  extract_lets mark t
  have synced : t = s.withChan c { k with level := mark, synced := true } (e.enter (s.filledRecord c k)) := by
    change (if k.synced = true then _ else _) = _
    unfold State.filledRecord
    by_cases h : k.synced = true
    · rw [if_pos h, if_pos h, State.withChan_resync, h, Bool.and_self, if_pos rfl]
    · rw [if_neg h, if_neg h, State.withChan_modInk, State.withChan_post]
  obtain ⟨e', measured, stands⟩ := s.takeMeasurement_frame c { k with level := mark, synced := true } (e.enter (s.filledRecord c k))
  have low := (s.agendaFrame_stopRun c (({ k with level := mark, synced := true } : InkChan).measuredAt (s.chanProf c)) e').evalLow c
  rw [State.withChan_evalLow] at low
  refine ⟨s.lowPosted c (({ k with level := mark, synced := true } : InkChan).measuredAt (s.chanProf c)).stopped e', ?_, fun room => ?_⟩
  · rw [synced, measured]
    exact low.trans (State.agendaFrame_inkChanged _ _)
  · have first : s.filledRecord c k ∈ e'.recs := stands.subset (EventQueue.mem_enter room _)
    unfold State.lowPosted
    split
    · exact (EventQueue.recs_enter _ _).subset first
    · exact first

section
variable (k : InkChan) (p : ChanProfile)

theorem InkChan.measuredAt_keeps : (k.measuredAt p).level = k.level ∧ (k.measuredAt p).synced = k.synced ∧ (k.measuredAt p).fullFloat = k.fullFloat ∧
    (k.measuredAt p).estimate = k.estimate ∧ (k.measuredAt p).reserved = k.reserved ∧ (k.measuredAt p).running = k.running ∧ (k.measuredAt p).stroke = k.stroke := by
  unfold InkChan.measuredAt
  split
  · split <;> exact ⟨rfl, rfl, rfl, rfl, rfl, rfl, rfl⟩
  · exact ⟨rfl, rfl, rfl, rfl, rfl, rfl, rfl⟩

theorem InkChan.stopped_keeps : k.stopped.level = k.level ∧ k.stopped.synced = k.synced ∧ k.stopped.fullFloat = k.fullFloat ∧
    k.stopped.estimate = k.estimate ∧ k.stopped.reserved = k.reserved ∧ k.stopped.running = false ∧ (k.running = true → k.stopped.stroke = none) ∧
    k.stopped.cart = k.cart ∧ k.stopped.emptyReason = k.emptyReason := by
  unfold InkChan.stopped
  split
  next h => exact ⟨rfl, rfl, rfl, rfl, rfl, rfl, fun _ => rfl, rfl, rfl⟩
  next h => exact ⟨rfl, rfl, rfl, rfl, rfl, Bool.eq_false_iff.2 h, fun g => absurd g h, rfl, rfl⟩

theorem InkChan.filled_keeps : (k.filled p).level = p.fullMark * pLPerUL ∧ (k.filled p).synced = true ∧ (k.filled p).fullFloat = k.fullFloat ∧
    (k.filled p).estimate = k.estimate ∧ (k.filled p).reserved = k.reserved ∧ (k.filled p).running = false ∧
    (k.running = true → (k.filled p).stroke = none) := by
  obtain ⟨level, synced, full, estimate, reserved, running, stroke⟩ := ({ k with level := p.fullMark * pLPerUL, synced := true } : InkChan).measuredAt_keeps p
  obtain ⟨level', synced', full', estimate', reserved', off, none, -, -⟩ := (({ k with level := p.fullMark * pLPerUL, synced := true } : InkChan).measuredAt p).stopped_keeps
  exact ⟨level'.trans level, synced'.trans synced, full'.trans full, estimate'.trans estimate, reserved'.trans reserved, off, fun h => none (running.trans h)⟩

/-- The calibration of a run that measures and counts. -/
theorem InkChan.filled_measures (run : k.running = true) (phase : k.phase = .measuring) (count : k.counting = true) :
    (k.filled p).cal = (if measureGood p (measureStroke p k).2 then .done else .bad) ∧
    (k.filled p).measured = if measureGood p (measureStroke p k).2 then some (measureStroke p k).2 else none := by
  have on : (k.running && k.phase == .measuring && k.counting) = true := by rw [run, phase, count]; rfl
  unfold InkChan.filled InkChan.measuredAt
  dsimp only
  rw [if_pos on]
  by_cases good : measureGood p (measureStroke p k).2 = true
  · rw [if_pos good, if_pos good, if_pos (by exact good)]
    unfold InkChan.stopped
    rw [if_pos (by exact run)]
    exact ⟨rfl, rfl⟩
  · rw [if_neg good, if_neg good, if_neg (by exact good)]
    unfold InkChan.stopped
    rw [if_pos (by exact run)]
    exact ⟨rfl, rfl⟩

end

theorem measureGood_iff (p : ChanProfile) (m : Nat) :
    measureGood p m = true ↔ 75 * (p.nominal * pLPerUL) ≤ 100 * m ∧ 100 * m ≤ 125 * (p.nominal * pLPerUL) := by
  rw [measureGood, Bool.and_eq_true, decide_eq_true_eq, decide_eq_true_eq]

theorem measureStroke_snd (p : ChanProfile) (k : InkChan) :
    (measureStroke p k).2 = (p.fullMark - p.lowMark) * pLPerUL / (k.measCount + if k.stroke.isSome then 1 else 0) := by
  unfold measureStroke
  split <;> rfl

theorem State.fullFloatChanged_asserts (s : State) (c : Chan) (k : InkChan) (e : EventQueue) (old : LineState) (act : k.fullFloat.filt = .active) :
    (s.withChan c k e).fullFloatChanged c old = (s.withChan c k e).fullFloatAsserts c := by
  refine if_pos ?_
  rw [State.inkOf, State.inkOf_withChan]
  simp [Line.isActive, act]

theorem State.fullFloatChanged_deasserts (s : State) (c : Chan) (k : InkChan) (e : EventQueue) (old : LineState) (act : k.fullFloat.filt = .inactive) :
    (s.withChan c k e).AgendaFrame ((s.withChan c k e).fullFloatChanged c old) := by
  have off : ¬ ((s.withChan c k e).inkOf c).fullFloat.isActive = true := by
    rw [State.inkOf, State.inkOf_withChan]
    simp [Line.isActive, act]
  rw [State.fullFloatChanged, if_neg off]
  exact State.agendaFrame_stir _

/-- Settles O36. -/
theorem fullFloatChanges : Obligations.FullFloatChanges := by
  intro s c k full nominal n m
  refine ⟨fun h => ?_, fun h => ?_⟩
  · obtain ⟨e, frame, posts⟩ := s.cleared.fullFloatAsserts_frame c { k with fullFloat := Line.take true } s.events
    obtain ⟨a, eff⟩ := frame
    have eff : s.cleared.lineCommand (.fullFloat c) true = { s.cleared.withChan c (({ k with fullFloat := Line.take true } : InkChan).filled (s.chanProf c)) e with agenda := a } := by
      rw [State.lineCommand_changes (by exact h)]
      exact (State.fullFloatChanged_asserts s.cleared c { k with fullFloat := Line.take true } s.events k.fullFloat.filt rfl).trans eff
    obtain ⟨level, synced, float, estimate, reserved, off, stroke⟩ := ({ k with fullFloat := Line.take true } : InkChan).filled_keeps (s.chanProf c)
    refine ⟨_, _, congrArg (fun t => Host.Outcome.next (settle settleFuel t)) eff, rfl, ?_⟩
    generalize hu : { s.cleared.withChan c (({ k with fullFloat := Line.take true } : InkChan).filled (s.chanProf c)) e with agenda := a } = u
    have ink : u.ink.get c = ({ k with fullFloat := Line.take true } : InkChan).filled (s.chanProf c) := by
      rw [← hu]
      exact State.inkOf_withChan s.cleared c _ e
    have keeps := (settle_keeps settleFuel (.refl u)).ink c
    rw [keeps.synced, keeps.fullFloat, keeps.estimate, ink]
    refine ⟨synced, float, estimate, level, off, stroke, reserved, ?_⟩
    subst hu
    refine ⟨fun d hd => State.inkOther_withChan s.cleared c _ e hd, rfl, rfl, rfl, rfl, rfl, fun room => posts room, fun run phase count => ?_⟩
    obtain ⟨cal, measured⟩ := ({ k with fullFloat := Line.take true } : InkChan).filled_measures (s.chanProf c) run phase count
    have stroke : (measureStroke (s.chanProf c) { k with fullFloat := Line.take true }).2 = m := measureStroke_snd ..
    rw [cal, measured, stroke]
    refine ⟨fun lo hi => ?_, fun out => ?_⟩
    · have good := (measureGood_iff (s.chanProf c) m).2 ⟨lo, hi⟩
      rw [if_pos good, if_pos good]
      exact ⟨rfl, rfl⟩
    · have bad := mt (measureGood_iff (s.chanProf c) m).1 out
      rw [if_neg bad, if_neg bad]
      exact ⟨rfl, rfl⟩
  · refine .of_frame (f := fun s => s.lineCommand (.fullFloat c) false) rfl ?_
    have changed := State.fullFloatChanged_deasserts s.cleared c { k with fullFloat := Line.take false } s.events (k.fullFloat.filt) rfl
    rw [State.lineCommand_changes (by exact h)]
    exact changed

/-! ### The presence line (R101) -/

theorem State.presenceChanged_arrives (s : State) (c : Chan) (k : InkChan) (e : EventQueue) (act : k.presence.filt = .active) (absent : k.cart = .absent) :
    (s.withChan c { k with cart := .present } (e.enter (s.record .cartridgePresent c.num 0 0))).AgendaFrame ((s.withChan c k e).presenceChanged c) := by
  unfold State.presenceChanged
  rw [State.inkOf, State.inkOf_withChan]
  dsimp only
  rw [if_pos (show k.presence.isActive = true by simp [Line.isActive, act]), if_pos absent, State.withChan_modInk]
  exact State.agendaFrame_stir _

theorem State.presenceChanged_leaves (s : State) (c : Chan) (k : InkChan) (e : EventQueue) (act : k.presence.filt = .inactive) (there : k.cart ≠ .absent) :
    (s.withChan c ({ k with cart := .absent } : InkChan).stopped (e.enter (s.record .cartridgeRemoved c.num k.cart.code k.estimate))).AgendaFrame
      ((s.withChan c k e).presenceChanged c) := by
  unfold State.presenceChanged
  rw [State.inkOf, State.inkOf_withChan]
  dsimp only
  rw [if_neg (show ¬ k.presence.isActive = true by simp [Line.isActive, act]), if_neg there, State.withChan_modInk]
  exact ((s.agendaFrame_stopRun c { k with cart := .absent } e).post _ _ _ _).trans (State.agendaFrame_stir _)

theorem State.presenceChanged_none (s : State) (c : Chan) (k : InkChan) (e : EventQueue) (act : k.presence.filt = .inactive) (absent : k.cart = .absent) :
    (s.withChan c k e).presenceChanged c = s.withChan c k e := by
  unfold State.presenceChanged
  rw [State.inkOf, State.inkOf_withChan]
  dsimp only
  rw [if_neg (show ¬ k.presence.isActive = true by simp [Line.isActive, act]), if_pos absent]

/-- Settles O37. -/
theorem presenceLineChanges : Obligations.PresenceLineChanges := by
  intro s c k
  refine ⟨fun h absent => ?_, fun h there => ?_, fun a h absent => ?_⟩
  · obtain ⟨a, eff⟩ := s.cleared.presenceChanged_arrives c { k with presence := Line.take true } s.events rfl absent
    have eff := (State.lineCommand_changes (s := s.cleared) (i := .presence c) (b := true) h).trans eff
    refine ⟨_, congrArg (fun t => Host.Outcome.next (settle settleFuel t)) eff, ?_⟩
    generalize hu : { s.cleared.withChan c _ _ with agenda := a } = u
    have ink : u.ink.get c = { k with presence := Line.take true, cart := .present } := by
      rw [← hu]
      exact PerChan.get_set_self s.ink c _
    have other (d : Chan) (hd : d ≠ c) : u.ink.get d = s.ink.get d := by
      rw [← hu]
      exact PerChan.get_set_ne s.ink _ hd
    have keeps := (settle_keeps settleFuel (.refl u)).ink
    rw [(keeps c).cart, (keeps c).estimate, (keeps c).synced, ink]
    refine ⟨rfl, rfl, rfl, fun d hd => (keeps d).cart.trans (by rw [other d hd]), fun r room => ?_⟩
    have q := settle_quiet settleFuel (.refl u) (by rw [← hu]; exact r.waiting) (by rw [← hu]; exact r.stalled)
    have posted : s.record .cartridgePresent c.num 0 0 ∈ u.events.recs := by
      rw [← hu]
      exact EventQueue.mem_enter room _
    exact q.recsStand.subset posted
  · obtain ⟨a, eff⟩ := s.cleared.presenceChanged_leaves c { k with presence := Line.take false } s.events rfl there
    have eff := (State.lineCommand_changes (s := s.cleared) (i := .presence c) (b := false) h).trans eff
    refine ⟨_, _, congrArg (fun t => Host.Outcome.next (settle settleFuel t)) eff, rfl, ?_⟩
    generalize hu : { s.cleared.withChan c _ _ with agenda := a } = u
    have ink : u.ink.get c = ({ k with presence := Line.take false, cart := .absent } : InkChan).stopped := by
      rw [← hu]
      exact PerChan.get_set_self s.ink c _
    have keeps := (settle_keeps settleFuel (.refl u)).ink c
    obtain ⟨level, synced, -, estimate, reserved, off, -, cart, -⟩ := ({ k with presence := Line.take false, cart := .absent } : InkChan).stopped_keeps
    rw [keeps.cart, keeps.estimate, keeps.synced, ink]
    refine ⟨cart, estimate, synced, level, reserved, off, ?_⟩
    subst hu
    refine ⟨fun d hd => PerChan.get_set_ne s.ink _ hd, fun room => ?_⟩
    have posted (n : Nat) (code : n = k.cart.code) : s.record .cartridgeRemoved c.num n k.estimate ∈
        (s.events.enter (s.cleared.record .cartridgeRemoved c.num k.cart.code k.estimate)).recs := by
      subst code
      exact EventQueue.mem_enter room _
    refine posted _ ?_
    cases k.cart <;> rfl
  · refine congrArg Host.Outcome.next (State.event_eq (f := fun s => s.lineCommand (.presence c) false) ?_ a)
    exact (State.lineCommand_changes (s := s.cleared) (i := .presence c) (b := false) (by rw [show (s.cleared.line (.presence c)).filt = _ from h]; decide)).trans
      (s.cleared.presenceChanged_none c { k with presence := Line.take false } s.events rfl absent)

end Sys2Proof.Machine

/-! O38: a pump stroke that completes (R97, R98, R102, R106). -/
namespace Sys2Proof.Machine

/-! ### A channel's record after a stroke (R97, R98) -/

/-- A channel's record once its cartridge is EMPTY. -/
def InkChan.emptied (k : InkChan) (r : EmptyReason) : InkChan := ({ k with cart := .empty, emptyReason := some r } : InkChan).stopped

/-- A channel's record after the tests that follow a completed stroke. -/
def InkChan.afterStroke (k : InkChan) (p : ChanProfile) : InkChan :=
  if k.estimate = 0 then k.emptied .estimate
  else if k.runsDry then k.emptied .dry
  else if k.endAfter then (if k.reachesFull p then toOverrun k else k).stopped
  else { if k.reachesFull p then toOverrun k else k with stroke := some 0 }

theorem State.cartridgeEmpty_frame (s : State) (c : Chan) (k : InkChan) (e : EventQueue) (r : EmptyReason) :
    ∃ e', (s.withChan c (k.emptied r) e').AgendaFrame ((s.withChan c k e).cartridgeEmpty c r) := by
  unfold State.cartridgeEmpty
  rw [State.withChan_modInk, State.withChan_post]
  exact ⟨_, State.agendaFrame_stopRun _ _ _ _⟩

theorem State.afterStroke_frame (s : State) (c : Chan) (k : InkChan) (e : EventQueue) :
    ∃ e', (s.withChan c (k.afterStroke (s.chanProf c)) e').AgendaFrame ((s.withChan c k e).afterStroke c) := by
  unfold State.afterStroke
  rw [State.inkOf, State.inkOf_withChan, show (s.withChan c k e).chanProf c = s.chanProf c from rfl]
  extract_lets k' t
  have passed : t = s.withChan c (if k.reachesFull (s.chanProf c) = true then toOverrun k else k) e := by
    change (if k.reachesFull (s.chanProf c) = true then _ else _) = _
    split
    · rw [State.withChan_modInk]
    · rfl
  unfold InkChan.afterStroke
  split
  · exact s.cartridgeEmpty_frame c k e .estimate
  · split
    · exact s.cartridgeEmpty_frame c k e .dry
    · rw [passed]
      split
      · exact ⟨e, State.agendaFrame_stopRun _ _ _ _⟩
      · rw [State.withChan_modInk]
        exact ⟨e, .refl _⟩

/-- What a completed stroke leaves. -/
theorem State.strokeEnds_frame (s : State) (c : Chan) (run : (s.ink.get c).running = true) (stroke : (s.ink.get c).stroke.isSome = true) :
    ∃ low e, (s.withChan c (({ completeStroke (s.chanProf c) (s.ink.get c) with low := low } : InkChan).afterStroke (s.chanProf c)) e).AgendaFrame
      (s.strokeEnds c) := by
  unfold State.strokeEnds
  rw [if_pos (show ((s.inkOf c).running && (s.inkOf c).stroke.isSome) = true by rw [State.inkOf, run, stroke]; rfl), State.modInk_eq]
  dsimp only
  by_cases credits : (s.inkOf c).credits = true
  · rw [if_pos credits, State.withChan_evalLow]
    obtain ⟨a, changed⟩ := State.agendaFrame_inkChanged (s.withChan c { completeStroke (s.chanProf c) (s.ink.get c) with
      low := (s.chanProf c).low (completeStroke (s.chanProf c) (s.ink.get c)).level }
      (s.lowPosted c (completeStroke (s.chanProf c) (s.ink.get c)) s.events)) (ChanSet.single c)
    rw [changed]
    obtain ⟨e, a', frame⟩ := State.afterStroke_frame { s with agenda := a } c { completeStroke (s.chanProf c) (s.ink.get c) with
      low := (s.chanProf c).low (completeStroke (s.chanProf c) (s.ink.get c)).level }
      (s.lowPosted c (completeStroke (s.chanProf c) (s.ink.get c)) s.events)
    exact ⟨_, e, State.AgendaFrame.trans ⟨a', frame⟩ (State.agendaFrame_stir _)⟩
  · rw [if_neg credits]
    obtain ⟨e, frame⟩ := s.afterStroke_frame c (completeStroke (s.chanProf c) (s.ink.get c)) s.events
    exact ⟨_, e, frame.trans (State.agendaFrame_stir _)⟩

theorem State.strokeEnds_none {s : State} {c : Chan} (h : (s.ink.get c).running = false ∨ (s.ink.get c).stroke = none) : s.strokeEnds c = s := by
  refine if_neg ?_
  rw [State.inkOf, Bool.and_eq_true]
  rcases h with h | h <;> simp [h]

/-! ### The tests after a stroke -/

section
variable (k : InkChan) (p : ChanProfile)

theorem InkChan.emptied_keeps (r : EmptyReason) : (k.emptied r).level = k.level ∧ (k.emptied r).reserved = k.reserved ∧ (k.emptied r).estimate = k.estimate ∧
    (k.emptied r).strokes = k.strokes ∧ (k.emptied r).overrun = k.overrun ∧ (k.emptied r).cart = .empty ∧ (k.emptied r).emptyReason = some r ∧
    (k.emptied r).running = false := by
  unfold InkChan.emptied InkChan.stopped
  split
  next => exact ⟨rfl, rfl, rfl, rfl, rfl, rfl, rfl, rfl⟩
  next h => exact ⟨rfl, rfl, rfl, rfl, rfl, rfl, rfl, Bool.eq_false_iff.2 h⟩

/-- No test after a stroke moves the counts of it. -/
theorem InkChan.afterStroke_keeps : (k.afterStroke p).level = k.level ∧ (k.afterStroke p).reserved = k.reserved ∧
    (k.afterStroke p).estimate = k.estimate ∧ (k.afterStroke p).strokes = k.strokes := by
  have stopped (x : InkChan) : x.stopped.level = x.level ∧ x.stopped.reserved = x.reserved ∧ x.stopped.estimate = x.estimate ∧ x.stopped.strokes = x.strokes := by
    unfold InkChan.stopped
    split <;> exact ⟨rfl, rfl, rfl, rfl⟩
  unfold InkChan.afterStroke
  split
  · exact stopped { k with cart := .empty, emptyReason := some .estimate }
  · split
    · exact stopped { k with cart := .empty, emptyReason := some .dry }
    · split
      · split
        · exact stopped (toOverrun k)
        · exact stopped k
      · split <;> exact ⟨rfl, rfl, rfl, rfl⟩

variable {k}

theorem InkChan.afterStroke_empty (h : k.estimate = 0) : k.afterStroke p = k.emptied .estimate := if_pos h

variable (left : k.estimate ≠ 0)
include left

theorem InkChan.afterStroke_dry (h : k.runsDry = true) : k.afterStroke p = k.emptied .dry := (if_neg left).trans (if_pos h)

theorem InkChan.afterStroke_on (h : k.runsDry = false) : k.afterStroke p =
    if k.endAfter then (if k.reachesFull p then toOverrun k else k).stopped else { if k.reachesFull p then toOverrun k else k with stroke := some 0 } :=
  (if_neg left).trans (if_neg (by rw [h]; exact Bool.false_ne_true))

/-- The cartridge goes EMPTY where the run has met its dry limit. -/
theorem InkChan.cart_afterStroke : (k.afterStroke p).cart = if k.runsDry = true then .empty else k.cart := by
  by_cases h : k.runsDry = true
  · rw [InkChan.afterStroke_dry p left h, if_pos h]
    obtain ⟨-, -, -, -, -, cart, -, -⟩ := k.emptied_keeps .dry
    exact cart
  · rw [InkChan.afterStroke_on p left (Bool.eq_false_iff.2 h), if_neg h]
    unfold InkChan.stopped
    split <;> split <;> (try split) <;> rfl

end

/-- The stroke volume as the statement writes it. -/
theorem strokeVolume_eq (p : ChanProfile) (k : InkChan) :
    strokeVolume p k = if k.cal = .done ∧ k.measured.isSome then k.measured.getD 0 else p.nominal * 1000000 := by
  unfold strokeVolume
  by_cases d : k.cal = .done
  · rw [if_pos d]
    cases h : k.measured with
    | none => rw [if_neg (by simp)]; rfl
    | some m => rw [if_pos ⟨d, rfl⟩]; rfl
  · rw [if_neg d, if_neg fun g => d g.1]
    rfl

theorem strokeSucc_lt {n : Nat} (h : n < 65535) : strokeSucc n = n + 1 := if_pos h

/-! ### The record by the phase of the run -/

/-- A channel's record with a completed stroke counted, its low flag evaluated where the level has moved. -/
def InkChan.counted (k : InkChan) (p : ChanProfile) (low : Bool) : InkChan := { completeStroke p k with low := low }

/-- The level with a stroke credited. -/
def InkChan.credited (k : InkChan) (p : ChanProfile) : Nat := min (k.level + strokeVolume p k) (p.capacity * pLPerUL)

section
variable {k : InkChan} {p : ChanProfile} {low : Bool}

theorem InkChan.level_counted_credits (h : k.credits = true) : (k.counted p low).level = k.credited p := if_pos h

theorem InkChan.level_counted_not (h : k.credits = false) : (k.counted p low).level = k.level := if_neg (by rw [h]; exact Bool.false_ne_true)

theorem InkChan.credits_credited (h : k.phase = .credited) : k.credits = true := by rw [InkChan.credits, h]; rfl

theorem InkChan.credits_measuring (h : k.phase = .measuring) : k.credits = k.synced := by rw [InkChan.credits, h]; rfl

theorem InkChan.credits_other (h : k.phase = .overrun ∨ k.phase = .uncredited) : k.credits = false := by
  rcases h with h | h <;> rw [InkChan.credits, h] <;> rfl

/-- The estimate at 0 empties the cartridge. -/
theorem InkChan.stroked_empty (h : k.estimate ≤ strokeVolume p k) : ((k.counted p low).afterStroke p).cart = .empty ∧
    ((k.counted p low).afterStroke p).emptyReason = some .estimate ∧ ((k.counted p low).afterStroke p).running = false := by
  rw [InkChan.afterStroke_empty p (show (k.counted p low).estimate = 0 from Nat.sub_eq_zero_of_le h)]
  obtain ⟨-, -, -, -, -, cart, reason, off⟩ := (k.counted p low).emptied_keeps .estimate
  exact ⟨cart, reason, off⟩

variable (left : strokeVolume p k < k.estimate)
include left

theorem InkChan.counted_left : (k.counted p low).estimate ≠ 0 := Nat.ne_of_gt (Nat.sub_pos_of_lt left)

/-- The dry limit empties the cartridge. -/
theorem InkChan.stroked_dry (h : (k.counted p low).runsDry = true) :
    ((k.counted p low).afterStroke p).emptyReason = some .dry ∧ ((k.counted p low).afterStroke p).running = false := by
  rw [InkChan.afterStroke_dry p (InkChan.counted_left left) h]
  obtain ⟨-, -, -, -, -, -, reason, off⟩ := (k.counted p low).emptied_keeps .dry
  exact ⟨reason, off⟩

/-- The cartridge after a stroke that leaves the estimate above 0. -/
theorem InkChan.stroked_cart {P : Prop} [Decidable P] (h : (k.counted p low).runsDry = true ↔ P) :
    ((k.counted p low).afterStroke p).cart = if P then .empty else k.cart := by
  rw [InkChan.cart_afterStroke p (InkChan.counted_left left)]
  exact ite_of_iff h _ _

theorem InkChan.stroked_credited (h : k.phase = .credited) :
    ((k.counted p low).afterStroke p).cart = k.cart ∧
    ((k.counted p low).afterStroke p).overrun = (if p.fullMark * pLPerUL ≤ k.credited p then 0 else k.overrun) ∧
    (k.running = true → k.endAfter = false → ((k.counted p low).afterStroke p).running = true ∧ ((k.counted p low).afterStroke p).stroke = some 0 ∧
      ((k.counted p low).afterStroke p).phase = if p.fullMark * pLPerUL ≤ k.credited p then .overrun else .credited) := by
  have phase : (k.counted p low).phase = .credited := h
  have dry : (k.counted p low).runsDry = false := by rw [InkChan.runsDry, phase]
  have full : (k.counted p low).reachesFull p = true ↔ p.fullMark * pLPerUL ≤ k.credited p := by
    rw [InkChan.reachesFull, phase, InkChan.level_counted_credits (InkChan.credits_credited h)]
    simp
  have drawn : (k.counted p low).overrun = k.overrun := if_neg (by rw [h]; decide)
  refine ⟨(InkChan.stroked_cart left (P := False) (by rw [dry]; decide)).trans (if_neg id), ?_, fun run go => ?_⟩
  · rw [InkChan.afterStroke_on p (InkChan.counted_left left) dry]
    by_cases f : p.fullMark * pLPerUL ≤ k.credited p
    · rw [if_pos (full.2 f), if_pos f]
      unfold InkChan.stopped
      split <;> (try split) <;> rfl
    · rw [if_neg fun g => f (full.1 g), if_neg f, ← drawn]
      unfold InkChan.stopped
      split <;> (try split) <;> rfl
  · rw [InkChan.afterStroke_on p (InkChan.counted_left left) dry, if_neg (show ¬ (k.counted p low).endAfter = true by rw [show (k.counted p low).endAfter = _ from go]; decide)]
    by_cases f : p.fullMark * pLPerUL ≤ k.credited p
    · rw [if_pos (full.2 f), if_pos f]
      exact ⟨run, rfl, rfl⟩
    · rw [if_neg fun g => f (full.1 g), if_neg f]
      exact ⟨run, rfl, h⟩

theorem InkChan.stroked_overrun (h : k.phase = .overrun) :
    ((k.counted p low).afterStroke p).cart = (if 10 ≤ k.overrun + 1 then .empty else k.cart) ∧
    ((k.counted p low).afterStroke p).overrun = k.overrun + 1 ∧
    (10 ≤ k.overrun + 1 → ((k.counted p low).afterStroke p).emptyReason = some .dry ∧ ((k.counted p low).afterStroke p).running = false) := by
  have phase : (k.counted p low).phase = .overrun := h
  have drawn : (k.counted p low).overrun = k.overrun + 1 := if_pos h
  have dry : (k.counted p low).runsDry = true ↔ 10 ≤ k.overrun + 1 := by rw [InkChan.runsDry, phase, drawn]; exact decide_eq_true_iff
  refine ⟨InkChan.stroked_cart left dry, ?_, fun g => InkChan.stroked_dry left (dry.2 g)⟩
  rw [← drawn]
  by_cases d : (k.counted p low).runsDry = true
  · rw [InkChan.afterStroke_dry p (InkChan.counted_left left) d]
    obtain ⟨-, -, -, -, drawn, -, -, -⟩ := (k.counted p low).emptied_keeps .dry
    exact drawn
  · have full : (k.counted p low).reachesFull p = false := by rw [InkChan.reachesFull, phase]; rfl
    rw [InkChan.afterStroke_on p (InkChan.counted_left left) (Bool.eq_false_iff.2 d), full, if_neg Bool.false_ne_true]
    unfold InkChan.stopped
    split <;> (try split) <;> rfl

theorem InkChan.stroked_uncredited (h : k.phase = .uncredited) (count : k.strokes < 65535) :
    ((k.counted p low).afterStroke p).cart = (if k.limit ≤ k.strokes + 1 then .empty else k.cart) ∧
    (k.limit ≤ k.strokes + 1 → ((k.counted p low).afterStroke p).emptyReason = some .dry ∧ ((k.counted p low).afterStroke p).running = false) := by
  have phase : (k.counted p low).phase = .uncredited := h
  have dry : (k.counted p low).runsDry = true ↔ k.limit ≤ k.strokes + 1 := by
    rw [InkChan.runsDry, phase, show (k.counted p low).strokes = k.strokes + 1 from strokeSucc_lt count]
    exact decide_eq_true_iff
  exact ⟨InkChan.stroked_cart left dry, fun g => InkChan.stroked_dry left (dry.2 g)⟩

theorem InkChan.stroked_counting (h : k.phase = .measuring) (counts : k.counting = true) (count : k.measCount < 65535) :
    ((k.counted p low).afterStroke p).cart = (if k.limit ≤ k.measCount + 1 then .empty else k.cart) ∧
    (k.limit ≤ k.measCount + 1 → ((k.counted p low).afterStroke p).emptyReason = some .dry ∧ ((k.counted p low).afterStroke p).running = false) ∧
    (k.measCount + 1 < k.limit → k.endAfter = false →
      ((k.counted p low).afterStroke p).phase = .measuring ∧ ((k.counted p low).afterStroke p).measCount = k.measCount + 1) := by
  have phase : (k.counted p low).phase = .measuring := h
  have counting : (k.counted p low).counting = true := counts
  have meas : (k.counted p low).measCount = k.measCount + 1 := (if_pos (by rw [h, counts]; rfl)).trans (strokeSucc_lt count)
  have dry : (k.counted p low).runsDry = true ↔ k.limit ≤ k.measCount + 1 := by
    rw [InkChan.runsDry, phase, meas, counting, Bool.true_and]
    exact decide_eq_true_iff
  refine ⟨InkChan.stroked_cart left dry, fun g => InkChan.stroked_dry left (dry.2 g), fun more go => ?_⟩
  have full : (k.counted p low).reachesFull p = false := by rw [InkChan.reachesFull, phase, counting]; rfl
  rw [InkChan.afterStroke_on p (InkChan.counted_left left) (Bool.eq_false_iff.2 fun g => Nat.not_le.2 more (dry.1 g)), full, if_neg Bool.false_ne_true,
    if_neg (show ¬ (k.counted p low).endAfter = true by rw [show (k.counted p low).endAfter = _ from go]; decide)]
  exact ⟨phase, meas⟩

theorem InkChan.stroked_waiting (h : k.phase = .measuring) (counts : k.counting = false) :
    ((k.counted p low).afterStroke p).cart = k.cart ∧
    (k.synced = true → p.fullMark * pLPerUL ≤ k.credited p → ((k.counted p low).afterStroke p).phase = .overrun ∧
      ((k.counted p low).afterStroke p).overrun = 0 ∧ (k.cal = .measuring → ((k.counted p low).afterStroke p).cal = .armed)) ∧
    ((k.synced = false ∨ k.credited p < p.fullMark * pLPerUL) → k.endAfter = false →
      ((k.counted p low).afterStroke p).phase = .measuring ∧ ((k.counted p low).afterStroke p).measCount = k.measCount) := by
  have phase : (k.counted p low).phase = .measuring := h
  have counting : (k.counted p low).counting = false := counts
  have synced : (k.counted p low).synced = k.synced := rfl
  have meas : (k.counted p low).measCount = k.measCount := if_neg (by rw [counts, Bool.and_false]; exact Bool.false_ne_true)
  have dry : (k.counted p low).runsDry = false := by rw [InkChan.runsDry, phase, counting]; rfl
  have full : (k.counted p low).reachesFull p = true ↔ k.synced = true ∧ p.fullMark * pLPerUL ≤ k.credited p := by
    rw [InkChan.reachesFull, phase, counting, synced]
    cases g : k.synced with
    | false => simp
    | true =>
      rw [InkChan.level_counted_credits (by rw [InkChan.credits_measuring h, g])]
      simp
  refine ⟨(InkChan.stroked_cart left (P := False) (by rw [dry]; decide)).trans (if_neg id), fun sync f => ?_, fun f go => ?_⟩
  · rw [InkChan.afterStroke_on p (InkChan.counted_left left) dry, if_pos (full.2 ⟨sync, f⟩)]
    have armed (c : k.cal = .measuring) : (toOverrun (k.counted p low)).cal = .armed := if_pos c
    unfold InkChan.stopped
    split
    · split
      · refine ⟨rfl, rfl, fun c => ?_⟩
        rw [endRun, armed c]
        rfl
      · exact ⟨rfl, rfl, armed⟩
    · exact ⟨rfl, rfl, armed⟩
  · have below : ¬ (k.counted p low).reachesFull p = true := fun g => by
      obtain ⟨sync, le⟩ := full.1 g
      rcases f with f | f
      · exact Bool.false_ne_true (f.symm.trans sync)
      · exact Nat.not_le.2 f le
    rw [InkChan.afterStroke_on p (InkChan.counted_left left) dry, if_neg below,
      if_neg (show ¬ (k.counted p low).endAfter = true by rw [show (k.counted p low).endAfter = _ from go]; decide)]
    exact ⟨phase, meas⟩

end

/-- Settles O38: the record of the channel alone moves, by the phase of its run. -/
theorem strokeCompletes : Obligations.StrokeCompletes := by
  intro s c k p v lvl dry
  have vol : strokeVolume p k = v := strokeVolume_eq p k
  have lvl_eq : k.credited p = lvl := congrArg (fun v => min (k.level + v) (p.capacity * pLPerUL)) vol
  refine ⟨fun run stroke => ?_, fun a h => congrArg Host.Outcome.next (State.event_still a (State.strokeEnds_none (s := s.cleared) h))⟩
  obtain ⟨low, e, a, eff⟩ := State.strokeEnds_frame s.cleared c run stroke
  refine ⟨_, _, congrArg (fun t => Host.Outcome.next (settle settleFuel t)) eff, rfl, ?_⟩
  generalize hu : { s.cleared.withChan c _ e with agenda := a } = u
  have ink : u.ink.get c = (k.counted p low).afterStroke p := by
    rw [← hu]
    exact PerChan.get_set_self s.ink c _
  have other (d : Chan) (hd : d ≠ c) : u.ink.get d = s.ink.get d := by
    rw [← hu]
    exact PerChan.get_set_ne s.ink _ hd
  have keeps := (settle_keeps settleFuel (.refl u)).ink c
  obtain ⟨level, reserved, estimate, strokes⟩ := (k.counted p low).afterStroke_keeps p
  simp only [dry]
  rw [keeps.cart, keeps.estimate, keeps.emptyReason, ink, level, strokes, ← lvl_eq, ← vol]
  exact ⟨estimate, reserved, other, fun g => strokeSucc_lt g, fun h => InkChan.level_counted_credits (InkChan.credits_credited h),
    fun h => InkChan.level_counted_not (InkChan.credits_other h), InkChan.stroked_empty,
    fun h => ite_of_iff (by rw [InkChan.credits_measuring h]) _ _,
    fun left h => ⟨(InkChan.stroked_credited left h).1, (InkChan.stroked_credited left h).2.1, (InkChan.stroked_credited left h).2.2 run⟩,
    InkChan.stroked_overrun, InkChan.stroked_uncredited, InkChan.stroked_counting, InkChan.stroked_waiting⟩

end Sys2Proof.Machine

/-! O27: the disposition of a go word and the exchange beat (R40, R65 to R67, 11.4). -/
namespace Sys2Proof.Machine

/-! ### The next swath (R66) -/

/-- A next swath that is not ADMITTED is the front, which is a SWATH. -/
theorem State.swath_of_nextSwath? {s : State} {i : SlotIx} (next : s.nextSwath? = some i) (st : (s.slot i).st ≠ .admitted) :
    (s.slot i).kind = some .swath := by
  unfold State.nextSwath? at next
  split at next
  · exact absurd next nofun
  · split at next
    next j h =>
      injection next with e
      subst e
      have adm := List.find?_some h
      exact absurd (beq_iff_eq.1 adm) st
    next =>
      have swath := (Option.filter_eq_some_iff.1 next).2
      exact beq_iff_eq.1 swath

theorem State.mayPrint_iff (s : State) (i : SlotIx) : s.mayPrint i = true ↔
    s.flow.pause = false ∧ s.media.op = none ∧ s.svc.station = .uncapped ∧ ∃ t, s.sheetOfSlot i = some t ∧ t.st = .printing := by
  unfold State.mayPrint State.motion
  cases s.sheetOfSlot i <;> simp [and_assoc]

/-! ### The disposition of a go word (R65) -/

section
variable {s : State} {i : SlotIx}

theorem State.disposition_waits (h : (s.slot i).st = .free ∨ (s.slot i).st = .opened ∨ (s.slot i).st = .advancing) : s.disposition i = .wait := by
  unfold State.disposition
  dsimp only
  rcases h with h | h | h <;> rw [h]

theorem State.disposition_waiting (h : (s.slot i).st = .posted ∨ (s.slot i).st = .held) :
    s.disposition i = if s.nextSwath? = some i ∧ s.svc.asking = true then .service else .wait := by
  unfold State.disposition
  dsimp only
  rcases h with h | h <;> rw [h] <;> exact ite_of_iff (by simp) _ _

theorem State.disposition_firing (h : (s.slot i).st = .firing) : s.disposition i = .print := by
  unfold State.disposition
  dsimp only
  rw [h]

theorem State.disposition_armed (h : (s.slot i).st = .admitted) (a : (s.slot i).armed = true) : s.disposition i = .print := by
  unfold State.disposition
  dsimp only
  rw [h]
  exact if_pos a

theorem State.disposition_admitted (h : (s.slot i).st = .admitted) (a : (s.slot i).armed = false) : s.disposition i =
    if s.nextSwath? = some i then (if s.svc.asking then .service else if s.mayPrint i then .print else .wait) else .wait := by
  unfold State.disposition
  dsimp only
  rw [h]
  dsimp only
  rw [if_neg (by rw [a]; exact Bool.false_ne_true)]
  by_cases n : s.nextSwath? = some i
  · rw [if_pos n, if_neg (by simp [n])]
  · rw [if_neg n, if_pos (by simp [n])]

theorem State.disposition_skips (h : (s.slot i).st = .retired)
    (o : (s.slot i).outcome = some .skipped ∨ (s.slot i).outcome = some .cancelled ∨ (s.slot i).outcome = some .rejected) : s.disposition i = .skip := by
  unfold State.disposition
  dsimp only
  rw [h]
  rcases o with o | o | o <;> rw [o]

theorem State.disposition_ended (h : (s.slot i).st = .retired)
    (o : (s.slot i).outcome = some .printed ∨ (s.slot i).outcome = some .done ∨ (s.slot i).outcome = some .refused) : s.disposition i = .wait := by
  unfold State.disposition
  dsimp only
  rw [h]
  rcases o with o | o | o <;> rw [o]

end

/-- The fields that section 11.4 gives the exchange beat. -/
def State.exchangeFields (s : State) (i : SlotIx) : List (Nat × Nat × Nat) :=
  let k := s.slot i
  let d := s.disposition i
  [(0, 1, d.code), (1, 1, if d = .service then s.calledPasses else 0),
    (8, 1, k.st.code + 16 * (k.outcome.map SlotOutcome.code).getD 0), (9, 1, (k.kind.map SlotKind.code).getD 0),
    (10, 1, reasonCode k.reason), (11, 1, k.lateHeaders + 16 * k.faults), (12, 2, (k.seq.map BitVec.toNat).getD 0), (14, 2, k.detail)] ++
  (Chan.all.map fun c => (16 + 8 * c.num, 6, k.capVolume.get c)) ++ [(56, 4, k.capUnplaced), (60, 4, k.capOverBudget)]

theorem State.exchangeBeat_eq (s : State) (i : SlotIx) : s.exchangeBeat i = buildBeat (s.exchangeFields i) := rfl

theorem State.goodLayout_exchange (s : State) (i : SlotIx) : goodLayout ((s.exchangeFields i).map placeOf) = true := rfl

/-- The first byte of the exchange beat is the disposition's code. -/
theorem State.byteAt_exchangeBeat (s : State) (i : SlotIx) : byteAt (s.exchangeBeat i) 0 = (s.disposition i).code := by
  rw [byteAt_eq_leAt, State.exchangeBeat_eq, leAt_buildBeat (s.goodLayout_exchange i) (v := (s.disposition i).code) List.mem_cons_self]
  cases s.disposition i <;> rfl

/-- Settles O27, by the state of the slot. -/
theorem goWordDisposition : Obligations.GoWordDisposition := by
  intro s i k isNext prints
  refine ⟨State.disposition_waits, fun st => ⟨fun h => (State.disposition_waiting st).trans (if_pos h), fun h => (State.disposition_waiting st).trans (if_neg h)⟩,
    fun st kind => (State.disposition_waiting (.inl st)).trans (if_neg fun h => kind ?_), State.disposition_armed, State.disposition_firing, fun st a => ?_,
    State.disposition_skips, State.disposition_ended, ?_, ?_⟩
  · exact State.swath_of_nextSwath? h.1 (by rw [st]; decide)
  · rw [State.disposition_admitted st a]
    refine ⟨fun n => if_neg n, fun n asks => ?_, fun n quiet pr => ?_, fun n quiet pr => ?_⟩
    · rw [if_pos n, if_pos asks]
    · rw [if_pos n, if_neg (by rw [quiet]; exact Bool.false_ne_true), if_pos ((s.mayPrint_iff i).2 pr)]
    · rw [if_pos n, if_neg (by rw [quiet]; exact Bool.false_ne_true), if_neg fun g => pr ((s.mayPrint_iff i).1 g)]
  · rw [State.byteAt_exchangeBeat]
    cases s.disposition i <;> rfl
  · exact shows_buildBeat (s.goodLayout_exchange i) fun _ h => List.mem_cons_of_mem _ h

end Sys2Proof.Machine

/-! O26: a read at an address that is no multiple of 64 refutes the clause on two beats (R3, R9). -/
namespace Sys2Proof.Machine

/-- An address one byte into the last header beat of slot 0. -/
def oddHeaderAddr : Addr := BitVec.ofNat 40 (State.reset.spanBase + 0x1000 + 0x80 + 1)

/-- The read of two beats from there, from power-on, leaves no read held: its second beat lies one byte past the go word and is memory data. -/
theorem oddHeaderRead_holds_nothing (t : State) (h : exec (.planeFetchRead .fetch oddHeaderAddr [[], []]) State.reset = .next t) : t.link.held = none := by
  have e : (match exec (.planeFetchRead .fetch oddHeaderAddr [[], []]) State.reset with | .next t => t.link.held | _ => none) = none := by decide
  rw [h] at e
  exact e

/-- Refutes O26: two beats from an address whose first beat is the last header beat, but one byte into it, do not reach the go word. -/
theorem not_goWordReads : ¬ Obligations.GoWordReads := by
  unfold Obligations.GoWordReads
  intro h
  have held := h.2.1 State.reset oddHeaderAddr 0 [] [] ⟨rfl, rfl⟩ ⟨rfl, rfl, rfl, rfl⟩ (by decide +kernel) (by decide +kernel)
  have none : some (0 : SlotIx) = none := oddHeaderRead_holds_nothing _ held
  exact Option.some_ne_none 0 none

end Sys2Proof.Machine

/-! O21, its reads: a beat of a FETCH read in UP, and the reads of the other classes (R1, R3, R7, R45, R49 to R52). -/
namespace Sys2Proof.Machine

/-! ### What the class of a beat decides (R5, R7). As in `State.learnWrite_cases` the definitions are unfolded as functions. -/

/-- What a FETCH read beat of a class reads. -/
def BeatClass.kind (a : Nat) (mem : List Byte) : BeatClass → FetchKind
  | .exchange i => .goWord i
  | .service b => .spit b
  | .event => .event
  | .retirement => .retirement
  | .plane w => .plane a (some w.wid) mem
  | .body _ | .trigger | .control _ | .header .. | .plain => .plane a none mem

/-- The data of a read beat of a class that no rule but that of the status beats changes. -/
def State.dataOf (s : State) (mem : List Byte) : BeatClass → List Byte
  | .control o => (s.statusBeat? o).getD mem
  | .exchange _ | .service _ | .event | .retirement | .plane _ | .body _ | .trigger | .header .. | .plain => mem

theorem State.fetchKind_eq (s : State) (a : Nat) (mem : List Byte) : s.fetchKind a mem = (s.classify a).kind a mem := by
  generalize hf : State.fetchKind = f
  delta State.fetchKind at hf
  subst hf
  dsimp only
  generalize s.classify a = c
  cases c <;> rfl

theorem State.plainData_eq (s : State) (a : Nat) (mem : List Byte) : s.plainData a mem = s.dataOf mem (s.classify a) := by
  generalize hf : State.plainData = f
  delta State.plainData at hf
  subst hf
  dsimp only
  generalize s.classify a = c
  cases c <;> rfl

theorem State.classify_congr {s t : State} (base : t.spanBase = s.spanBase) (windows : t.windows = s.windows) (a : Nat) : t.classify a = s.classify a := by
  unfold State.classify
  rw [base, windows]

/-- The effect of a command with the reactions that follow it. -/
theorem State.event_settle {s t : State} {f : State → State} (h : f s.cleared = t) : s.event f = settle settleFuel t := by
  subst h
  rfl

/-! ### One FETCH read beat by its class (R7, R44) -/

section
variable {s : State} {a : Addr} {mem : List Byte} (g : Ready s) (r : NoReads s)
include g r

/-- A FETCH read of one beat in UP, with no read in hand, is taken up at once; the reactions follow. -/
theorem State.exec_planeFetchRead_settle {t : State} (h : (s.atRead .fetch a.toNat).considerFetch ((s.classify a.toNat).kind a.toNat mem) = t) :
    exec (.planeFetchRead .fetch a [mem]) s = .next (settle settleFuel t) := by
  refine congrArg Host.Outcome.next (State.event_settle ?_)
  have arrived := State.arrived_up (s := s.cleared) g.up
  have kinds : s.cleared.arrived.fetchKinds a.toNat [mem] = [(s.classify a.toNat).kind a.toNat mem] := by
    rw [State.fetchKinds, State.fetchKinds, State.fetchKind_eq, State.classify_congr (s := s)]
    · rw [arrived]; rfl
    · rw [arrived]; rfl
  rw [if_pos rfl, State.fetchRead_idle r.cleared, kinds, State.acceptFetch_one, ← h]
  · exact congrArg (State.considerFetch · _) (State.atRead_eq g.up .fetch a.toNat)
  · rw [arrived]; exact r.held
  · rw [arrived]; exact r.waiting

theorem State.exec_planeFetchRead_one {t : State} (h : (s.atRead .fetch a.toNat).considerFetch ((s.classify a.toNat).kind a.toNat mem) = t) (e : t.agenda = []) :
    exec (.planeFetchRead .fetch a [mem]) s = .next t := by
  rw [State.exec_planeFetchRead_settle g r h, settle_none _ e]

theorem State.exec_planeFetchRead_data {c : BeatClass} (hc : s.classify a.toNat = c) (kind : c.kind a.toNat mem = .plane a.toNat none mem) :
    exec (.planeFetchRead .fetch a [mem]) s = .next (s.afterRead .fetch a.toNat ((s.atRead .fetch a.toNat).dataOf mem c)) := by
  refine State.exec_planeFetchRead_one g r ?_ g.agenda
  rw [hc, kind, ← State.answer_atRead (fun _ => r)]
  change (s.atRead .fetch a.toNat).answer .fetch a.toNat ((s.atRead .fetch a.toNat).plainData a.toNat mem) = _
  rw [State.plainData_eq, State.classify_congr (s := s) (t := s.atRead .fetch a.toNat) rfl rfl, hc]

/-- A plane beat answered with the bytes and the state that its window gives; the reactions follow. -/
theorem State.exec_planeFetchRead_planeSettle {win : Window} (c : s.classify a.toNat = .plane win) {d : List Byte} {t u : State}
    (h : (s.atRead .fetch a.toNat).planeAnswer a.toNat win.wid mem = (d, t)) (e : t.answer .fetch a.toNat d = u) :
    exec (.planeFetchRead .fetch a [mem]) s = .next (settle settleFuel u) := by
  refine State.exec_planeFetchRead_settle g r ?_
  rw [c, ← e]
  change ((s.atRead .fetch a.toNat).planeAnswer a.toNat win.wid mem).2.answer .fetch a.toNat ((s.atRead .fetch a.toNat).planeAnswer a.toNat win.wid mem).1 = _
  rw [h]

theorem State.exec_planeFetchRead_plane {win : Window} (c : s.classify a.toNat = .plane win) {d : List Byte} {t u : State}
    (h : (s.atRead .fetch a.toNat).planeAnswer a.toNat win.wid mem = (d, t)) (e : t.answer .fetch a.toNat d = u) (idle : u.agenda = []) :
    exec (.planeFetchRead .fetch a [mem]) s = .next u := by
  rw [State.exec_planeFetchRead_planeSettle g r c h e, settle_none _ idle]

end

/-! ### A plane beat by the state of its swath (R49 to R52) -/

section
variable {s : State} {win : Window} (f : (s.windows.find? fun v => v.wid == win.wid) = some win)
include f

theorem State.planeAnswer_stray {a : Nat} {mem : List Byte} (idle : (s.slot win.slot).st ≠ .firing)
    (unarmed : (s.slot win.slot).st = .admitted → (s.slot win.slot).armed = false) :
    s.planeAnswer a win.wid mem = (zeroBeat, s.count .strayFetches 1) := by
  unfold State.planeAnswer
  rw [f]
  dsimp only
  rw [if_neg idle, if_neg]
  simp only [Bool.and_eq_true, decide_eq_true_eq]
  exact fun g => Bool.false_ne_true ((unarmed g.1).symm.trans g.2)

variable (fires : (s.slot win.slot).st = .firing)
include fires

theorem State.planeAnswer_firing (a : Nat) (mem : List Byte) : s.planeAnswer a win.wid mem = s.firingBeat win (a - win.base) mem := by
  unfold State.planeAnswer
  rw [f]
  exact if_pos fires

theorem State.planeAnswer_ahead {a : Nat} (mem : List Byte) (h : win.mark < a - win.base) :
    s.planeAnswer a win.wid mem = (zeroBeat, s.fetchOrderFault win (a - win.base)) := by
  rw [State.planeAnswer_firing f fires]
  exact if_pos h

theorem State.planeAnswer_reread {a : Nat} (mem : List Byte) (h : a - win.base < win.mark) : ∃ d, s.planeAnswer a win.wid mem = (d, s) := by
  rw [State.planeAnswer_firing f fires]
  exact ⟨_, (if_neg (Nat.lt_asymm h)).trans (if_neg (Nat.ne_of_gt h))⟩

end

theorem State.fetchOrderFault_eq {s : State} (win : Window) (o : Nat) (h : s.counters.fetchOrder < max32) : s.fetchOrderFault win o = { s with
    counters := { s.counters with fetchOrder := s.counters.fetchOrder + 1 },
    slots := if (s.slot win.slot).tally.fetchOrderPosted = true then s.slots
      else s.slots.set win.slot { s.slot win.slot with tally := { (s.slot win.slot).tally with fetchOrderPosted := true } },
    events := if (s.slot win.slot).tally.fetchOrderPosted = true then s.events else s.posted .fetchOrder win.slot.val (win.chan.num + 256 * o) win.mark } := by
  unfold State.fetchOrderFault
  rw [State.count_of_le (i := .fetchOrder) h]
  by_cases p : (s.slot win.slot).tally.fetchOrderPosted = true
  · rw [if_pos p, if_pos p]
    exact if_pos p
  · rw [if_neg p, if_neg p]
    exact if_neg p

/-! ### Reads of the other classes (R1, R7, R45) -/

/-- The data of a read beat of the RASTER or GENERAL class that is no go word, event or retirement beat. -/
theorem State.answerRead_data {s : State} {cls : ReqClass} (f : cls ≠ .fetch) {a : Nat} (mem : List Byte) (c : s.classify a ≠ .event ∧ s.classify a ≠ .retirement ∧
    ∀ i, s.classify a ≠ .exchange i) : s.answerRead cls a mem =
      { s with out := { s.out with answers := s.out.answers ++ [{ cls := cls, addr := a, data := s.dataOf mem (s.classify a) }] } } := by
  rw [← State.plainData_eq, ← State.answer_other f]
  generalize hf : State.answerRead = g
  delta State.answerRead at hf
  subst hf
  dsimp only
  generalize s.classify a = k at c
  obtain ⟨event, retirement, exchange⟩ := c
  cases k with
  | exchange i => exact absurd rfl (exchange i)
  | event => exact absurd rfl event
  | retirement => exact absurd rfl retirement
  | body | trigger | control | header | service | plane | plain => rfl

/-- The answers of a read request from the beat of a number on. -/
def State.readAnswers (s : State) (cls : ReqClass) (a n : Nat) (mems : List (List Byte)) : List Answer :=
  (mems.zipIdx n).map fun m => { cls := cls, addr := a + 64 * m.2, data := s.dataOf m.1 (s.classify (a + 64 * m.2)) }

theorem State.readAnswers_out (s : State) (o : Outputs) (cls : ReqClass) (a n : Nat) (mems : List (List Byte)) :
    ({ s with out := o } : State).readAnswers cls a n mems = s.readAnswers cls a n mems := by
  have data (mem : List Byte) (c : BeatClass) : ({ s with out := o } : State).dataOf mem c = s.dataOf mem c := by cases c <;> rfl
  have same (a : Nat) : ({ s with out := o } : State).classify a = s.classify a := State.classify_congr rfl rfl a
  simp only [State.readAnswers, data, same]

theorem State.answerReads_data {cls : ReqClass} (f : cls ≠ .fetch) (a n : Nat) (mems : List (List Byte)) (s : State)
    (c : ∀ k < mems.length, s.classify (a + 64 * (n + k)) ≠ .event ∧ s.classify (a + 64 * (n + k)) ≠ .retirement ∧
      ∀ i, s.classify (a + 64 * (n + k)) ≠ .exchange i) :
    s.answerReads cls (a + 64 * n) mems = { s with out := { s.out with answers := s.out.answers ++ s.readAnswers cls a n mems } } := by
  induction mems generalizing n s with
  | nil =>
    rw [State.readAnswers, List.zipIdx_nil, List.map_nil, List.append_nil]
    rfl
  | cons m mems ih =>
    rw [State.answerReads, State.answerRead_data (a := a + 64 * n) f m (c 0 (Nat.zero_lt_succ _)), show a + 64 * n + 64 = a + 64 * (n + 1) by omega, ih (n + 1)]
    · rw [State.readAnswers_out, List.append_assoc]
      have answers : s.readAnswers cls a n (m :: mems) =
          [{ cls := cls, addr := a + 64 * n, data := s.dataOf m (s.classify (a + 64 * n)) }] ++ s.readAnswers cls a (n + 1) mems := by
        rw [State.readAnswers, List.zipIdx_cons, List.map_cons]
        rfl
      rw [answers]
    · intro k hk
      rw [show n + 1 + k = n + (k + 1) by omega]
      have same (x : Nat) := State.classify_congr (s := s) (t := { s with out := { s.out with
        answers := s.out.answers ++ [{ cls := cls, addr := a + 64 * n, data := s.dataOf m (s.classify (a + 64 * n)) }] } }) rfl rfl x
      rw [same]
      exact c (k + 1) (Nat.succ_lt_succ hk)

/-- A RASTER or GENERAL read request in UP, answered within its command. -/
theorem State.exec_planeFetchRead_other {s : State} {cls : ReqClass} {a : Addr} {mems : List (List Byte)} (g : Ready s) (f : cls ≠ .fetch)
    (c : ∀ k < mems.length, s.classify (a.toNat + 64 * k) ≠ .event ∧ s.classify (a.toNat + 64 * k) ≠ .retirement ∧
      ∀ i, s.classify (a.toNat + 64 * k) ≠ .exchange i) :
    exec (.planeFetchRead cls a mems) s = .next { s with
      link := { s.link with silence := 0 },
      out := { forwarded := [.read a.toNat mems.length cls], answers := ({ s with link := { s.link with silence := 0 } } : State).readAnswers cls a.toNat 0 mems } } := by
  refine congrArg Host.Outcome.next (State.event_eq ?_ g.agenda)
  have arrived := State.arrived_up (s := s.cleared) g.up
  rw [if_neg f]
  change ((s.cleared.arrived.forward (.read a.toNat mems.length cls)).answerReads cls (a.toNat + 64 * 0) mems) = _
  have same (x : Nat) : (s.cleared.arrived.forward (.read a.toNat mems.length cls)).classify x = s.classify x := by
    refine State.classify_congr ?_ ?_ x
    · rw [arrived]; rfl
    · rw [arrived]; rfl
  rw [State.answerReads_data f a.toNat 0 mems _ fun k hk => by rw [same, Nat.zero_add]; exact c k hk, arrived]
  have answers := State.readAnswers_out { s with link := { s.link with silence := 0 } } { forwarded := [.read a.toNat mems.length cls], answers := [] } cls a.toNat 0 mems
  rw [← answers]
  rfl

end Sys2Proof.Machine

/-! O21: the result beat and the status beats (R109, R127, R151, R177, R180, R185, R193; 11.4, 11.5), and the obligation itself. -/
namespace Sys2Proof.Machine

/-- A weighted flag. -/
theorem ite_eq_mul_flagVal (b : Bool) (v : Nat) : (if b = true then v else 0) = v * flagVal b := by cases b <;> simp [flagVal]

/-- The beats at the offsets of the control slot. -/
theorem State.statusBeat_ink (s : State) (c : Chan) : s.statusBeat? (0x200 + 64 * c.num) = some (s.inkBeat c) := by cases c <;> rfl
theorem State.statusBeat_health (s : State) (c : Chan) : s.statusBeat? (0x340 + 64 * c.num) = some (s.healthBeat c) := by cases c <;> rfl
theorem State.statusBeat_roll (s : State) (r : Roll) : s.statusBeat? (0x480 + 64 * r.num) = some (s.rollBeat r) := by cases r <;> rfl

theorem State.shows_result (s : State) : Shows s.resultBeat
    [(0, 2, s.mail.seq.toNat), (2, 1, s.mail.kind), (3, 1, (s.mail.result.map ResultCode.code).getD 0), (4, 2, s.mail.detail), (6, 2, s.mail.count.toNat)] :=
  shows_buildBeat (by rfl) fun _ h => h

theorem State.shows_part (s : State) : Shows s.partBeat
      [(0, 4, s.time.ms.toNat), (4, 1, flagVal s.flow.pause), (5, 1, if s.link.state = .up then 0 else 1), (6, 2, s.link.silence),
       (8, 1, s.svc.station.code), (9, 1, flagVal s.media.fault), (10, 1, s.admittedCount), (11, 1, s.parser.posted.length),
       (12, 1, (s.front?.map Fin.val).getD 0xFF), (13, 1, (s.armedOrFiringSlot.map Fin.val).getD 0xFF), (14, 2, s.parser.expected.toNat),
       (16, 2, (s.parser.lastAccepted.map BitVec.toNat).getD 0xFFFF),
       (18, 1, flagVal s.parser.lastAccepted.isSome + 2 * flagVal s.events.suspend + 4 * flagVal s.events.attention), (19, 1, s.events.masks.toNat),
       (20, 1, s.events.recs.length), (24, 4, s.events.overflow)] :=
  shows_buildBeat (by rfl) fun _ h => h

theorem State.shows_counters (s : State) : Shows s.countersBeat
    [(0, 4, s.time.ms.toNat), (4, 4, s.counters.strayFetches), (8, 4, s.counters.lateWrites), (12, 4, s.counters.unplaced),
     (16, 4, s.counters.overBudget), (20, 4, s.counters.holdExpiries), (24, 4, s.counters.fetchOrder)] :=
  shows_buildBeat (by rfl) fun _ h => h

/-! ### The service queue beat (R151) -/

/-- The fields of the service queue beat. -/
def State.serviceFields (s : State) : List (Nat × Nat × Nat) :=
  let v := s.svc
  [(0, 1, v.station.code), (1, 1, if v.cap = .closed then 0 else 1), (2, 1, if v.resting = .closed then 0 else 1),
      (3, 1, v.queue.length), (4, 2, v.callMs), (6, 1, if decide (v.station = .spitting) = true then v.spit.passes else 0),
      (7, 1, if decide (v.station = .spitting) = true then v.spit.mark / 64 else 0)] ++ requestFields 0 v.queue ++
     (Chan.all.map fun c => (24 + 2 * c.num, 2, (v.decap.get c).ms / 10)) ++
     [(34, 1, (Chan.all.map fun c => if (v.decap.get c).stale then 2 ^ c.num else 0).sum),
      (35, 1, v.cappedLine.filt.code + 4 * v.openLine.filt.code + 16 * v.wiperLine.filt.code + 64 * v.carriageLine.filt.code),
      (36, 6, v.wipeVolume), (42, 4, v.idleMs)]

theorem State.serviceBeat_eq (s : State) : s.serviceBeat = buildBeat s.serviceFields := rfl

/-- The places of a number of request records. -/
def requestPlaces : Nat → Nat → List (Nat × Nat)
  | _, 0 => []
  | i, n + 1 => (8 + 2 * i, 1) :: (9 + 2 * i, 1) :: requestPlaces (i + 1) n

theorem map_placeOf_requestFields (i : Nat) (q : List ServiceReq) : (requestFields i q).map placeOf = requestPlaces i q.length := by
  induction q generalizing i with
  | nil => rfl
  | cons r q ih =>
    rw [requestFields, List.map_cons, List.map_cons, ih]
    rfl

/-- The places of the service queue beat with a number of request records. -/
def servicePlaces (n : Nat) : List (Nat × Nat) :=
  [(0, 1), (1, 1), (2, 1), (3, 1), (4, 2), (6, 1), (7, 1)] ++ requestPlaces 0 n ++ [(24, 2), (26, 2), (28, 2), (30, 2), (32, 2)] ++
    [(34, 1), (35, 1), (36, 6), (42, 4)]

theorem State.places_serviceFields (s : State) : s.serviceFields.map placeOf = servicePlaces s.svc.queue.length := by
  rw [State.serviceFields, List.map_append, List.map_append, List.map_append, map_placeOf_requestFields]
  rfl

theorem goodLayout_service : ∀ n ≤ 8, goodLayout (servicePlaces n) = true := by decide

theorem apart_service : ∀ n ≤ 8, ∀ j < 8, n ≤ j → (servicePlaces n).all (apartAt (8 + 2 * j, 2)) = true := by decide

theorem mem_requestFields {i j : Nat} {q : List ServiceReq} {r : ServiceReq} (h : q[j]? = some r) :
    (8 + 2 * (i + j), 1, r.level.code + 8 * r.state.code + 32 * flagVal r.flow + 64 * flagVal r.started) ∈ requestFields i q ∧
    (9 + 2 * (i + j), 1, r.chans.mask) ∈ requestFields i q := by
  induction q generalizing i j with
  | nil => exact absurd h nofun
  | cons x q ih =>
    rcases j with _ | j
    · injection h with h
      subst h
      exact ⟨List.mem_cons_self, List.mem_cons_of_mem _ List.mem_cons_self⟩
    · obtain ⟨a, b⟩ := ih (i := i + 1) h
      rw [show i + (j + 1) = i + 1 + j by omega]
      exact ⟨List.mem_cons_of_mem _ (List.mem_cons_of_mem _ a), List.mem_cons_of_mem _ (List.mem_cons_of_mem _ b)⟩

theorem ChanSet.mask_lt (cs : ChanSet) : cs.mask ≤ 31 := by
  have sum (a b c d e : Bool) : (if a then 1 else 0) + ((if b then 2 else 0) + ((if c then 4 else 0) + ((if d then 8 else 0) + ((if e then 16 else 0) + 0)))) ≤ 31 := by
    revert a b c d e
    decide
  exact sum _ _ _ _ _

/-- A request record fits its two bytes. -/
theorem requestCode_lt (r : ServiceReq) : r.level.code + 8 * r.state.code + 32 * flagVal r.flow + 64 * flagVal r.started ≤ 256 ^ 1 - 1 := by
  obtain ⟨level, chans, flow, started, state⟩ := r
  have h : ∀ (l : Fin 7) (a b : Bool) (c : Fin 3), l.val + 8 * c.val + 32 * flagVal a + 64 * flagVal b ≤ 256 ^ 1 - 1 := by decide
  cases level <;> cases state
  all_goals exact h ⟨_, by decide⟩ flow started ⟨_, by decide⟩

section
variable {s : State} (h : s.svc.queue.length ≤ 8)
include h

theorem State.goodLayout_serviceFields : goodLayout (s.serviceFields.map placeOf) = true := by
  rw [s.places_serviceFields]
  exact goodLayout_service _ h

theorem State.request_serviceBeat {j : Nat} {r : ServiceReq} (hr : s.svc.queue[j]? = some r) : leAt s.serviceBeat (8 + 2 * j) 2 =
    r.level.code + 8 * r.state.code + 32 * flagVal r.flow + 64 * flagVal r.started + 256 * r.chans.mask := by
  obtain ⟨first, second⟩ := mem_requestFields (i := 0) hr
  rw [Nat.zero_add] at first second
  have among {f : Nat × Nat × Nat} (m : f ∈ requestFields 0 s.svc.queue) : f ∈ s.serviceFields :=
    List.mem_append_left _ (List.mem_append_left _ (List.mem_append_right _ m))
  have split : leAt s.serviceBeat (8 + 2 * j) 2 = byteAt s.serviceBeat (8 + 2 * j) + 256 * leAt s.serviceBeat (8 + 2 * j + 1) 1 := rfl
  rw [split, byteAt_eq_leAt, show 8 + 2 * j + 1 = 9 + 2 * j by omega, State.serviceBeat_eq,
    leAt_buildBeat (State.goodLayout_serviceFields h) (among first), leAt_buildBeat (State.goodLayout_serviceFields h) (among second),
    Nat.min_eq_left (requestCode_lt r), Nat.min_eq_left (Nat.le_trans r.chans.mask_lt (by decide))]

theorem State.noRequest_serviceBeat {j : Nat} (hj : j < 8) (hr : s.svc.queue[j]? = none) : leAt s.serviceBeat (8 + 2 * j) 2 = 0 := by
  rw [State.serviceBeat_eq]
  refine leAt_buildBeat_zero (State.goodLayout_serviceFields h) ?_
  rw [s.places_serviceFields]
  exact apart_service _ h j hj (List.getElem?_eq_none_iff.1 hr)

theorem State.shows_service : Shows s.serviceBeat
      ([(0, 1, s.svc.station.code), (1, 1, if s.svc.cap = .closed then 0 else 1), (2, 1, if s.svc.resting = .closed then 0 else 1),
       (3, 1, s.svc.queue.length), (4, 2, s.svc.callMs), (6, 1, if s.svc.station = .spitting then s.svc.spit.passes else 0),
       (7, 1, if s.svc.station = .spitting then s.svc.spit.mark / 64 else 0),
       (34, 1, (Chan.all.map fun c => if (s.svc.decap.get c).stale = true then 2 ^ c.num else 0).sum),
       (35, 1, s.svc.cappedLine.filt.code + 4 * s.svc.openLine.filt.code + 16 * s.svc.wiperLine.filt.code + 64 * s.svc.carriageLine.filt.code),
       (36, 6, s.svc.wipeVolume), (42, 4, s.svc.idleMs)] ++ Chan.all.map fun c => (24 + 2 * c.num, 2, (s.svc.decap.get c).ms / 10)) := by
  refine shows_buildBeat (State.goodLayout_serviceFields h) fun g hg => ?_
  simp only [List.mem_append, List.mem_cons, List.not_mem_nil, or_false, decide_eq_true_eq] at hg ⊢
  grind

end

/-! ### The profile state beat (R185) -/

theorem State.shows_profile (s : State) : Shows s.profileBeat
      [(0, 1, s.prof.stagedMask), (1, 1, flagVal s.quietPoint), (2, 1, flagVal s.prof.lastExecuted.isSome + 2 * flagVal s.prof.lastRefused.isSome),
       (4, 2, s.prof.flow.starveLimit), (6, 1, if s.prof.flow.starveAction = .wait then 0 else 1), (7, 1, if s.prof.flow.release = .auto then 0 else 1),
       (12, 1, flagVal s.prof.flow.midSheetWipe), (13, 1, if s.prof.flow.spitPolicy = .any then 0 else 1), (8, 2, s.prof.flow.idleCap), (10, 2, s.prof.flow.wipeInterval),
       (16, 2, (s.prof.lastExecuted.map BitVec.toNat).getD 0), (18, 2, (s.prof.lastRefused.map fun r => r.1.toNat).getD 0),
       (20, 2, (s.prof.lastRefused.map Prod.snd).getD 0)] := by
  refine shows_buildBeat (by rfl) fun g hg => ?_
  simp only [flowFields, List.mem_append, List.mem_cons, List.not_mem_nil, or_false] at hg ⊢
  grind

/-! ### The current sheet beat (R177) -/

/-- The fields of the record that the current sheet beat shows, or of none. -/
def State.shownFields (s : State) : List (Nat × Nat × Nat) :=
  match s.shownSheet? with
  | some t => s.sheetFields t
  | none => [(9, 1, 0xFF), (10, 1, 32 * flagVal s.media.fault)]

/-- The fields of the sensor lines of the media path and of the table. -/
def State.pathFields (s : State) : List (Nat × Nat × Nat) :=
  [(30, 1, s.media.feedPath.filt.code + 4 * s.media.platen.filt.code + 16 * s.media.cutterHome.filt.code), (31, 1, s.media.table.length)]

/-- The fields of the operation in flight. -/
def State.motionFields (s : State) : List (Nat × Nat × Nat) := (s.media.op.map opFields).getD []

theorem State.sheetBeat_eq (s : State) : s.sheetBeat = buildBeat (s.shownFields ++ s.pathFields ++ s.motionFields) := by
  unfold State.sheetBeat State.shownFields State.motionFields
  cases s.media.op <;> rfl

theorem State.goodLayout_sheet (s : State) : goodLayout ((s.shownFields ++ s.pathFields ++ s.motionFields).map placeOf) = true := by
  unfold State.shownFields State.motionFields
  cases s.shownSheet? <;> cases s.media.op <;> rfl

theorem State.shows_sheet {s : State} {fs : List (Nat × Nat × Nat)} (h : ∀ f ∈ fs, f ∈ s.shownFields ∨ f ∈ s.pathFields ∨ f ∈ s.motionFields) :
    Shows s.sheetBeat fs := by
  rw [s.sheetBeat_eq]
  refine shows_buildBeat s.goodLayout_sheet fun f m => ?_
  rw [List.mem_append, List.mem_append, or_assoc]
  exact h f m

/-- With no sheet shown the first byte is 0. -/
theorem State.noSheet_shown {s : State} (h : s.shownSheet? = none) : leAt s.sheetBeat 0 1 = 0 := by
  rw [s.sheetBeat_eq]
  refine leAt_buildBeat_zero s.goodLayout_sheet ?_
  unfold State.shownFields State.motionFields
  rw [h]
  cases s.media.op <;> rfl

theorem State.shows_noSheet {s : State} (h : s.shownSheet? = none) :
    Shows s.sheetBeat [(0, 1, 0), (9, 1, 0xFF), (10, 1, 32 * flagVal s.media.fault)] := by
  have rest : Shows s.sheetBeat [(9, 1, 0xFF), (10, 1, 32 * flagVal s.media.fault)] := State.shows_sheet fun f m => .inl <| by
    rw [State.shownFields, h]
    exact m
  refine ⟨rest.1, fun f m => ?_⟩
  rcases List.mem_cons.1 m with rfl | m
  · exact State.noSheet_shown h
  · exact rest.2 f m

end Sys2Proof.Machine

section
open Sys2Proof Sys2Proof.Machine

/-- Settles O21: the reads by the class of a beat, the result and status beats by their fields. -/
theorem fetchReadsThatDoNotCount : Obligations.FetchReadsThatDoNotCount := by
  refine ⟨fun s a mem g r => ⟨fun c => ?_, fun i k c => ?_, fun o b c h => ?_, ?_⟩, fun s cls a mems g f c => ?_, ?_⟩
  · exact State.exec_planeFetchRead_data g r c rfl
  · exact State.exec_planeFetchRead_data g r c rfl
  · have e := State.exec_planeFetchRead_data g r (mem := mem) c rfl
    have data : (s.atRead .fetch a.toNat).dataOf mem (.control o) = b := congrArg (Option.getD · mem) h
    rwa [data] at e
  · intro win c found k o
    refine ⟨fun idle unarmed below => ?_, fun fires ahead below => ?_, fun fires behind => ?_⟩
    · refine State.exec_planeFetchRead_plane g r c (State.planeAnswer_stray (s := s.atRead .fetch a.toNat) found idle unarmed) ?_ g.agenda
      rw [State.count_of_le (s := s.atRead .fetch a.toNat) (i := .strayFetches) below]
      have answered := State.answer_atRead (s := { s with counters := { s.counters with strayFetches := s.counters.strayFetches + 1 } })
        (cls := .fetch) (fun _ => ⟨r.held, r.gathered, r.waiting, r.stalled⟩) a.toNat zeroBeat
      exact answered
    · refine State.exec_planeFetchRead_plane g r c (State.planeAnswer_ahead (s := s.atRead .fetch a.toNat) found fires mem ahead) ?_ g.agenda
      rw [State.fetchOrderFault_eq (s := s.atRead .fetch a.toNat) win o below]
      have answered := State.answer_atRead (s := { s with
        counters := { s.counters with fetchOrder := s.counters.fetchOrder + 1 },
        slots := if k.tally.fetchOrderPosted = true then s.slots else s.slots.set win.slot { k with tally := { k.tally with fetchOrderPosted := true } },
        events := if k.tally.fetchOrderPosted = true then s.events else s.posted .fetchOrder win.slot.val (win.chan.num + 256 * o) win.mark })
        (cls := .fetch) (fun _ => ⟨r.held, r.gathered, r.waiting, r.stalled⟩) a.toNat zeroBeat
      exact answered
    · obtain ⟨d, e⟩ := State.planeAnswer_reread (s := s.atRead .fetch a.toNat) found fires mem behind
      exact ⟨d, State.exec_planeFetchRead_plane g r c e (State.answer_atRead (fun _ => r) ..) g.agenda⟩
  · refine (State.exec_planeFetchRead_other g f c).trans ?_
    refine congrArg (fun x => Host.Outcome.next { s with link := { s.link with silence := 0 }, out := { forwarded := [.read a.toNat mems.length cls], answers := x } }) ?_
    refine List.map_congr_left fun m _ => ?_
    rw [State.classify_congr (s := s) (t := { s with link := { s.link with silence := 0 } }) rfl rfl]
    refine congrArg (Answer.mk cls (a.toNat + 64 * m.2)) ?_
    generalize s.classify (a.toNat + 64 * m.2) = x
    cases x <;> rfl
  · intro flag s
    refine ⟨⟨_, rfl, s.shows_result⟩, ⟨_, rfl, ?_⟩, fun c => ⟨_, s.statusBeat_ink c, shows_buildBeat (by rfl) fun _ h => h⟩,
      fun c => ⟨_, s.statusBeat_health c, shows_buildBeat (by rfl) fun _ h => h⟩, fun r => ⟨_, s.statusBeat_roll r, shows_buildBeat (by rfl) fun _ h => h⟩,
      fun len => ⟨_, rfl, State.shows_service len, fun j hj => ?_⟩, ⟨_, rfl, s.shows_counters⟩, ⟨_, rfl, ?_⟩, ⟨_, rfl, fun u hu => ?_, fun none => ?_, ?_, fun o ho => ?_⟩⟩
    · simp only [flag, ite_eq_mul_flagVal, Nat.one_mul]
      exact s.shows_part
    · cases hr : s.svc.queue[j]? with
      | none => exact State.noRequest_serviceBeat len hj hr
      | some r =>
        simp only [flag, ite_eq_mul_flagVal, Nat.mul_comm _ (flagVal _)]
        refine (State.request_serviceBeat len hr).trans ?_
        rw [Nat.mul_comm 32, Nat.mul_comm 64]
    · simp only [flag, ite_eq_mul_flagVal, Nat.one_mul]
      exact s.shows_profile
    · refine State.shows_sheet fun f m => .inl ?_
      rw [State.shownFields, hu]
      have flags : flag u.spoil.isSome 1 + flag u.endCommitted 2 + flag u.inkShort 4 + flag u.expected.isSome 8 + flag u.trailing.isSome 16 +
          flag s.media.fault 32 = flagVal u.spoil.isSome + 2 * flagVal u.endCommitted + 4 * flagVal u.inkShort + 8 * flagVal u.expected.isSome +
          16 * flagVal u.trailing.isSome + 32 * flagVal s.media.fault := by
        simp only [flag, ite_eq_mul_flagVal, Nat.one_mul]
      rw [flags] at m
      exact m
    · simp only [flag, ite_eq_mul_flagVal]
      exact State.shows_noSheet none
    · exact State.shows_sheet fun f m => .inr (.inl m)
    · refine State.shows_sheet fun f m => .inr (.inr ?_)
      rw [State.motionFields, ho]
      exact m

end

/-! O29, O30, O31, O32: pause and resume, the cancellations, starvation (R76 to R81). -/
namespace Sys2Proof.Machine

/-! ### A directive that is taken in any state of the link (R179) -/

/-- The state in which a directive that arrives in `z` runs. -/
def State.taking (z : State) (w : WriteBeat) : State := { z with mail := { z.mail with lastTaken := some w.triggerSeq } }

theorem State.trigger_taken {z t : State} {w : WriteBeat} (h : z.takesTrigger w) {k : Nat} {run : State → Taken} {c : ResultCode} {d : Nat}
    (e : run (z.taking w) = ⟨c, d, t⟩) : z.trigger k w run = t.putResult w.triggerSeq k c d := by
  obtain ⟨whole, fresh⟩ := h
  unfold State.trigger
  rw [if_neg (by rw [whole]; exact Bool.false_ne_true), if_neg fresh]
  change (run (z.taking w)).after.putResult w.triggerSeq k (run (z.taking w)).code (run (z.taking w)).detail = _
  rw [e]

/-- The mailbox after the answer of a directive that leaves it to the Path Mediator. -/
theorem State.mail_answered {z t : State} {w : WriteBeat} (h : t.mail = (z.taking w).mail) (k : Nat) (c : ResultCode) (d : Nat) :
    (t.putResult w.triggerSeq k c d).mail = z.mail.answered w k c d := by
  unfold State.putResult
  dsimp only
  rw [h]
  rfl

/-! ### PAUSE and RESUME (R77, R78) -/

/-- The state in which a trigger that arrives finds the part. -/
def State.triggered (s : State) (w : WriteBeat) : State := s.cleared.triggerArrives w

section
variable {s : State} {w : WriteBeat} (h : s.takesTrigger w)
include h

theorem State.takesTrigger_triggered : (s.triggered w).takesTrigger w := State.takesTrigger_triggerArrives h

omit h in
theorem State.mail_triggered : (s.triggered w).mail = s.mail := State.mail_triggerArrives s.cleared w

omit h in
theorem State.pause_triggered : (s.triggered w).flow.pause = s.flow.pause := State.pause_arrived s.cleared

omit h in
theorem State.fresh_triggered : (s.triggered w).Fresh := State.Fresh.frame (State.fresh_arrived s.cleared) rfl

/-- What a directive leaves, before the reactions to it. -/
theorem State.exec_directive {i : Instr} {k : Nat} {run : State → Taken} {c : ResultCode} {d : Nat} {t : State}
    (x : exec i s = .next (s.event fun s => (s.triggerArrives w).trigger k w run)) (e : run ((s.triggered w).taking w) = ⟨c, d, t⟩) :
    exec i s = .next (settle settleFuel (t.putResult w.triggerSeq k c d)) := by
  rw [x]
  exact congrArg (fun t => Host.Outcome.next (settle settleFuel t)) (State.trigger_taken (State.takesTrigger_triggered h) e)

end

/-- The machine that pauses. -/
def State.pausing (z : State) : State := if z.flow.pause then z else z.setPause

/-- The machine that resumes: the pause flag cleared and the timer set to 0. -/
def State.resumed (z : State) : State :=
  if z.flow.pause then ({ z.starveZero with flow := { z.starveZero.flow with pause := false } }.wake [.evalFront]).stir else z

section
variable (z : State)

theorem State.doPause_eq : z.doPause = ⟨.done, flagDetail z.flow.pause, z.pausing⟩ := rfl

theorem State.pause_pausing : z.pausing.flow.pause = true := by
  unfold State.pausing
  split
  · assumption
  · exact congrArg Flow.pause ((State.flow_stir _).trans (State.flow_wake _ _))

theorem State.mail_pausing : z.pausing.mail = z.mail := by
  unfold State.pausing
  split
  · rfl
  · exact (State.mail_stir _).trans (State.mail_wake _ _)

theorem State.doResume_eq : z.doResume = ⟨.done, flagDetail z.flow.pause, z.resumed⟩ := rfl

theorem State.flow_resumed (h : z.flow.pause = true) : z.resumed.flow = { z.flow with starveMs := 0, starvedPosted := false, pause := false } := by
  unfold State.resumed
  rw [if_pos h]
  exact (State.flow_stir _).trans (State.flow_wake _ _)

theorem State.pause_resumed : z.resumed.flow.pause = false := by
  by_cases h : z.flow.pause = true
  · rw [State.flow_resumed z h]
  · unfold State.resumed
    rw [if_neg h]
    exact Bool.eq_false_iff.mpr h

theorem State.link_resumed : z.resumed.link = z.link := by
  unfold State.resumed
  split
  · exact (State.link_stir _).trans (State.link_wake _ _)
  · rfl

theorem State.mail_resumed : z.resumed.mail = z.mail := by
  unfold State.resumed
  split
  · exact (State.mail_stir _).trans (State.mail_wake _ _)
  · rfl

end

theorem flagDetail_eq (b : Bool) : flagDetail b = if b = true then 1 else 0 := rfl

/-- Settles O29. -/
theorem pauseAndResume : Obligations.PauseAndResume := by
  intro s w h
  refine ⟨?_, ?_, fun r p => ?_, fun r p => ?_⟩
  · have e := State.exec_directive h (i := .pause w) (k := 1) (run := State.doPause) rfl (State.doPause_eq _)
    have q := settle_keeps settleFuel (.refl ((((s.triggered w).taking w).pausing).putResult w.triggerSeq 1 .done
      (flagDetail ((s.triggered w).taking w).flow.pause)))
    refine ⟨_, e, q.paused (State.pause_pausing _), ?_⟩
    rw [q.mail, State.mail_answered (z := s.triggered w) (State.mail_pausing _), State.mail_triggered, flagDetail_eq,
      show ((s.triggered w).taking w).flow.pause = s.flow.pause from State.pause_triggered (w := w)]
  · have e := State.exec_directive h (i := .resume w) (k := 2) (run := State.doResume) rfl (State.doResume_eq _)
    have fresh : ((((s.triggered w).taking w).resumed).putResult w.triggerSeq 2 .done (flagDetail ((s.triggered w).taking w).flow.pause)).Fresh :=
      State.Fresh.frame (State.fresh_triggered (s := s) (w := w)) (State.link_resumed _)
    have q := Keeps.linkUp (settle_keeps settleFuel (.refl _)) fresh.1 (by rw [fresh.2]; decide)
    refine ⟨_, _, e, rfl, ?_, ?_, fun p => ?_⟩
    · obtain ⟨-, -, pause⟩ := q
      rw [pause]
      exact State.pause_resumed _
    · rw [(settle_keeps settleFuel (.refl _)).mail, State.mail_answered (z := s.triggered w) (State.mail_resumed _), State.mail_triggered,
        flagDetail_eq, show ((s.triggered w).taking w).flow.pause = s.flow.pause from State.pause_triggered (w := w)]
    · have p' : ((s.triggered w).taking w).flow.pause = true := (State.pause_triggered (s := s) (w := w)).trans p
      exact congrArg Flow.starveMs (State.flow_resumed _ p')
  · have e : State.doPause (s.atDirective w) = ⟨.done, 1, s.atDirective w⟩ := by
      unfold State.doPause
      rw [show (s.atDirective w).flow.pause = true from p]
      rfl
    exact congrArg Host.Outcome.next (State.directive_answers h r 1 State.doPause _ _ e)
  · have e : State.doResume (s.atDirective w) = ⟨.done, 0, s.atDirective w⟩ := by
      unfold State.doResume
      rw [show (s.atDirective w).flow.pause = false from p]
      rfl
    exact congrArg Host.Outcome.next (State.directive_answers h r 2 State.doResume _ _ e)

end Sys2Proof.Machine

namespace Sys2Proof.Machine

/-! ### Spoiling a sheet (R79, R173) -/

theorem State.triggered_up {s : State} {w : WriteBeat} (h : s.link.state = .up) : s.triggered w = s.afterWrite (s.spanBase + 0xC0) w :=
  State.triggerArrives_up h w

theorem State.parser_taking {s : State} {w : WriteBeat} (h : s.link.state = .up) : ((s.triggered w).taking w).parser = s.parser := by
  rw [State.triggered_up h]
  rfl

theorem State.mail_directive {s t : State} {w : WriteBeat} (h : t.mail = ((s.triggered w).taking w).mail) (n k : Nat) (c : ResultCode) (d : Nat) :
    (settle n (t.putResult w.triggerSeq k c d)).mail = s.mail.answered w k c d := by
  rw [(settle_keeps n (.refl _)).mail, State.mail_answered (z := s.triggered w) h, State.mail_triggered]

/-- The sheet goes on: neither over nor being spoiled (R173). -/
def Sheet.goesOn (t : Sheet) : Bool := !(t.st == .done || t.st == .spoiled) && t.spoil.isNone

theorem Sheet.goesOn_iff (t : Sheet) : t.goesOn = true ↔ ¬ (t.st = .done ∨ t.st = .spoiled ∨ t.spoil.isSome) := by
  unfold Sheet.goesOn
  cases t.spoil <;> simp

theorem Sheet.goesOn_eq_false_iff (t : Sheet) : t.goesOn = false ↔ t.st = .done ∨ t.st = .spoiled ∨ t.spoil.isSome := by
  rw [← Bool.not_eq_true, Sheet.goesOn_iff, Classical.not_not]

/-- Every record of the sheet carries the spoiling flag. -/
def State.Marked (s : State) (sid : Nat) : Prop := ∀ x ∈ s.media.table, x.sid = sid → x.spoil.isSome

theorem State.Marked.keeps {s t : State} {sid : Nat} (h : s.Marked sid) (q : Keeps s t) : t.Marked sid := by
  intro x hx e
  obtain ⟨v, hv, same⟩ := q.table x hx
  exact same.spoiled (h v hv (same.sid.symm.trans e))

theorem State.marked_setSheet (s : State) (sid : Nat) (r : Reason) : (s.setSheet sid fun t => { t with spoil := some r }).Marked sid := by
  intro x hx e
  unfold State.setSheet at hx
  rw [State.media_stir] at hx
  obtain ⟨t, -, rfl⟩ := List.mem_map.mp hx
  split
  · rfl
  · rename_i n
    rw [if_neg n] at e
    exact absurd e n

theorem State.spoil_marks {s : State} {sid : Nat} {t : Sheet} (h : s.sheet? sid = some t) (g : t.goesOn = true) (r : Reason) :
    Quiet (s.setSheet sid fun t => { t with spoil := some r }) (s.spoil sid r) := by
  unfold State.spoil
  rw [h]
  have n := (Sheet.goesOn_iff t).mp g
  dsimp only
  rw [if_neg (by simpa [or_assoc] using n)]
  have q {u : State} (l : List SlotIx) : Quiet u (u.together fun s => l.foldl (fun s i => s.spoilSwath r i) s) :=
    Quiet.together (.refl u) fun v hv => Quiet.foldl hv fun v i hv => State.spoilSwath_quiet hv r i
  split
  · split
    · exact State.becomeSpoiled_quiet (q _) _ _
    · exact q _
  · exact q _

/-- A sheet that goes on, spoiled: the flag stands in what follows. -/
theorem State.spoil_marked {s : State} {sid : Nat} {t : Sheet} (h : s.sheet? sid = some t) (g : t.goesOn = true) (r : Reason) :
    (s.spoil sid r).Marked sid := (s.marked_setSheet sid r).keeps (State.spoil_marks h g r).toKeeps

/-! ### CANCEL_SHEET (R80) -/

theorem List.find?_after {α : Type} {p : α → Bool} {l before after : List α} {v : α} (h : l = before ++ v :: after)
    (b : ∀ x ∈ before, p x = false) (t : p v = true) : l.find? p = some v := by
  rw [h, List.find?_append, List.find?_eq_none.mpr (fun x hx => by rw [b x hx]; exact Bool.false_ne_true), List.find?_cons_of_pos t]
  rfl

theorem State.currentSheet?_eq (s : State) : s.currentSheet? = s.media.table.find? Sheet.goesOn := rfl

theorem State.doCancelSheet_some {z : State} {v : Sheet} (h : z.currentSheet? = some v) :
    z.doCancelSheet = ⟨.done, v.number, z.spoil v.sid .cancelled⟩ := by
  unfold State.doCancelSheet
  rw [h]

theorem State.doCancelSheet_none {z : State} (h : z.currentSheet? = none) : z.doCancelSheet = ⟨.state, 0, z⟩ := by
  unfold State.doCancelSheet
  rw [h]

/-- Settles O30, by the frame of a spoil and of the reactions after it. -/
theorem cancelSheetSpoilsTheCurrentSheet : Obligations.CancelSheetSpoilsTheCurrentSheet := by
  intro s w h
  refine ⟨fun v before after up table ended go ids => ?_, fun r all => ?_⟩
  · have tb : ((s.triggered w).taking w).media.table = before ++ v :: after := by
      rw [← table, State.triggered_up up]
      rfl
    have goes := (Sheet.goesOn_iff v).mpr go
    have cur : ((s.triggered w).taking w).currentSheet? = some v :=
      List.find?_after tb (fun x hx => (Sheet.goesOn_eq_false_iff x).mpr (ended x hx)) goes
    have own : ((s.triggered w).taking w).sheet? v.sid = some v :=
      List.find?_after tb (fun x hx => beq_eq_false_iff_ne.mpr (ids x hx)) (beq_self_eq_true _)
    have e := State.exec_directive h (i := .cancelSheet w) (k := 3) (run := State.doCancelSheet) rfl (State.doCancelSheet_some cur)
    have q := State.spoil_quiet (.refl ((s.triggered w).taking w)) v.sid .cancelled
    have k := settle_keeps settleFuel (.refl ((((s.triggered w).taking w).spoil v.sid .cancelled).putResult w.triggerSeq 3 .done v.number))
    refine ⟨_, e, State.mail_directive q.mail .., State.Marked.keeps (s := (((s.triggered w).taking w).spoil v.sid .cancelled).putResult w.triggerSeq 3 .done v.number)
      (State.spoil_marked own goes .cancelled) k, ?_, ?_, ?_⟩
    · exact k.expected.trans (q.expected.trans (congrArg Parser.expected (State.parser_taking up)))
    · exact k.lastAccepted.trans (q.lastAccepted.trans (congrArg Parser.lastAccepted (State.parser_taking up)))
    · exact k.openSheet.trans (q.openSheet.trans (congrArg Parser.openSheet (State.parser_taking up)))
  · have none : (s.atDirective w).currentSheet? = none :=
      List.find?_eq_none.mpr fun x hx => Bool.eq_false_iff.mp ((Sheet.goesOn_eq_false_iff x).mpr (all x hx))
    exact congrArg Host.Outcome.next (State.directive_answers h r 3 State.doCancelSheet _ _ (State.doCancelSheet_none none))

end Sys2Proof.Machine

namespace Sys2Proof.Machine

/-! ### CANCEL_ALL (R81) -/

/-- The posted list of `t` is part of that of `s`. -/
def State.PostedWithin (s t : State) : Prop := ∀ i ∈ t.parser.posted, i ∈ s.parser.posted

theorem State.PostedWithin.refl (s : State) : s.PostedWithin s := fun _ => id
theorem State.PostedWithin.trans {s t u : State} (a : s.PostedWithin t) (b : t.PostedWithin u) : s.PostedWithin u := fun i h => a i (b i h)
theorem State.PostedWithin.same {s t : State} (e : t.parser = s.parser) : s.PostedWithin t := fun i h => by rwa [e] at h

section
variable (s : State)

theorem State.posted_retire (i : SlotIx) (o : SlotOutcome) (r : Option Reason) (d : Nat) :
    (s.retire i o r d).parser.posted = s.parser.posted.filter fun j => j ≠ i := by
  obtain ⟨a, p, v, u, l, e, h⟩ := s.retire_frame i o r d
  rw [e]
  exact h

theorem State.slot_retire_ne {i j : SlotIx} (h : j ≠ i) (o : SlotOutcome) (r : Option Reason) (d : Nat) :
    (s.retire i o r d).slot j = s.slot j := by
  obtain ⟨a, p, v, u, l, e, -⟩ := s.retire_frame i o r d
  rw [slot_set (s := s) (by rw [e]) j, if_neg h]

theorem State.postedWithin_retire (i : SlotIx) (o : SlotOutcome) (r : Option Reason) (d : Nat) : s.PostedWithin (s.retire i o r d) := by
  intro j h
  rw [State.posted_retire] at h
  exact (List.mem_filter.mp h).1

theorem State.postedWithin_spoilSwath (r : Reason) (i : SlotIx) : s.PostedWithin (s.spoilSwath r i) := by
  unfold State.spoilSwath
  split
  · exact s.postedWithin_retire i _ _ _
  · exact s.postedWithin_retire i _ _ _
  · exact s.postedWithin_retire i _ _ _
  · exact .refl s
  · exact .refl s

theorem State.parser_sheetBoundarySpit : s.sheetBoundarySpit.parser = s.parser := by
  unfold State.sheetBoundarySpit State.offerStaleSpit
  split
  · split
    · rfl
    · obtain ⟨q, a, e, h⟩ := s.offer_frame .spit s.uncoveredStale false
      have offered : (s.offer .spit s.uncoveredStale false).2.parser = s.parser := by rw [h]
      split
      next x => rwa [x] at offered
      next x => rwa [x] at offered
  · rfl

theorem State.parser_sheetMoved (sid : Nat) : (s.sheetMoved sid).parser = s.parser := by
  unfold State.sheetMoved
  split
  · exact (State.parser_wake _ _).trans (State.parser_wake _ _)
  · exact State.parser_wake _ _

theorem State.parser_becomeSpoiled (t : Sheet) (cut : Bool) : (s.becomeSpoiled t cut).parser = s.parser := by
  have left : (s.leavePrinting t).parser = s.parser := by
    unfold State.leavePrinting
    split <;> rfl
  unfold State.becomeSpoiled
  rw [State.parser_sheetMoved, State.parser_sheetBoundarySpit, State.parser_post, State.parser_modSheet, left]

theorem State.postedWithin_foldl {f : State → SlotIx → State} (h : ∀ s i, State.PostedWithin s (f s i)) (l : List SlotIx) : s.PostedWithin (l.foldl f s) := by
  induction l generalizing s with
  | nil => exact .refl s
  | cons i l ih => exact (h s i).trans (ih (f s i))

theorem State.postedWithin_together {f : State → State} (h : ∀ s, State.PostedWithin s (f s)) : s.PostedWithin (s.together f) :=
  fun i m => h { s with agenda := [] } i m

theorem State.postedWithin_spoil (sid : Nat) (r : Reason) : s.PostedWithin (s.spoil sid r) := by
  unfold State.spoil
  split
  · exact .refl s
  next t _ =>
    split
    · exact .refl s
    · extract_lets mine s1 s2
      have w1 : s.PostedWithin s1 := .same ((State.parser_stir _).trans (State.parser_modSheet ..))
      have w : s.PostedWithin s2 :=
        w1.trans (s1.postedWithin_together fun s => s.postedWithin_foldl (fun s i => s.postedWithin_spoilSwath r i) mine)
      split
      · split
        · exact w.trans (.same (State.parser_becomeSpoiled ..))
        · exact w
      · exact w

theorem State.posted_cancelEntry (i : SlotIx) : (s.cancelEntry i).parser.posted = s.parser.posted.filter fun j => j ≠ i := by
  unfold State.cancelEntry
  split
  · exact s.posted_retire ..
  · exact s.posted_retire ..

theorem State.slot_cancelEntry_ne {i j : SlotIx} (h : j ≠ i) : (s.cancelEntry i).slot j = s.slot j := by
  unfold State.cancelEntry
  split
  · exact s.slot_retire_ne h ..
  · exact s.slot_retire_ne h ..

/-- The entries retired leave the posted list; the slots of the others stay. -/
theorem State.foldl_cancelEntry (l : List SlotIx) :
    (∀ j ∈ (l.foldl State.cancelEntry s).parser.posted, j ∈ s.parser.posted ∧ j ∉ l) ∧ ∀ j, j ∉ l → (l.foldl State.cancelEntry s).slot j = s.slot j := by
  induction l generalizing s with
  | nil => exact ⟨fun j h => ⟨h, nofun⟩, fun j _ => rfl⟩
  | cons i l ih =>
    obtain ⟨posted, slots⟩ := ih (s.cancelEntry i)
    refine ⟨fun j h => ?_, fun j h => ?_⟩
    · obtain ⟨member, out⟩ := posted j h
      rw [State.posted_cancelEntry] at member
      obtain ⟨member, ne⟩ := List.mem_filter.mp member
      exact ⟨member, by simp only [List.mem_cons, not_or]; exact ⟨of_decide_eq_true ne, out⟩⟩
    · rw [List.mem_cons, not_or] at h
      obtain ⟨ne, out⟩ := h
      exact (slots j out).trans (s.slot_cancelEntry_ne ne)

end

/-- A slot that CANCEL_ALL retires where it is posted. -/
theorem Slot.cancels_iff (k : Slot) : (k.waits || k.st == .admitted) = true ↔ k.st = .posted ∨ k.st = .held ∨ k.st = .admitted := by
  unfold Slot.waits
  cases k.st <;> decide

/-- What stays posted after steps 1 and 2 of R81. -/
theorem State.posted_cancelEntries (s : State) : ∀ i ∈ s.cancelEntries.parser.posted,
    i ∈ s.parser.posted ∧ ((s.cancelEntries.slot i).waits || (s.cancelEntries.slot i).st == .admitted) = false := by
  intro i h
  unfold State.cancelEntries at h
  extract_lets s1 at h
  change i ∈ s.parser.posted ∧ (((s1.cancelList.foldl State.cancelEntry s1).slot i).waits ||
    ((s1.cancelList.foldl State.cancelEntry s1).slot i).st == .admitted) = false
  obtain ⟨posted, slots⟩ := s1.foldl_cancelEntry s1.cancelList
  obtain ⟨member, out⟩ := posted i h
  have within : s.PostedWithin s1 := by
    change s.PostedWithin (match s.currentSheet? with | some t => _ | none => _)
    split
    · exact s.postedWithin_spoil _ _
    · exact .refl s
  refine ⟨within i member, ?_⟩
  rw [slots i out]
  exact Bool.eq_false_iff.mpr fun w => out (List.mem_filter.mpr ⟨member, w⟩)

theorem State.slot_markFiring (s : State) (i : SlotIx) :
    s.markFiring.slot i = if (s.slot i).st = .firing then { s.slot i with cancel := some ((s.slot i).cancel.getD .cancelled) } else s.slot i := by
  unfold State.markFiring State.slot
  rw [slots_get_eq, slots_get_eq, Vector.getElem_map]

theorem State.cancels_markFiring (s : State) (i : SlotIx) :
    ((s.markFiring.slot i).waits || (s.markFiring.slot i).st == .admitted) = ((s.slot i).waits || (s.slot i).st == .admitted) := by
  rw [State.slot_markFiring]
  split <;> rfl

theorem State.cancel_markFiring (s : State) (i : SlotIx) (h : (s.markFiring.slot i).st = .firing) : (s.markFiring.slot i).cancel.isSome := by
  rw [State.slot_markFiring] at h ⊢
  split at h
  next f =>
    rw [if_pos f]
    rfl
  next n => exact absurd h n

/-- What steps 1 to 4 of CANCEL_ALL leave (R81). -/
def State.cancelled (s : State) : State := (s.together State.cancelEntries).markFiring.dropPending.stir

theorem State.doCancelAll_eq (s : State) : s.doCancelAll = ⟨.done, s.cancelList.length, s.cancelled⟩ := rfl

theorem State.slot_cancelled (s : State) (i : SlotIx) : s.cancelled.slot i = (State.cancelEntries { s with agenda := [] }).markFiring.slot i := by
  unfold State.cancelled State.slot
  rw [State.slots_stir]
  rfl

theorem State.parser_cancelled (s : State) : s.cancelled.parser = State.parser (State.cancelEntries { s with agenda := [] }) :=
  State.parser_stir _

theorem State.table_cancelled (s : State) {x : Sheet} (h : x ∈ s.cancelled.media.table) : x.st ≠ .pending := by
  unfold State.cancelled at h
  rw [State.media_stir] at h
  exact of_decide_eq_true (by simpa using (List.mem_filter.mp h).2)

theorem State.cancelEntry_quiet {z s : State} (h : Quiet z s) (i : SlotIx) : Quiet z (s.cancelEntry i) := by
  unfold State.cancelEntry
  split
  · exact State.retire_quiet h ..
  · exact State.retire_quiet h ..

theorem State.cancelEntries_quiet {z s : State} (h : Quiet z s) : Quiet z s.cancelEntries := by
  unfold State.cancelEntries
  extract_lets s1
  refine Quiet.foldl ?_ fun t i ht => State.cancelEntry_quiet ht i
  change Quiet z (match s.currentSheet? with | some t => _ | none => _)
  split
  · exact State.spoil_quiet h ..
  · exact h

theorem State.cancelled_quiet (s : State) : Quiet s s.cancelled := by
  have table (m : Media) : m.Same { m with table := m.table.filter fun t => t.st != .pending } :=
    ⟨rfl, rfl, rfl, rfl, rfl, rfl, rfl, rfl, rfl, fun u h => ⟨u, (List.mem_filter.mp h).1, .refl u⟩, List.length_filter_le ..⟩
  exact ((State.markFiring_quiet ((Quiet.refl s).together fun t h => State.cancelEntries_quiet h)).modMedia table).stir

theorem State.cancelList_length (s : State) :
    s.cancelList.length = s.parser.posted.countP fun i => (s.slot i).waits || (s.slot i).st == .admitted :=
  List.countP_eq_length_filter.symm

theorem State.slot_putResult (s : State) (q : Seq) (k : Nat) (c : ResultCode) (d : Nat) (i : SlotIx) :
    (s.putResult q k c d).slot i = s.slot i := rfl

/-- Settles O31, by the entries that CANCEL_ALL retires, one after another. -/
theorem cancelAllRetiresWhatWaits : Obligations.CancelAllRetiresWhatWaits := by
  intro s w h up
  have e := State.exec_directive h (i := .cancelAll w) (k := 4) (run := State.doCancelAll) rfl (State.doCancelAll_eq _)
  have base := State.parser_taking (w := w) up
  generalize hz : (s.triggered w).taking w = z at e base
  have slots (i : SlotIx) : z.slot i = s.slot i := by
    rw [← hz, State.triggered_up up]
    rfl
  have q := z.cancelled_quiet
  have k := settle_keeps settleFuel (.refl (z.cancelled.putResult w.triggerSeq 4 .done z.cancelList.length))
  refine ⟨_, _, e, rfl, ?_, fun i m => ?_, fun i f => ?_, fun x m => ?_, ?_, ?_, ?_, fun i => ?_⟩
  · have count : z.cancelList.length = s.parser.posted.countP fun i => (s.slot i).waits || (s.slot i).st == .admitted := by
      rw [State.cancelList_length, base]
      simp only [slots]
    rw [← count]
    exact State.mail_directive (hz ▸ q.mail) ..
  · rw [State.parser_putResult, State.parser_cancelled] at m
    obtain ⟨member, waits⟩ := State.posted_cancelEntries { z with agenda := [] } i m
    refine ⟨base ▸ member, ?_⟩
    rw [← State.cancels_markFiring, ← State.slot_cancelled] at waits
    rw [State.slot_putResult]
    exact fun o => Bool.eq_false_iff.mp waits ((Slot.cancels_iff (z.cancelled.slot i)).mpr o)
  · rw [State.slot_putResult, State.slot_cancelled] at f ⊢
    exact State.cancel_markFiring _ i f
  · obtain ⟨v, hv, same⟩ := k.table x m
    rw [State.media_putResult] at hv
    exact fun p => State.table_cancelled z hv (same.pending p)
  · exact k.expected.trans (q.expected.trans (congrArg Parser.expected base))
  · exact k.lastAccepted.trans (q.lastAccepted.trans (congrArg Parser.lastAccepted base))
  · exact k.openSheet.trans (q.openSheet.trans (congrArg Parser.openSheet base))
  · rw [(k.slots i).shadow, State.slot_putResult, (q.slots i).shadow, slots i]

end Sys2Proof.Machine

namespace Sys2Proof.Machine

/-! ### The starvation limit (R76) -/

section
variable {s : State} {i : SlotIx} {v : Sheet}

theorem State.inkHeld?_eq (f : s.front? = some i) (p : s.printing? = some v) (st : (s.slot i).st = .held) (r : (s.slot i).reason = some .ink)
    (sh : (s.slot i).sheet = some v.sid) : s.inkHeld? = some (i, v) := by
  unfold State.inkHeld?
  rw [f, p]
  dsimp only
  rw [if_pos (by simp [st, r, sh])]

/-- STARVED is posted, once until the timer is next 0; the timer stands at the limit at the least. -/
def State.starvedPost (s : State) (i : SlotIx) : State :=
  let ms := max s.flow.starveMs s.starveLimitMs
  { s with flow := { s.flow with starveMs := ms, starvedPosted := true },
           events := if s.flow.starvedPosted = true then s.events else s.posted .starved i.val (s.slot i).detail ms }

theorem State.starvedNow_some (h : s.inkHeld? = some (i, v)) (c : s.starveCounts = true) :
    s.starvedNow = if s.prof.flow.starveAction = .spoil then (s.starvedPost i).spoil v.sid .starved else s.starvedPost i := by
  have e : State.starveAct { s with flow := { s.flow with starveMs := max s.flow.starveMs s.starveLimitMs } } i v =
      if s.prof.flow.starveAction = .spoil then (s.starvedPost i).spoil v.sid .starved else s.starvedPost i := by
    have left : State.starvedPost s i =
        (if s.flow.starvedPosted then { s with flow := { s.flow with starveMs := max s.flow.starveMs s.starveLimitMs } }
          else { s with flow := { s.flow with starveMs := max s.flow.starveMs s.starveLimitMs, starvedPosted := true },
                        events := s.posted .starved i.val (s.slot i).detail (max s.flow.starveMs s.starveLimitMs) }) := by
      unfold State.starvedPost
      dsimp only
      split <;> simp_all
    rw [left]
    unfold State.starveAct
    dsimp only
    split <;> rfl
  unfold State.starvedNow
  rw [h]
  dsimp only
  rw [c, Bool.true_or, if_pos rfl]
  exact e

theorem State.starvedNow_none (h : s.inkHeld? = none) : s.starvedNow = s := by
  unfold State.starvedNow
  rw [h]

end

theorem Sheet.goesOn_of_printing {v : Sheet} (p : v.st = .printing) (n : v.spoil = none) : v.goesOn = true := by
  unfold Sheet.goesOn
  rw [p, n]
  rfl

/-- Settles O32, by the post of STARVED and the frame of the spoil after it. -/
theorem starvedAction : Obligations.StarvedAction := by
  intro s
  refine ⟨fun i v front printing st reason sheet counts => ?_, fun g none => ?_⟩
  · have now := State.starvedNow_some (s := s.cleared) (State.inkHeld?_eq front printing st reason sheet) counts
    refine ⟨fun g wait => ?_, fun spoil own free => ?_⟩
    · rw [if_neg (by rw [show s.cleared.prof.flow.starveAction = _ from wait]; decide)] at now
      exact congrArg Host.Outcome.next (State.event_eq (f := State.starvedNow) now g)
    · rw [if_pos (show s.cleared.prof.flow.starveAction = _ from spoil)] at now
      have printed : v.st = .printing := by simpa using List.find?_some printing
      refine ⟨_, rfl, fun r => ?_, ?_⟩
      · have q := State.spoil_quiet (.refl (s.cleared.starvedPost i)) v.sid .starved
        have k := settle_quiet settleFuel q r.waiting r.stalled
        change _ <+: (settle settleFuel s.cleared.starvedNow).events.recs
        rw [now]
        exact k.recsStand
      · change (settle settleFuel s.cleared.starvedNow).Marked v.sid
        rw [now]
        exact (State.spoil_marked (s := s.cleared.starvedPost i) own (Sheet.goesOn_of_printing printed free) .starved).keeps (settle_keeps settleFuel (.refl _))
  · exact congrArg Host.Outcome.next (State.event_still (f := State.starvedNow) g (State.starvedNow_none none))

end Sys2Proof.Machine

/-! O28: the evaluation of the admission front (R59 to R64). -/
namespace Sys2Proof.Machine

section
variable (s : State)

/-- `t` is `s` with slot `i` written, apart from the service station, the agenda and the ink. -/
theorem State.slot_wake (rs : List Reaction) (i : SlotIx) : (s.wake rs).slot i = s.slot i :=
  congrArg (fun v : Vector Slot 64 => v.get i) (State.slots_wake s rs)

theorem State.slot_hold (i : SlotIx) (r : Reason) (d : Nat) :
    (s.hold i r d).slot i = { s.slot i with st := .held, reason := some r, detail := d } :=
  (State.slot_wake ..).trans (State.slot_modSlot_self ..)

theorem State.ink_hold (i : SlotIx) (r : Reason) (d : Nat) : (s.hold i r d).ink = s.ink := State.ink_wake ..

/-- Withdrawing a CAP is a matter of the station alone. -/
theorem State.withdrawCap_frame : ∃ v a, s.withdrawCap = { s with svc := v, agenda := a } := by
  unfold State.withdrawCap
  extract_lets calling left t
  split
  · obtain ⟨a, e⟩ := (State.agendaFrame_setStation (t.modSvc fun v => { v with steps := [], asking := false, callRunning := false })
      t.svc.resting.station).trans ((State.agendaFrame_wake _ _).trans (State.agendaFrame_wake _ [.uncap, .evalFront]))
    exact ⟨_, a, e⟩
  · split
    · exact ⟨_, _, rfl⟩
    · exact ⟨_, _, rfl⟩

theorem State.slot_admitSwath (i : SlotIx) (need : PerChan Nat) :
    (s.admitSwath i need).slot i = { s.slot i with st := .admitted, need := need, reason := none, detail := 0, armed := false } := by
  unfold State.admitSwath
  extract_lets t
  obtain ⟨v, a, e⟩ := t.withdrawCap_frame
  rw [State.stir, State.slot_wake, State.slot_wake, e]
  exact State.slot_modSlot_self s i fun k => { k with st := .admitted, need := need, reason := none, detail := 0, armed := false }

theorem State.ink_admitSwath (i : SlotIx) (need : PerChan Nat) : (s.admitSwath i need).ink = s.ink := by
  unfold State.admitSwath
  extract_lets t
  obtain ⟨v, a, e⟩ := t.withdrawCap_frame
  rw [State.ink_stir, State.ink_wake, e]
  rfl

end

section
variable {s : State} {i : SlotIx} (few : s.admittedCount < 2) (front : s.front? = some i) (cap : ∀ c, (s.needOf (s.slot i)).get c ≤ needCap)
include few front cap

theorem State.evaluate_of_fits : s.evaluate = if s.flow.pause then s.hold i .pause 0 else s.sheetTest i (s.slot i) (s.needOf (s.slot i)) := by
  unfold State.evaluate
  rw [if_neg (Nat.not_le.mpr few), front]
  dsimp only
  rw [List.find?_eq_none.mpr fun c _ => by simpa using cap c]

theorem State.evaluate_paused (p : s.flow.pause = true) : s.evaluate = s.hold i .pause 0 := by
  rw [State.evaluate_of_fits few front cap, if_pos p]

theorem State.evaluate_printing {t : Sheet} (p : s.flow.pause = false) (sheet : s.sheetOfSlot i = some t) (st : t.st = .printing) :
    s.evaluate = s.admitTest i (s.slot i) (s.needOf (s.slot i)) := by
  rw [State.evaluate_of_fits few front cap, if_neg (by rw [p]; exact Bool.false_ne_true), State.sheetTest, sheet]
  dsimp only
  rw [st]

end

section
variable {s : State} {i : SlotIx} {k : Slot} {need : PerChan Nat}

theorem Slot.get_chanSet (k : Slot) (c : Chan) : k.chanSet.get c = true ↔
    ¬ ((k.tally.written.get c).small = 0 ∧ (k.tally.written.get c).medium = 0 ∧ (k.tally.written.get c).large = 0) := by
  unfold Slot.chanSet Drops.any
  rw [PerChan.get_of]
  simp only [Bool.or_eq_true, bne_iff_ne]
  omega

/-- Condition 3 of R61: the first channel of the set that is not synced. -/
theorem State.admitTest_unsynced {c : Chan} (h : k.chanSet.get c = true ∧ (s.ink.get c).synced = false)
    (low : ∀ d : Chan, d.num < c.num → ¬ (k.chanSet.get d = true ∧ (s.ink.get d).synced = false)) :
    s.admitTest i k need = s.hold i .sync c.num := by
  have some : k.chanSet.isEmpty = false := Bool.eq_false_iff.mpr fun e => by
    rw [ChanSet.get_of_isEmpty e c] at h
    exact Bool.false_ne_true h.1
  have find : Chan.all.find? (fun c => k.chanSet.get c && !(s.inkOf c).synced) = Option.some c := by
    refine Chan.find?_eq_some (by rw [h.1, show (s.inkOf c).synced = _ from h.2]; rfl) fun d g => Bool.eq_false_iff.mpr fun e => low d g ?_
    rw [Bool.and_eq_true, Bool.not_eq_true'] at e
    exact e
  unfold State.admitTest
  dsimp only
  rw [if_neg (by rw [some]; exact Bool.false_ne_true), find]

/-- A set with nothing stale asks for no spit and gives no hold (R63). -/
theorem State.offerFlowSpits_fresh {cs : ChanSet} (h : ∀ c, cs.get c = true → (s.svc.decap.get c).stale = false) : s.offerFlowSpits cs = s := by
  have no (c : Chan) : (cs.get c && s.frontUncovered c) = false := by
    cases g : cs.get c
    · rfl
    · unfold State.frontUncovered
      rw [h c g]
      rfl
  have keep (l : List Chan) : l.foldl (fun s c => if cs.get c && s.frontUncovered c then s.offerQuietly .spit (ChanSet.single c) true else s) s = s := by
    induction l with
    | nil => rfl
    | cons c l ih => rw [List.foldl_cons, if_neg (by rw [no c]; exact Bool.false_ne_true), ih]
  exact keep Chan.all

theorem State.staleHold?_fresh {cs : ChanSet} (h : ∀ c, cs.get c = true → (s.svc.decap.get c).stale = false) (st : s.svc.station ≠ .fault) :
    s.staleHold? cs = none := by
  have waits (c : Chan) : (cs.get c && s.spitWaits c) = false := by
    cases g : cs.get c
    · rfl
    · unfold State.spitWaits
      rw [h c g]
      rfl
  have stale (c : Chan) : (cs.get c && (s.svc.decap.get c).stale) = false := by
    cases g : cs.get c
    · rfl
    · rw [h c g]
      rfl
  unfold State.staleHold?
  rw [if_neg st, List.find?_eq_none.mpr fun c _ => Bool.eq_false_iff.mp (waits c)]
  dsimp only
  rw [List.find?_eq_none.mpr fun c _ => Bool.eq_false_iff.mp (stale c)]

/-- Condition 5 of R61 decides where conditions 3 and 4 hold of a set with a channel. -/
theorem State.admitTest_fresh (filled : k.chanSet.isEmpty = false) (sync : ∀ c, k.chanSet.get c = true → (s.ink.get c).synced = true)
    (fresh : ∀ c, k.chanSet.get c = true → (s.svc.decap.get c).stale = false) (st : s.svc.station ≠ .fault) :
    (∀ c u, s.reserve false need = (some c, u) → s.admitTest i k need = u.hold i .ink c.num) ∧
      ∀ u, s.reserve false need = (none, u) → s.admitTest i k need = u.admitSwath i need := by
  have find : Chan.all.find? (fun c => k.chanSet.get c && !(s.inkOf c).synced) = none := by
    refine List.find?_eq_none.mpr fun c _ e => ?_
    rw [Bool.and_eq_true, Bool.not_eq_true'] at e
    exact absurd (sync c e.1) (by rw [show (s.ink.get c).synced = _ from e.2]; exact Bool.false_ne_true)
  unfold State.admitTest
  dsimp only
  rw [if_neg (by rw [filled]; exact Bool.false_ne_true), find]
  dsimp only
  rw [State.offerFlowSpits_fresh fresh, State.staleHold?_fresh fresh st]
  exact ⟨fun c u e => by rw [e], fun u e => by rw [e]⟩

/-- A front whose volume one channel cannot give is held for it. -/
theorem State.admitTest_short (sync : ∀ c, k.chanSet.get c = true → (s.ink.get c).synced = true)
    (fresh : ∀ c, k.chanSet.get c = true → (s.svc.decap.get c).stale = false) (st : s.svc.station ≠ .fault) {c : Chan} (c' : k.chanSet.get c = true)
    (short : reservePasses (s.ink.get c) false (need.get c) = false)
    (low : ∀ d : Chan, d.num < c.num → reservePasses (s.ink.get d) false (need.get d) = true) : s.admitTest i k need = s.hold i .ink c.num := by
  have filled : k.chanSet.isEmpty = false := Bool.eq_false_iff.mpr fun e => by
    rw [ChanSet.get_of_isEmpty e c] at c'
    exact Bool.false_ne_true c'
  exact (State.admitTest_fresh filled sync fresh st).1 c s (State.reserve_refused short low)

/-- A front whose volumes are there is admitted, with them reserved. -/
theorem State.admitTest_granted (sync : ∀ c, k.chanSet.get c = true → (s.ink.get c).synced = true)
    (fresh : ∀ c, k.chanSet.get c = true → (s.svc.decap.get c).stale = false) (st : s.svc.station ≠ .fault)
    (none : k.chanSet.isEmpty = true → ∀ c, need.get c = 0)
    (fits : ∀ c, reservePasses (s.ink.get c) false (need.get c) = true) :
    ∃ u : State, s.admitTest i k need = u.admitSwath i need ∧ u.slot i = s.slot i ∧
      ∀ c, (u.ink.get c).reserved = (s.ink.get c).reserved + need.get c ∧ (u.ink.get c).level = (s.ink.get c).level := by
  by_cases filled : k.chanSet.isEmpty = true
  · refine ⟨s, ?_, rfl, fun c => ⟨by rw [none filled c, Nat.add_zero], rfl⟩⟩
    unfold State.admitTest
    dsimp only
    rw [if_pos filled]
  · refine ⟨_, (State.admitTest_fresh (Bool.eq_false_iff.mpr filled) sync fresh st).2 _ (State.reserve_granted fits), ?_, fun c => ?_⟩
    · obtain ⟨a, e⟩ := State.agendaFrame_inkChanged (s.addReservation false need) (volumeChans need)
      rw [e]
      rfl
    · obtain ⟨a, e⟩ := State.agendaFrame_inkChanged (s.addReservation false need) (volumeChans need)
      rw [e]
      change ((s.addReservation false need).ink.get c).reserved = _ ∧ ((s.addReservation false need).ink.get c).level = _
      rw [State.ink_addReservation]
      exact ⟨rfl, rfl⟩

end

/-- Settles O28, by the tests of R61 in their order. -/
theorem frontIsHeldOrAdmitted : Obligations.FrontIsHeldOrAdmitted := by
  intro s i few front kind k need inSet fits first bound
  have needs (c : Chan) : (s.needOf (s.slot i)).get c = need c := PerChan.get_of _ c
  have cap (c : Chan) : (s.needOf (s.slot i)).get c ≤ needCap := Nat.le_trans (Nat.le_of_eq (needs c)) (bound c)
  refine ⟨fun p => ?_, fun t p sheet printing => ?_⟩
  · rw [State.evaluate_paused few front cap p, State.slot_hold]
    exact ⟨rfl, rfl⟩
  · rw [State.evaluate_printing few front cap p sheet printing]
    have member (c : Chan) : (s.slot i).chanSet.get c = true ↔ inSet c := Slot.get_chanSet _ c
    refine ⟨fun c h => ?_, fun ok st => ?_⟩
    · obtain ⟨⟨mem, sync⟩, low⟩ := h
      rw [State.admitTest_unsynced ⟨(member c).mpr mem, sync⟩ fun d g e => low d g ⟨(member d).mp e.1, e.2⟩, State.slot_hold]
      exact ⟨rfl, rfl, rfl⟩
    · have sync (c : Chan) (h : (s.slot i).chanSet.get c = true) : (s.ink.get c).synced = true := (ok c ((member c).mp h)).1
      have fresh (c : Chan) (h : (s.slot i).chanSet.get c = true) : (s.svc.decap.get c).stale = false := (ok c ((member c).mp h)).2
      have outside {c : Chan} (h : ¬ inSet c) : need c = 0 := by
        obtain ⟨small, medium, large⟩ := Classical.not_not.mp h
        change _ * _ + _ * _ + _ * _ = 0
        rw [small, medium, large, Nat.zero_mul, Nat.zero_mul, Nat.zero_mul]
      have passes (c : Chan) : reservePasses (s.ink.get c) false ((s.needOf (s.slot i)).get c) = true ↔ fits c := by
        rw [reservePasses_iff, needs]
        constructor
        · rintro (z | ⟨-, room, -⟩)
          · exact .inl z
          · exact .inr room
        · rintro (z | room)
          · exact .inl z
          · by_cases m : inSet c
            · exact .inr ⟨(ok c m).1, room, nofun⟩
            · exact .inl (outside m)
      refine ⟨fun c h => ?_, fun all => ?_⟩
      · obtain ⟨short, low⟩ := h
        have mem : inSet c := by
          exact Classical.not_not.mp fun m => short (.inl (outside m))
        rw [State.admitTest_short sync fresh st ((member c).mpr mem) (Bool.eq_false_iff.mpr fun e => short ((passes c).mp e))
          fun d g => (passes d).mpr (Classical.not_not.mp (low d g)), State.slot_hold]
        exact ⟨rfl, rfl, rfl, State.ink_hold ..⟩
      · obtain ⟨u, e, slot, ink⟩ := State.admitTest_granted (s := s) (i := i) (k := s.slot i) sync fresh st
          (fun empty c => by rw [needs]; exact outside fun m => absurd ((member c).mpr m) (by rw [ChanSet.get_of_isEmpty empty c]; exact Bool.false_ne_true))
          (fun c => (passes c).mpr (all c))
        rw [e, State.slot_admitSwath, State.ink_admitSwath]
        refine ⟨rfl, fun c => ⟨needs c, ?_, (ink c).2⟩⟩
        rw [(ink c).1, needs]

end Sys2Proof.Machine

/-! O51: the roll directives (R157, R158, R184). -/
namespace Sys2Proof.Machine

section
variable (b : List Byte)

/-- The fields of ROLL_LOADED as the statement names them. -/
def rollWidth : Prop := 280 ≤ (mediaSection b 16).width ∧ (mediaSection b 16).width ≤ 1118
def rollCorrection : Prop := -2000 ≤ (mediaSection b 16).correction ∧ (mediaSection b 16).correction ≤ 2000
def rollTail : Prop := 100 ≤ (mediaSection b 16).tailLength ∧ (mediaSection b 16).tailLength ≤ 3000
def rollLowLength : Prop := 1 ≤ (mediaSection b 16).rollLow ∧ (mediaSection b 16).rollLow ≤ 50
def rollLength : Prop := byteAt b 1 = 0 ∨ 1 ≤ leAt b 4 4 ∧ leAt b 4 4 ≤ 1000000

theorem firstFailing_cons_pass {x : Bool} (h : x = true) (n : Nat) (l : List (Bool × Nat)) : firstFailing ((x, n) :: l) = firstFailing l := by
  subst h
  rfl

theorem firstFailing_cons_fail {x : Bool} (h : ¬ x = true) (n : Nat) (l : List (Bool × Nat)) : firstFailing ((x, n) :: l) = some n := by
  rw [Bool.not_eq_true] at h
  subst h
  rfl

/-- The checks of ROLL_LOADED in the order of their numbers. -/
def rollChecks : List (Bool × Nat) :=
  [(inRange 280 1118 (mediaSection b 16).width, 1), (inRange 0 255 (mediaSection b 16).kind, 2),
   (decide (-2000 ≤ (mediaSection b 16).correction) && decide ((mediaSection b 16).correction ≤ 2000), 3),
   (inRange 100 3000 (mediaSection b 16).tailLength, 4), (inRange 1 50 (mediaSection b 16).rollLow, 5)]

theorem rollFieldError_some {n : Nat} (h : firstFailing (rollChecks b) = some n) : rollFieldError b = some n := by
  unfold rollFieldError
  rw [show mediaSectionError b bodyMediaAt = some n from h]

theorem rollFieldError_none (h : firstFailing (rollChecks b) = none) : rollFieldError b = if byteAt b 1 = 0 ∨ inRange 1 1000000 (leAt b 4 4) = true then none else some 6 := by
  unfold rollFieldError
  rw [show mediaSectionError b bodyMediaAt = none from h]
  unfold declaredLength bodySecond bodyWord4
  by_cases z : byteAt b 1 = 0
  · rw [if_pos z, if_pos (.inl z)]
  · rw [if_neg z]
    simp only [z, false_or]

theorem inRange_kind : inRange 0 255 (mediaSection b 16).kind = true :=
  (inRange_iff ..).mpr ⟨Nat.zero_le _, Nat.le_of_lt_succ (BitVec.isLt _)⟩

end

section
variable {b : List Byte}

theorem rollFieldError_width (h : ¬ rollWidth b) : rollFieldError b = some 1 :=
  rollFieldError_some b (firstFailing_cons_fail (fun e => h ((inRange_iff ..).mp e)) _ _)

theorem rollChecks_correction (w : rollWidth b) : firstFailing (rollChecks b) = firstFailing ((rollChecks b).drop 2) :=
  (firstFailing_cons_pass ((inRange_iff ..).mpr w) _ _).trans (firstFailing_cons_pass (inRange_kind b) _ _)

theorem rollChecks_tail (w : rollWidth b) (c : rollCorrection b) : firstFailing (rollChecks b) = firstFailing ((rollChecks b).drop 3) :=
  (rollChecks_correction w).trans (firstFailing_cons_pass (by rw [Bool.and_eq_true]; exact ⟨decide_eq_true c.1, decide_eq_true c.2⟩) _ _)

theorem rollChecks_low (w : rollWidth b) (c : rollCorrection b) (t : rollTail b) : firstFailing (rollChecks b) = firstFailing ((rollChecks b).drop 4) :=
  (rollChecks_tail w c).trans (firstFailing_cons_pass ((inRange_iff ..).mpr t) _ _)

theorem rollChecks_pass (w : rollWidth b) (c : rollCorrection b) (t : rollTail b) (l : rollLowLength b) : firstFailing (rollChecks b) = none :=
  (rollChecks_low w c t).trans (firstFailing_cons_pass ((inRange_iff ..).mpr l) _ _)

theorem rollFieldError_correction (w : rollWidth b) (h : ¬ rollCorrection b) : rollFieldError b = some 3 :=
  rollFieldError_some b ((rollChecks_correction w).trans (firstFailing_cons_fail (fun e => h (by
    rw [Bool.and_eq_true] at e
    exact ⟨of_decide_eq_true e.1, of_decide_eq_true e.2⟩)) _ _))

theorem rollFieldError_tail (w : rollWidth b) (c : rollCorrection b) (h : ¬ rollTail b) : rollFieldError b = some 4 :=
  rollFieldError_some b ((rollChecks_tail w c).trans (firstFailing_cons_fail (fun e => h ((inRange_iff ..).mp e)) _ _))

theorem rollFieldError_low (w : rollWidth b) (c : rollCorrection b) (t : rollTail b) (h : ¬ rollLowLength b) : rollFieldError b = some 5 :=
  rollFieldError_some b ((rollChecks_low w c t).trans (firstFailing_cons_fail (fun e => h ((inRange_iff ..).mp e)) _ _))

theorem rollFieldError_length (w : rollWidth b) (c : rollCorrection b) (t : rollTail b) (l : rollLowLength b) (h : ¬ rollLength b) :
    rollFieldError b = some 6 := by
  rw [rollFieldError_none b (rollChecks_pass w c t l), if_neg fun e => h (e.imp_right (inRange_iff ..).mp)]

theorem rollFieldError_good (w : rollWidth b) (c : rollCorrection b) (t : rollTail b) (l : rollLowLength b) (h : rollLength b) :
    rollFieldError b = none := by
  rw [rollFieldError_none b (rollChecks_pass w c t l), if_pos (h.imp_right (inRange_iff ..).mpr)]

end

/-! ### The rolls under the operations of a directive -/

section
variable (s : State) (r q : Roll)

theorem State.roll_congr {s t : State} (h : t.media = s.media) (r : Roll) : t.roll r = s.roll r := by
  cases r
  · exact congrArg Media.rollA h
  · exact congrArg Media.rollB h

theorem State.mediaProf_congr {s t : State} (h : t.prof = s.prof) (r : Roll) : t.mediaProf r = s.mediaProf r := by
  cases r
  · exact congrArg Profiles.mediaA h
  · exact congrArg Profiles.mediaB h

/-- `t` is `s` with the roll written by `f`, apart from the agenda. -/
theorem State.agendaFrame_setRoll {st : RollState} (h : (s.roll r).st.engaged = false ∨ st.engaged = true) :
    (s.modRoll r fun k => { k with st := st }).AgendaFrame (s.setRoll r st) := by
  unfold State.setRoll
  extract_lets k gone
  have stays : gone = false := by
    change ((s.roll r).st.engaged && !st.engaged && _) = false
    rcases h with h | h <;> rw [h]
    · rfl
    · rw [Bool.not_true, Bool.and_false, Bool.false_and]
  clear_value gone
  subst stays
  exact State.agendaFrame_stir _

/-- The declared length enters the roll's record; ROLL_LOW may be posted (R157, R159). -/
theorem State.declareLength_frame (len : Option Nat) : ∃ low e a, s.declareLength r len =
    { s.modRoll r fun k => { k with remaining := len.map fun v => v * 1000, lowPosted := low } with events := e, agenda := a } := by
  obtain ⟨a, e⟩ := State.agendaFrame_stir ((s.modRoll r fun k => { k with remaining := len.map fun v => v * 1000, lowPosted := false }).rollLowTest r)
  have low : ∃ low e, (s.modRoll r fun k => { k with remaining := len.map fun v => v * 1000, lowPosted := false }).rollLowTest r =
      { s.modRoll r fun k => { k with remaining := len.map fun v => v * 1000, lowPosted := low } with events := e } := by
    have same : ∃ low e, (s.modRoll r fun k => { k with remaining := len.map fun v => v * 1000, lowPosted := false }) =
        { s.modRoll r fun k => { k with remaining := len.map fun v => v * 1000, lowPosted := low } with events := e } :=
      ⟨false, s.events, by cases r <;> rfl⟩
    unfold State.rollLowTest
    extract_lets k p
    split
    next v _ =>
      split
      · refine ⟨true, (s.modRoll r fun k => { k with remaining := len.map fun v => v * 1000, lowPosted := true }).posted
          .rollLow r.num (v / 1000) (p.rollLow * 1000), ?_⟩
        cases r <;> rfl
      · exact same
    · exact same
  obtain ⟨low, ev, f⟩ := low
  exact ⟨low, ev, a, by unfold State.declareLength; rw [e, f]⟩

theorem State.roll_declareLength (len : Option Nat) : ((s.declareLength r len).roll r).st = (s.roll r).st ∧
    ((s.declareLength r len).roll r).remaining = len.map fun v => v * 1000 := by
  obtain ⟨low, e, a, f⟩ := s.declareLength_frame r len
  rw [f]
  cases r <;> exact ⟨rfl, rfl⟩

theorem State.declareLength_keeps (len : Option Nat) : (s.declareLength r len).roll r.other = s.roll r.other ∧
    (s.declareLength r len).prof = s.prof ∧ (s.declareLength r len).mail = s.mail := by
  obtain ⟨low, e, a, f⟩ := s.declareLength_frame r len
  rw [f]
  cases r <;> exact ⟨rfl, rfl, rfl⟩

theorem State.putMedia_fields (p : MediaProfile) : (s.putMedia r p).mediaProf r = p ∧ (s.putMedia r p).mediaProf r.other = s.mediaProf r.other ∧
    (s.putMedia r p).media = s.media ∧ (s.putMedia r p).mail = s.mail := by
  cases r <;> exact ⟨rfl, rfl, rfl, rfl⟩

theorem State.stageDeclared_fields (p : MediaProfile) : (s.stageDeclared r p).mediaProf r = s.mediaProf r ∧
    (s.stageDeclared r p).stagedMedia r = some { profile := p, declared := true } ∧ (s.stageDeclared r p).media = s.media ∧
    (s.stageDeclared r p).mail = s.mail := by
  cases r <;> exact ⟨rfl, rfl, rfl, rfl⟩

theorem Roll.ofNum?_num : Roll.ofNum? r.num = some r := by
  cases r <;> rfl

theorem Roll.ofNum?_eq_none {n : Nat} (h : 1 < n) : Roll.ofNum? n = none := by
  obtain ⟨k, rfl⟩ : ∃ k, n = k + 2 := ⟨n - 2, by omega⟩
  rfl

theorem State.sheetOnPath_iff : s.sheetOnPath = true ↔ ∃ v ∈ s.media.table, v.st = .leading ∨ v.st = .printing ∨ v.st = .trailing ∨ v.st = .cutting := by
  have path (st : SheetState) : st.onPath = true ↔ st = .leading ∨ st = .printing ∨ st = .trailing ∨ st = .cutting := by
    cases st <;> decide
  unfold State.sheetOnPath State.anySheet
  simp only [List.any_eq_true, path]

theorem SheetState.onPath_iff (st : SheetState) : st.onPath = true ↔ st = .leading ∨ st = .printing ∨ st = .trailing ∨ st = .cutting := by
  cases st <;> decide

end

/-! ### ROLL_LOADED -/

section
variable {s : State} {b : List Byte} {r : Roll}

theorem State.doRollLoaded_noRoll (h : Roll.ofNum? (bodyFirst b) = none) : s.doRollLoaded b = ⟨.invalid, 1, s⟩ := by
  unfold State.doRollLoaded
  rw [h]

theorem State.doRollLoaded_field (h : bodyFirst b = r.num) {n : Nat} (e : rollFieldError b = some n) : s.doRollLoaded b = ⟨.invalid, 0x10 + n, s⟩ := by
  unfold State.doRollLoaded
  rw [h, Roll.ofNum?_num]
  dsimp only
  rw [e]

variable (h : bodyFirst b = r.num) (e : rollFieldError b = none)
include h e

theorem State.doRollLoaded_state (st : (s.roll r).st = .absent ∨ (s.roll r).st = .threading ∨ (s.roll r).st = .ended ∨ (s.roll r).st = .out ∨
    (s.roll r).st = .rewinding) : s.doRollLoaded b = ⟨.state, (s.roll r).st.code, s⟩ := by
  unfold State.doRollLoaded
  rw [h, Roll.ofNum?_num]
  dsimp only
  rw [e]
  dsimp only
  rcases st with st | st
  · rw [st]
    rfl
  · rcases st with st | st | st | st <;> rw [st]

theorem State.doRollLoaded_loaded (st : (s.roll r).st = .present ∨ (s.roll r).st = .loaded) :
    s.doRollLoaded b = ⟨.done, 0, ((s.setRoll r .loaded).putMedia r (mediaSection b 16)).declareLength r (declaredLength b)⟩ := by
  unfold State.doRollLoaded
  rw [h, Roll.ofNum?_num]
  dsimp only
  rw [e]
  dsimp only
  rcases st with st | st <;> (rw [st]; rfl)

theorem State.doRollLoaded_active (st : (s.roll r).st = .active) : s.doRollLoaded b = if s.sheetOnPath then
    ⟨.done, 1, (s.stageDeclared r (mediaSection b 16)).declareLength r (declaredLength b)⟩
    else ⟨.done, 0, (s.putMedia r (mediaSection b 16)).declareLength r (declaredLength b)⟩ := by
  unfold State.doRollLoaded
  rw [h, Roll.ofNum?_num]
  dsimp only
  rw [e]
  dsimp only
  rw [st]
  rfl

end

/-! ### ROLL_UNLOAD -/

section
variable {s : State} {b : List Byte} {r : Roll}

theorem State.unloadBusy_path {v : Sheet} {before after : List Sheet} (t : s.media.table = before ++ v :: after)
    (free : ∀ x ∈ before, x.st.onPath = false) (on : v.st.onPath = true) : s.unloadBusy = some v.number := by
  unfold State.unloadBusy
  rw [List.find?_after t free on]

theorem State.unloadBusy_free (free : ∀ x ∈ s.media.table, x.st.onPath = false) : s.unloadBusy = if s.motion then some 0xFFFF else none := by
  unfold State.unloadBusy
  rw [List.find?_eq_none.mpr fun x hx => Bool.eq_false_iff.mp (free x hx)]

theorem State.doRollUnload_noRoll (h : Roll.ofNum? (bodyFirst b) = none) : s.doRollUnload b = ⟨.invalid, 1, s⟩ := by
  unfold State.doRollUnload
  rw [h]

variable (h : bodyFirst b = r.num)
include h

theorem State.doRollUnload_busy {n : Nat} (e : s.unloadBusy = some n) : s.doRollUnload b = ⟨.busy, n, s⟩ := by
  unfold State.doRollUnload
  rw [h, Roll.ofNum?_num]
  dsimp only
  rw [e]

theorem State.doRollUnload_free (e : s.unloadBusy = none) :
    ((s.roll r).st = .loaded → s.doRollUnload b =
      ⟨.done, 0, (s.setRoll r .present).modRoll r fun k => { k with remaining := none, lowPosted := false }⟩) ∧
    ((s.roll r).st = .active → s.doRollUnload b = if s.media.fault then ⟨.state, 0xFF, s⟩ else ⟨.done, 1, s.beginRewind r none none⟩) ∧
    ((s.roll r).st ≠ .loaded → (s.roll r).st ≠ .active → s.doRollUnload b = ⟨.state, (s.roll r).st.code, s⟩) := by
  unfold State.doRollUnload
  rw [h, Roll.ofNum?_num]
  dsimp only
  rw [e]
  refine ⟨fun st => by rw [st], fun st => by rw [st], fun l a => ?_⟩
  dsimp only
  split
  next x => exact absurd x l
  next x => exact absurd x a
  next => rfl

end

theorem State.roll_putResult (s : State) (q : Seq) (k : Nat) (c : ResultCode) (d : Nat) (r : Roll) : (s.putResult q k c d).roll r = s.roll r :=
  State.roll_congr rfl r

theorem State.mediaProf_putResult (s : State) (q : Seq) (k : Nat) (c : ResultCode) (d : Nat) (r : Roll) :
    (s.putResult q k c d).mediaProf r = s.mediaProf r := State.mediaProf_congr rfl r

theorem declaredLength_um (b : List Byte) : (declaredLength b).map (fun v => v * 1000) = if byteAt b 1 = 0 then none else some (leAt b 4 4 * 1000) := by
  unfold declaredLength bodySecond bodyWord4
  split <;> rfl

theorem State.AgendaFrame.modMedia {s t : State} (h : s.AgendaFrame t) (f : Media → Media) : (s.modMedia f).AgendaFrame (t.modMedia f) := by
  obtain ⟨a, rfl⟩ := h
  exact ⟨a, rfl⟩

theorem State.AgendaFrame.roll {s t : State} (h : s.AgendaFrame t) (r : Roll) : t.roll r = s.roll r := by
  obtain ⟨a, rfl⟩ := h
  exact State.roll_congr rfl r

/-- The rewind that ROLL_UNLOAD starts (R158). -/
def rewindOp (r : Roll) : MediaOp :=
  { kind := .rewind, roll := r, sheet := none, slot := none, dist := 0, target := 0, progress := 0, ms := 0, limit := windLimit,
    prev := none, next := none }

/-- A rewind is in flight on a roll that is REWINDING. -/
def State.rewinding (s : State) (r : Roll) : State :=
  (s.modRoll r fun k => { k with st := .rewinding }).modMedia fun m => { m with op := some (rewindOp r) }

theorem State.beginRewind_frame (s : State) (r : Roll) : (s.rewinding r).AgendaFrame (s.beginRewind r none none) :=
  ((s.agendaFrame_setRoll r (st := .rewinding) (.inr rfl)).modMedia fun m => { m with op := some (rewindOp r) }).trans (State.agendaFrame_stir _)

/-- What a ROLL_LOADED that is done leaves, where `t` is the state before the declared length. -/
theorem State.rollLoaded_done {s t : State} {w : WriteBeat} {r : Roll} {d : Nat} (h : s.takesTrigger w) (up : s.link.state = .up)
    (e : (s.atDirective w).doRollLoaded s.mail.body = ⟨.done, d, t.declareLength r (declaredLength s.mail.body)⟩)
    (mail : t.mail = (s.atDirective w).mail) :
    ∃ u, Effects (.rollLoaded w) s u ∧ u.mail = s.mail.answered w 7 .done d ∧ (u.roll r).st = (t.roll r).st ∧
      (u.roll r).remaining = (if byteAt s.mail.body 1 = 0 then none else some (leAt s.mail.body 4 4 * 1000)) ∧ u.roll r.other = t.roll r.other ∧ u.prof = t.prof := by
  obtain ⟨other, prof, mail'⟩ := t.declareLength_keeps r (declaredLength s.mail.body)
  obtain ⟨st, remaining⟩ := t.roll_declareLength r (declaredLength s.mail.body)
  refine ⟨_, Effects.of_directive_frame h up 7 (fun s => s.doRollLoaded s.mail.body) rfl e (.refl _), ?_, ?_, ?_, ?_, ?_⟩
  · exact State.mail_answered (z := s) (mail'.trans mail) ..
  · rw [State.roll_putResult, st]
  · rw [State.roll_putResult, remaining, declaredLength_um]
  · rw [State.roll_putResult, other]
  · rw [State.prof_putResult, prof]

/-- Settles O51, by the cases of the two directives. -/
theorem rollDirectives : Obligations.RollDirectives := by
  intro s w ready h b onPath
  have load {c : ResultCode} {d : Nat} (e : (s.atDirective w).doRollLoaded b = ⟨c, d, s.atDirective w⟩) :
      exec (.rollLoaded w) s = .next (s.afterDirective w 7 c d) :=
    congrArg Host.Outcome.next (State.directive_answers h ready 7 (fun s => s.doRollLoaded s.mail.body) _ _ e)
  have unload {c : ResultCode} {d : Nat} (e : (s.atDirective w).doRollUnload b = ⟨c, d, s.atDirective w⟩) :
      exec (.rollUnload w) s = .next (s.afterDirective w 8 c d) :=
    congrArg Host.Outcome.next (State.directive_answers h ready 8 (fun s => s.doRollUnload s.mail.body) _ _ e)
  refine ⟨fun n => ⟨load (State.doRollLoaded_noRoll (Roll.ofNum?_eq_none n)), unload (State.doRollUnload_noRoll (Roll.ofNum?_eq_none n))⟩, ?_⟩
  intro r num st p width correction tail low length remaining good refused
  have field {n : Nat} (e : rollFieldError b = some n) : refused (0x10 + n) := load (State.doRollLoaded_field num e)
  have fine (g : good) : rollFieldError b = none := by
    obtain ⟨w, c, t, l, n⟩ := g
    exact rollFieldError_good w c t l n
  have same := State.roll_atDirective s w r
  have path (x : Sheet) : x.st.onPath = false ↔ ¬ onPath x := by rw [← Bool.not_eq_true, SheetState.onPath_iff]
  have still (free : ∀ v ∈ s.media.table, ¬ onPath v) : (s.atDirective w).unloadBusy = if (s.atDirective w).motion then some 0xFFFF else none :=
    State.unloadBusy_free fun x hx => (path x).mpr (free x hx)
  have rest (free : ∀ v ∈ s.media.table, ¬ onPath v) (op : s.media.op = none) := State.doRollUnload_free (s := s.atDirective w) num (by
    rw [still free, if_neg (by rw [State.motion, show (s.atDirective w).media.op = none from op]; exact Bool.false_ne_true)])
  refine ⟨fun n => field (rollFieldError_width n), fun w n => field (rollFieldError_correction w n), fun w c n => field (rollFieldError_tail w c n),
    fun w c t n => field (rollFieldError_low w c t n), fun w c t l n => field (rollFieldError_length w c t l n), fun g o => ?_, fun g o => ?_,
    fun g a => ?_, fun v before after table free on => ?_, fun free => ⟨fun op => ?_, fun op l a => ?_, fun op a f => ?_, fun op l => ?_, fun op a f => ?_⟩⟩
  · have o : ((s.atDirective w).roll r).st = .absent ∨ ((s.atDirective w).roll r).st = .threading ∨ ((s.atDirective w).roll r).st = .ended ∨
        ((s.atDirective w).roll r).st = .out ∨ ((s.atDirective w).roll r).st = .rewinding := by rwa [same]
    have e := State.doRollLoaded_state num (fine g) o
    rw [same] at e
    exact load e
  · have o : ((s.atDirective w).roll r).st = .present ∨ ((s.atDirective w).roll r).st = .loaded := by rwa [same]
    obtain ⟨profile, others, media, mail⟩ := ((s.atDirective w).setRoll r .loaded).putMedia_fields r p
    obtain ⟨a, set⟩ := (s.atDirective w).agendaFrame_setRoll r (st := .loaded) (.inl (by rcases o with o | o <;> rw [o] <;> rfl))
    obtain ⟨u, eff, umail, ust, urem, uother, uprof⟩ := State.rollLoaded_done h ready.up (State.doRollLoaded_loaded num (fine g) o)
      (mail.trans (by rw [set]; cases r <;> rfl))
    refine ⟨u, eff, umail, ?_, urem, ?_, ?_, ?_⟩
    · rw [ust, State.roll_congr media, set]
      cases r <;> rfl
    · rw [State.mediaProf_congr uprof]
      exact profile
    · rw [uother, State.roll_congr media, set]
      cases r <;> rfl
    · rw [State.mediaProf_congr uprof]
      refine others.trans ?_
      rw [set]
      cases r <;> rfl
  · have a : ((s.atDirective w).roll r).st = .active := by rwa [same]
    have e := State.doRollLoaded_active num (fine g) a
    by_cases on : (s.atDirective w).sheetOnPath = true
    · rw [if_pos on] at e
      obtain ⟨profile, staged, media, mail⟩ := (s.atDirective w).stageDeclared_fields r p
      obtain ⟨u, eff, umail, ust, urem, uother, uprof⟩ := State.rollLoaded_done h ready.up e mail
      refine ⟨u, eff, ?_, urem, fun _ => ⟨umail, ?_, ?_⟩, fun none => ?_⟩
      · rw [ust, State.roll_congr media, a]
      · rw [State.mediaProf_congr uprof, profile, State.mediaProf_atDirective]
      · rw [uprof]
        cases r <;> exact staged
      · obtain ⟨v, hv, pv⟩ := (State.sheetOnPath_iff _).mp on
        exact absurd pv (none v hv)
    · rw [if_neg on] at e
      obtain ⟨profile, others, media, mail⟩ := (s.atDirective w).putMedia_fields r p
      obtain ⟨u, eff, umail, ust, urem, uother, uprof⟩ := State.rollLoaded_done h ready.up e mail
      refine ⟨u, eff, ?_, urem, fun some => absurd ((State.sheetOnPath_iff _).mpr some) on, fun none => ⟨umail, ?_⟩⟩
      · rw [ust, State.roll_congr media, a]
      · rw [State.mediaProf_congr uprof]
        exact profile
  · have busy : (s.atDirective w).unloadBusy = some v.number :=
      State.unloadBusy_path (s := s.atDirective w) table (fun x hx => (path x).mpr (free x hx)) ((SheetState.onPath_iff _).mpr on)
    exact unload (State.doRollUnload_busy num busy)
  · exact unload (State.doRollUnload_busy num (by rw [still free, if_pos (show (s.atDirective w).motion = true from op)]))
  · have e := (rest free op).2.2 (by rwa [same]) (by rwa [same])
    rw [same] at e
    exact unload e
  · have e := (rest free op).2.1 (by rwa [same])
    rw [if_pos (show (s.atDirective w).media.fault = true from f)] at e
    exact unload e
  · have e := (rest free op).1 (by rwa [same])
    have frame := (s.atDirective w).agendaFrame_setRoll r (st := .present) (.inl (by rw [same, show (s.roll r).st = _ from l]; rfl))
    have ⟨a, set⟩ := frame
    refine ⟨_, Effects.of_directive_frame h ready.up 8 (fun s => s.doRollUnload s.mail.body) rfl e (.refl _), ?_, ?_, ?_⟩
    · refine State.mail_answered (z := s) ?_ ..
      rw [set]
      cases r <;> rfl
    · rw [State.roll_putResult, State.roll_modRoll_self, frame.roll, State.roll_modRoll_self, same]
    · rw [State.prof_putResult, set]
      cases r <;> rfl
  · have e := (rest free op).2.1 (by rwa [same])
    rw [if_neg (by rw [show (s.atDirective w).media.fault = _ from f]; exact Bool.false_ne_true)] at e
    obtain ⟨b, begun⟩ := (s.atDirective w).beginRewind_frame r
    refine ⟨_, Effects.of_directive_frame h ready.up 8 (fun s => s.doRollUnload s.mail.body) rfl e (.refl _), ?_, ?_, ?_⟩
    · refine State.mail_answered (z := s) ?_ ..
      rw [begun]
      cases r <;> rfl
    · rw [State.roll_putResult, begun]
      cases r <;> rfl
    · rw [State.media_putResult, begun]
      exact ⟨_, rfl, rfl, rfl, rfl, rfl⟩

end Sys2Proof.Machine

/-! The media record under what the sheets do (R79, R160, R173). -/
namespace Sys2Proof.Machine

/-- Of the media record the sheet table alone has changed, and no profile. -/
def State.SheetFrame (s t : State) : Prop := (∃ l, t.media = { s.media with table := l }) ∧ t.prof = s.prof

section
variable {s t u : State}

theorem State.SheetFrame.refl (s : State) : s.SheetFrame s := ⟨⟨s.media.table, rfl⟩, rfl⟩

theorem State.SheetFrame.trans (h : s.SheetFrame t) (g : t.SheetFrame u) : s.SheetFrame u := by
  obtain ⟨⟨l, e⟩, p⟩ := h
  obtain ⟨⟨k, f⟩, q⟩ := g
  exact ⟨⟨k, by rw [f, e]⟩, q.trans p⟩

theorem State.SheetFrame.same (m : t.media = s.media) (p : t.prof = s.prof) : s.SheetFrame t := ⟨⟨s.media.table, m⟩, p⟩

theorem State.SheetFrame.op (h : s.SheetFrame t) : t.media.op = s.media.op := by
  obtain ⟨⟨l, e⟩, -⟩ := h
  rw [e]

theorem State.SheetFrame.roll (h : s.SheetFrame t) (r : Roll) : t.roll r = s.roll r := by
  obtain ⟨⟨l, e⟩, -⟩ := h
  cases r
  · change t.media.rollA = s.media.rollA
    rw [e]
  · change t.media.rollB = s.media.rollB
    rw [e]

theorem State.SheetFrame.mediaProf (h : s.SheetFrame t) (r : Roll) : t.mediaProf r = s.mediaProf r := State.mediaProf_congr h.2 r

theorem State.SheetFrame.foldl {α : Type} {f : State → α → State} (h : ∀ s a, State.SheetFrame s (f s a)) (s : State) (l : List α) :
    s.SheetFrame (l.foldl f s) := by
  induction l generalizing s with
  | nil => exact .refl s
  | cons a l ih => exact (h s a).trans (ih _)

theorem State.SheetFrame.together {f : State → State} (h : ∀ s, State.SheetFrame s (f s)) (s : State) : s.SheetFrame (s.together f) :=
  h { s with agenda := [] }

end

section
variable (s : State)

theorem State.sheetFrame_wake (rs : List Reaction) : s.SheetFrame (s.wake rs) := .same (State.media_wake s rs) (State.prof_wake s rs)
theorem State.sheetFrame_modSheet (sid : Nat) (f : Sheet → Sheet) : s.SheetFrame (s.modSheet sid f) := ⟨⟨_, rfl⟩, rfl⟩

theorem State.sheetFrame_retire (i : SlotIx) (o : SlotOutcome) (r : Option Reason) (d : Nat) : s.SheetFrame (s.retire i o r d) := by
  obtain ⟨a, p, v, u, l, e, -⟩ := s.retire_frame i o r d
  have counted : s.SheetFrame (s.countRetired i) := by
    unfold State.countRetired
    split
    · exact s.sheetFrame_modSheet ..
    · exact .refl s
  obtain ⟨⟨k, f⟩, -⟩ := counted
  exact ⟨⟨k, by rw [e]; exact f⟩, by rw [e]⟩

theorem State.sheetFrame_spoilSwath (r : Reason) (i : SlotIx) : s.SheetFrame (s.spoilSwath r i) := by
  unfold State.spoilSwath
  split
  · exact s.sheetFrame_retire ..
  · exact s.sheetFrame_retire ..
  · exact s.sheetFrame_retire ..
  · exact .same rfl rfl
  · exact .refl s

theorem State.sheetBoundarySpit_frame : ∃ v a e, s.sheetBoundarySpit = { s with svc := v, agenda := a, events := e } := by
  have offered {r : OfferResult} {u : State} (x : s.offer .spit s.uncoveredStale false = (r, u)) (f : Service → Service) :
      ∃ v a e, u.modSvc f = { s with svc := v, agenda := a, events := e } := by
    obtain ⟨q, a, e, h⟩ := s.offer_frame .spit s.uncoveredStale false
    rw [x] at h
    obtain rfl : u = _ := h
    exact ⟨_, a, e, rfl⟩
  unfold State.sheetBoundarySpit State.offerStaleSpit
  split
  · split
    · exact ⟨_, _, _, rfl⟩
    · split
      next x => exact offered x _
      next x => exact offered x _
  · exact ⟨_, _, _, rfl⟩

theorem State.media_sheetMoved (sid : Nat) : (s.sheetMoved sid).media = s.media := by
  unfold State.sheetMoved
  split
  · exact (State.media_wake _ _).trans (State.media_wake _ _)
  · exact State.media_wake _ _

theorem State.prof_sheetMoved (sid : Nat) : (s.sheetMoved sid).prof = s.prof := by
  unfold State.sheetMoved
  split
  · exact (State.prof_wake _ _).trans (State.prof_wake _ _)
  · exact State.prof_wake _ _

theorem State.media_sheetBoundarySpit : s.sheetBoundarySpit.media = s.media := by
  obtain ⟨v, a, e, h⟩ := s.sheetBoundarySpit_frame
  rw [h]

theorem State.prof_sheetBoundarySpit : s.sheetBoundarySpit.prof = s.prof := by
  obtain ⟨v, a, e, h⟩ := s.sheetBoundarySpit_frame
  rw [h]

theorem State.media_leavePrinting (t : Sheet) : (s.leavePrinting t).media = s.media := by
  unfold State.leavePrinting
  split <;> rfl

theorem State.prof_leavePrinting (t : Sheet) : (s.leavePrinting t).prof = s.prof := by
  unfold State.leavePrinting
  split <;> rfl

/-- The sheet of a number takes a state that ends its start. -/
def Media.ended (m : Media) (sid : Nat) (st : SheetState) : Media :=
  { m with table := m.table.map fun t => if t.sid = sid then { t with st := st, start := none } else t }

theorem Media.st_ended {m : Media} {sid : Nat} {st : SheetState} {x : Sheet} (h : x ∈ (m.ended sid st).table) (e : x.sid = sid) : x.st = st := by
  obtain ⟨t, -, rfl⟩ := List.mem_map.mp h
  by_cases i : t.sid = sid
  · rw [if_pos i]
  · rw [if_neg i] at e
    exact absurd e i

theorem State.media_becomeSpoiled (t : Sheet) (cut : Bool) : (s.becomeSpoiled t cut).media = s.media.ended t.sid .spoiled := by
  unfold State.becomeSpoiled
  rw [State.media_sheetMoved, State.media_sheetBoundarySpit, State.media_post, State.modSheet, State.modMedia]
  dsimp only
  rw [State.media_leavePrinting]
  rfl

theorem State.prof_becomeSpoiled (t : Sheet) (cut : Bool) : (s.becomeSpoiled t cut).prof = s.prof := by
  unfold State.becomeSpoiled
  rw [State.prof_sheetMoved, State.prof_sheetBoundarySpit, State.prof_post, State.prof_modSheet, State.prof_leavePrinting]

theorem State.media_becomeDone (t : Sheet) : (s.becomeDone t).media = s.media.ended t.sid .done := by
  unfold State.becomeDone
  rw [State.media_sheetMoved, State.media_sheetBoundarySpit, State.media_post]
  rfl

theorem State.sheetFrame_becomeSpoiled (t : Sheet) (cut : Bool) : s.SheetFrame (s.becomeSpoiled t cut) :=
  ⟨⟨_, s.media_becomeSpoiled t cut⟩, s.prof_becomeSpoiled t cut⟩

theorem State.sheetFrame_spoil (sid : Nat) (r : Reason) : s.SheetFrame (s.spoil sid r) := by
  unfold State.spoil
  split
  · exact .refl s
  next t _ =>
    split
    · exact .refl s
    · extract_lets mine s1 s2
      have f1 : s.SheetFrame s1 := (s.sheetFrame_modSheet sid _).trans (State.sheetFrame_wake _ _)
      have f2 : s.SheetFrame s2 :=
        f1.trans (.together (fun s => .foldl (fun s i => s.sheetFrame_spoilSwath r i) s mine) s1)
      split
      · split
        · exact f2.trans (State.sheetFrame_becomeSpoiled ..)
        · exact f2
      · exact f2

theorem State.sheetFrame_advanceEnds (o : MediaOp) (r : Option Reason) : s.SheetFrame (s.advanceEnds o r) := by
  unfold State.advanceEnds
  extract_lets s1
  have f : s.SheetFrame s1 := by
    change s.SheetFrame (match o.sheet.bind s.sheet? with | some t => _ | none => _)
    split
    · split
      · exact .same rfl rfl
      · exact .refl s
    · exact .refl s
  split
  · split
    · exact f.trans (State.sheetFrame_retire ..)
    · exact f
  · exact f

end

/-! ### The operation in flight (R155) -/

section
variable (s : State)

theorem State.media_endOp : s.endOp.media = { s.media with op := none } := State.media_wake _ _

theorem State.op_lowerRemaining (r : Roll) (len : Nat) : (s.lowerRemaining r len).media.op = s.media.op := by
  unfold State.lowerRemaining State.rollLowTest
  extract_lets k p
  split
  · split
    · rw [State.media_post, State.op_modRoll, State.op_modRoll]
    · exact s.op_modRoll r _
  · exact s.op_modRoll r _

theorem State.op_addFed (o : MediaOp) (len : Nat) : (s.addFed o len).media.op = s.media.op := by
  unfold State.addFed
  split
  · exact State.op_lowerRemaining ..
  · exact State.op_lowerRemaining ..

theorem State.media_moveSheet (sid : Nat) (f : Sheet → Sheet) : (s.moveSheet sid f).media = (s.modSheet sid f).media :=
  State.media_sheetMoved _ _

theorem State.opMayStart_fault {s : State} (h : s.media.fault = true) : s.opMayStart = false := by
  unfold State.opMayStart
  rw [h, Bool.not_true, Bool.and_false]

theorem State.op_startCut {s : State} (h : s.media.fault = true) (t : Sheet) : (s.startCut t).media.op = s.media.op := by
  unfold State.startCut
  rw [if_neg (by rw [State.opMayStart_fault h]; exact Bool.false_ne_true)]
  rfl

/-- With the block in FAULT the cut of a sheet is due alone. -/
theorem State.op_toCutting {s : State} (h : s.media.fault = true) (t : Sheet) : (s.toCutting t).media.op = s.media.op := by
  unfold State.toCutting
  rw [State.op_startCut (by rw [State.media_moveSheet]; exact h), State.media_moveSheet]
  rfl

end

end Sys2Proof.Machine

/-! O52: the faults of the media block and MEDIA_RESET (R166, R169, R175). -/
namespace Sys2Proof.Machine

/-! ### A stall (R166) -/

section
variable (s : State) (o : MediaOp)

/-- The operation is over, FEED_STALL is posted and the block is in FAULT. -/
def State.stalls : State := (s.endOp.post .feedStall o.roll.num o.kind.code o.stallDetail).modMedia fun m => { m with fault := true }

/-- A feed that has stalled adds what it fed and spoils its sheet. -/
def State.stallSpoils : State :=
  match o.sheet with
  | some sid => ((s.stalls o).addFed o o.stallLength).spoil sid .feedFault
  | none => (s.stalls o).addFed o o.stallLength

theorem State.op_stalls : (s.stalls o).media.op = none := by
  have e : s.endOp.media.op = none := by rw [State.media_endOp]
  exact e

theorem State.table_stalls : (s.stalls o).media.table = s.media.table := by
  have e : s.endOp.media.table = s.media.table := by rw [State.media_endOp]
  exact e

theorem State.stallSpoils_quiet : Quiet (s.stalls o) (s.stallSpoils o) := by
  unfold State.stallSpoils
  split
  · exact State.spoil_quiet (State.addFed_quiet (.refl _) ..) ..
  · exact State.addFed_quiet (.refl _) ..

theorem State.op_stallSpoils : (s.stallSpoils o).media.op = none := by
  unfold State.stallSpoils
  split
  · rw [(State.sheetFrame_spoil _ _ _).op, State.op_addFed, State.op_stalls]
  · rw [State.op_addFed, State.op_stalls]

/-- After the spoil an advance is reported and the cut of a trailing feed is due: nothing starts, and no record of a sheet is restored. -/
theorem State.opStalls_feed (h : o.kind.isFeed = true) : Quiet (s.stallSpoils o) (s.opStalls o) ∧ (s.opStalls o).media.op = none := by
  have fault : (s.stallSpoils o).media.fault = true := (s.stallSpoils_quiet o).fault
  have op := s.op_stallSpoils o
  have e : s.opStalls o = match o.kind with
      | .advance => (s.stallSpoils o).advanceEnds o (some .feedFault)
      | .trailing =>
        match o.sheet.bind (s.stallSpoils o).sheet? with
        | some t => if t.st = .trailing then (s.stallSpoils o).toCutting t else s.stallSpoils o
        | none => s.stallSpoils o
      | _ => s.stallSpoils o := by
    unfold State.opStalls
    extract_lets s1 s2
    rw [if_pos h]
    rfl
  rw [e]
  split
  · exact ⟨State.advanceEnds_quiet (.refl _) .., (State.sheetFrame_advanceEnds ..).op.trans op⟩
  · split
    · split
      · exact ⟨State.toCutting_quiet (.refl _) _, (State.op_toCutting fault _).trans op⟩
      · exact ⟨.refl _, op⟩
    · exact ⟨.refl _, op⟩
  · exact ⟨.refl _, op⟩

theorem State.opStalls_other (h : ¬ o.kind.isFeed = true) : s.opStalls o = (s.stalls o).stir := by
  unfold State.opStalls
  extract_lets s1 s2
  rw [if_neg h]
  rfl

theorem State.opStalls_quiet : Quiet (s.stalls o) (s.opStalls o) := by
  by_cases h : o.kind.isFeed = true
  · exact (s.stallSpoils_quiet o).trans (s.opStalls_feed o h).1
  · rw [s.opStalls_other o h]
    exact (Quiet.refl _).stir

theorem State.op_opStalls : (s.opStalls o).media.op = none := by
  by_cases h : o.kind.isFeed = true
  · exact (s.opStalls_feed o h).2
  · rw [s.opStalls_other o h, State.media_stir, State.op_stalls]

theorem MediaOp.stallDetail_eq : o.stallDetail = if o.kind = .rewind ∨ o.kind = .thread then o.limit else o.progress := by
  unfold MediaOp.stallDetail
  cases o.kind <;> rfl

end

section
variable {s : State} {o : MediaOp}

theorem State.events_endOp (s : State) : s.endOp.events = s.events := State.events_wake _ _

theorem State.recs_stalls (room : s.room 1) : s.record .feedStall o.roll.num o.kind.code o.stallDetail ∈ (s.stalls o).events.recs := by
  have e : (s.stalls o).events = s.posted .feedStall o.roll.num o.kind.code o.stallDetail := by
    obtain ⟨a, e⟩ := State.agendaFrame_stirBoundary (s.modMedia fun m => { m with op := none })
    unfold State.stalls State.endOp
    rw [e]
    rfl
  rw [e]
  exact State.posted_room (by unfold State.room at room; omega) ..

theorem State.sheet?_eq {t : State} (h : t.media.table = s.media.table) (sid : Nat) : t.sheet? sid = s.sheet? sid := by
  unfold State.sheet?
  rw [h]

theorem State.sid_of_sheet? {sid : Nat} {v : Sheet} (h : s.sheet? sid = some v) : v.sid = sid := by
  unfold State.sheet? at h
  have e := List.find?_some h
  exact beq_iff_eq.mp e

theorem State.sheet?_modSheet {sid : Nat} {v : Sheet} {f : Sheet → Sheet} (h : s.sheet? sid = some v) (keep : ∀ t, (f t).sid = t.sid) :
    (s.modSheet sid f).sheet? sid = some (f v) := by
  have own : v.sid = sid := State.sid_of_sheet? h
  change (s.media.table.map _).find? _ = _
  rw [List.find?_map]
  have same : ((fun t : Sheet => t.sid == sid) ∘ fun t => if t.sid = sid then f t else t) = fun t => t.sid == sid := by
    funext t
    dsimp only [Function.comp]
    split
    · rw [keep]
    · rfl
  rw [same, show s.media.table.find? (fun t => t.sid == sid) = some v from h, Option.map_some, if_pos own]

theorem State.table_lowerRemaining (s : State) (r : Roll) (len : Nat) : (s.lowerRemaining r len).media.table = s.media.table := by
  unfold State.lowerRemaining State.rollLowTest
  extract_lets k p
  split
  · split
    · rw [State.media_post, State.table_modRoll, State.table_modRoll]
    · exact s.table_modRoll r _
  · exact s.table_modRoll r _

theorem State.sheet?_addFed {sid : Nat} {v : Sheet} (h : s.sheet? sid = some v) (own : o.sheet = some sid) (len : Nat) :
    (s.addFed o len).sheet? sid = some { v with fed := v.fed + len } := by
  unfold State.addFed
  rw [own]
  dsimp only
  rw [State.sheet?_eq (State.table_lowerRemaining ..), State.sheet?_modSheet (f := fun t => { t with fed := t.fed + len }) h fun _ => rfl]

/-- The sheet of a stalled feed is spoiled. -/
theorem State.opStalls_marked (feed : o.kind.isFeed = true) {sid : Nat} {v : Sheet} (own : o.sheet = some sid) (h : s.sheet? sid = some v)
    (g : v.goesOn = true) : (s.opStalls o).Marked sid := by
  have stalled : (s.stalls o).sheet? sid = some v := by
    rw [← h]
    exact State.sheet?_eq (s.table_stalls o) sid
  have marked : (s.stallSpoils o).Marked sid := by
    unfold State.stallSpoils
    rw [own]
    exact State.spoil_marked (State.sheet?_addFed stalled own _) g .feedFault
  exact marked.keeps (s.opStalls_feed o feed).1.toKeeps

end

/-! ### A cut that does not come home (R169) -/

section
variable (s : State) (o : MediaOp)

/-- The cut is over, CUTTER_FAULT is posted with the number of the sheet and the block is in FAULT. -/
def State.cutStalls (number : Nat) : State :=
  (s.endOp.post .cutterFault number s.media.cutterHome.filt.code 0).modMedia fun m => { m with fault := true }

/-- The sheet of the cut is SPOILED. -/
def State.cutSpoils : State :=
  match o.sheet with
  | some sid =>
    match (s.spoil sid .feedFault).sheet? sid with
    | some t => (s.spoil sid .feedFault).becomeSpoiled t false
    | none => s.spoil sid .feedFault
  | none => s

theorem State.cutterFilt_endOp : s.endOp.media.cutterHome = s.media.cutterHome := by rw [State.media_endOp]

theorem State.cutFails_eq : s.cutFails o = (s.cutStalls (((o.sheet.bind s.sheet?).map Sheet.number).getD 0xFFFF)).cutSpoils o := by
  unfold State.cutFails State.cutStalls
  extract_lets sheet s1 s2
  have cutter : s1 = s.endOp.post .cutterFault ((sheet.map Sheet.number).getD 0xFFFF) s.media.cutterHome.filt.code 0 := by
    change s.endOp.post .cutterFault ((sheet.map Sheet.number).getD 0xFFFF) s.endOp.media.cutterHome.filt.code 0 = _
    rw [State.cutterFilt_endOp]
  rw [← cutter]
  rfl

theorem State.op_cutStalls (n : Nat) : (s.cutStalls n).media.op = none := by
  have e : s.endOp.media.op = none := by rw [State.media_endOp]
  exact e

theorem State.sheetFrame_cutSpoils : s.SheetFrame (s.cutSpoils o) := by
  unfold State.cutSpoils
  split
  · split
    · exact (s.sheetFrame_spoil ..).trans (State.sheetFrame_becomeSpoiled ..)
    · exact s.sheetFrame_spoil ..
  · exact .refl s

theorem State.cutSpoils_quiet : Quiet s (s.cutSpoils o) := by
  unfold State.cutSpoils
  split
  · split
    · exact State.becomeSpoiled_quiet (State.spoil_quiet (.refl s) ..) ..
    · exact State.spoil_quiet (.refl s) ..
  · exact .refl s

theorem State.cutSpoils_spoiled {sid : Nat} (own : o.sheet = some sid) : ∀ x ∈ (s.cutSpoils o).media.table, x.sid = sid → x.st = .spoiled := by
  intro x hx e
  unfold State.cutSpoils at hx
  rw [own] at hx
  dsimp only at hx
  split at hx
  next t ht =>
    rw [State.media_becomeSpoiled] at hx
    exact Media.st_ended hx (e.trans (State.sid_of_sheet? ht).symm)
  next ht => exact absurd (beq_iff_eq.mpr e) (List.find?_eq_none.mp ht x hx)

theorem State.recs_cutStalls (room : s.room 1) (n : Nat) :
    s.record .cutterFault n s.media.cutterHome.filt.code 0 ∈ (s.cutStalls n).events.recs := by
  have e : (s.cutStalls n).events = s.posted .cutterFault n s.media.cutterHome.filt.code 0 := by
    obtain ⟨a, e⟩ := State.agendaFrame_stirBoundary (s.modMedia fun m => { m with op := none })
    unfold State.cutStalls State.endOp
    rw [e]
    rfl
  rw [e]
  exact State.posted_room (by unfold State.room at room; omega) ..

end

/-! ### MEDIA_RESET (R175) -/

section
variable (s : State)

/-- The engaged roll as MEDIA_RESET leaves it, by the platen line (table of R175). -/
def State.resetTo (r : Roll) : RollState :=
  if s.media.platen.filt = .active then (if (s.roll r).st = .ended then .ended else .active)
  else if (s.roll r).st = .ended then .out else .loaded

theorem State.frame_setRoll (r : Roll) (st : RollState) (h : (s.roll r).presentLine.filt = .active ∨ st.engaged = true) :
    (s.modRoll r fun k => { k with st := st }).AgendaFrame (s.setRoll r st) := by
  unfold State.setRoll
  extract_lets k gone
  have stays : gone = false := by
    change ((s.roll r).st.engaged && !st.engaged && !decide ((s.roll r).presentLine.filt = .active)) = false
    rcases h with h | h
    · rw [decide_eq_true h, Bool.not_true, Bool.and_false]
    · rw [h, Bool.not_true, Bool.and_false, Bool.false_and]
  clear_value gone
  subst stays
  exact State.agendaFrame_stir _

theorem State.st_setRoll (r : Roll) (st : RollState) (h : (s.roll r).presentLine.filt = .active ∨ st.engaged = true) :
    ((s.setRoll r st).roll r).st = st := by
  rw [(s.frame_setRoll r st h).roll, State.roll_modRoll_self]

theorem State.roll_post (k : EventKind) (a b c : Nat) (r : Roll) : (s.post k a b c).roll r = s.roll r := State.roll_congr rfl r

theorem State.st_rollOut (r : Roll) (present : (s.roll r).presentLine.filt = .active) : ((s.rollOut r).roll r).st = .out := by
  unfold State.rollOut
  rw [State.roll_post, s.st_setRoll r .out (.inl present)]

theorem Line.isActive_iff (l : Line) : l.isActive = true ↔ l.filt = .active := decide_eq_true_iff

theorem State.roll_resetRoll (r : Roll) (present : (s.roll r).presentLine.filt = .active) : ((s.resetRoll r).roll r).st = s.resetTo r := by
  unfold State.resetRoll State.resetTo
  simp only [Line.isActive_iff]
  split
  · split
    · assumption
    · exact s.st_setRoll r .active (.inr rfl)
  · split
    · exact s.st_rollOut r present
    · exact s.st_setRoll r .loaded (.inl present)

theorem State.roll_dropDue (sid : Nat) (r : Roll) : (s.dropDue sid).roll r = s.roll r := by
  unfold State.dropDue
  split
  · cases r <;> rfl
  · rfl

theorem State.roll_resetSpoiled (r : Roll) : s.resetSpoiled.roll r = s.roll r := by
  unfold State.resetSpoiled
  split
  · split
    · rfl
    · rw [(State.sheetFrame_becomeSpoiled ..).roll, State.roll_dropDue]
  · rfl

theorem State.engagedRoll?_none (h : ∀ r, (s.roll r).st.engaged = false) : s.engagedRoll? = none := by
  unfold State.engagedRoll?
  rw [h .a, h .b]
  rfl

theorem State.engagedRoll?_some {r : Roll} (h : (s.roll r).st.engaged = true) (other : (s.roll r.other).st.engaged = false) : s.engagedRoll? = some r := by
  unfold State.engagedRoll?
  cases r
  · rw [if_pos h]
  · rw [if_neg (by rw [show (s.roll .a).st.engaged = false from other]; exact Bool.false_ne_true), if_pos h]

/-- The engaged roll set and the FAULT left (R175). -/
def State.rollsReset : State :=
  (match s.engagedRoll? with
    | some r => s.resetRoll r
    | none => s).modMedia fun m => { m with fault := false }

/-- MEDIA_RESET where the block is in FAULT. -/
def State.mediaResets : State := s.rollsReset.resetSpoiled.stir

theorem State.doMediaReset_none (h : s.media.fault = true) (e : s.engagedRoll? = none) : s.doMediaReset = ⟨.done, 0xFF, s.mediaResets⟩ := by
  unfold State.doMediaReset State.mediaResets State.rollsReset
  rw [if_pos h, e]

theorem State.doMediaReset_some (h : s.media.fault = true) {r : Roll} (e : s.engagedRoll? = some r) :
    s.doMediaReset = ⟨.done, ((s.resetRoll r).roll r).st.code, s.mediaResets⟩ := by
  unfold State.doMediaReset State.mediaResets State.rollsReset
  rw [if_pos h, e]
  cases r <;> rfl

theorem State.doMediaReset_fault (h : s.media.fault = true) : ∃ d, s.doMediaReset = ⟨.done, d, s.mediaResets⟩ ∧
    (s.engagedRoll? = none → d = 0xFF) ∧ ∀ r, s.engagedRoll? = some r → d = ((s.resetRoll r).roll r).st.code := by
  cases e : s.engagedRoll? with
  | none => exact ⟨_, s.doMediaReset_none h e, fun _ => rfl, nofun⟩
  | some r => exact ⟨_, s.doMediaReset_some h e, nofun, fun q hq => by rw [Option.some.inj hq]⟩

theorem State.resetRoll_quiet (r : Roll) : Quiet s (s.resetRoll r) := by
  unfold State.resetRoll
  split
  · split
    · exact .refl s
    · exact State.setRoll_quiet (.refl s) ..
  · split
    · exact State.rollOut_quiet (.refl s) _
    · exact State.setRoll_quiet (.refl s) ..

theorem State.resetSpoiled_quiet : Quiet s s.resetSpoiled := by
  unfold State.resetSpoiled
  split
  · split
    · exact .refl s
    · exact State.becomeSpoiled_quiet (State.dropDue_quiet (.refl s) _) ..
  · exact .refl s

theorem State.mail_mediaResets : s.mediaResets.mail = s.mail := by
  have rolls : s.rollsReset.mail = s.mail := by
    unfold State.rollsReset
    split
    · exact (s.resetRoll_quiet _).mail
    · rfl
  unfold State.mediaResets
  rw [State.mail_stir, (State.resetSpoiled_quiet _).mail, rolls]

theorem State.doMediaReset_still (h : s.media.fault = false) : s.doMediaReset = ⟨.state, 0, s⟩ := by
  unfold State.doMediaReset
  rw [if_neg (by rw [h]; exact Bool.false_ne_true)]

theorem State.fault_resetSpoiled : s.resetSpoiled.media.fault = s.media.fault := by
  unfold State.resetSpoiled
  split
  next t _ =>
    split
    · rfl
    · rw [State.media_becomeSpoiled]
      unfold State.dropDue
      split <;> rfl
  · rfl

theorem State.fault_mediaResets : s.mediaResets.media.fault = false := by
  unfold State.mediaResets
  rw [State.media_stir, State.fault_resetSpoiled]
  rfl

theorem State.st_mediaResets {s : State} {r : Roll} (e : s.engagedRoll? = some r) (present : (s.roll r).presentLine.filt = .active) :
    (s.mediaResets.roll r).st = s.resetTo r := by
  have reset : s.rollsReset.roll r = (s.resetRoll r).roll r := by
    unfold State.rollsReset
    rw [e]
    cases r <;> rfl
  unfold State.mediaResets
  rw [State.roll_congr (State.media_stir _), State.roll_resetSpoiled, reset, s.roll_resetRoll r present]

end

theorem State.media_taking {s : State} {w : WriteBeat} (up : s.link.state = .up) : ((s.triggered w).taking w).media = s.media := by
  rw [State.triggered_up up]
  rfl

theorem OpKind.isFeed_of {k : OpKind} (h : k = .advance ∨ k = .leading ∨ k = .trailing) : k.isFeed = true := by
  rcases h with h | h | h <;> rw [h] <;> rfl

theorem Sheet.goesOn_of {v : Sheet} (done : v.st ≠ .done) (spoiled : v.st ≠ .spoiled) (free : v.spoil = none) : v.goesOn = true :=
  v.goesOn_iff.mpr fun ended => ended.elim done fun rest => rest.elim spoiled fun e => by
    rw [free] at e
    exact Bool.false_ne_true e

section
variable {s : State} {o : MediaOp}

theorem State.stallNow_op (op : s.media.op = some o) (h : o.kind ≠ .cut) : s.stallNow = s.opStalls o := by
  unfold State.stallNow
  rw [op]
  exact if_neg h

theorem State.cutFaultNow_op (op : s.media.op = some o) (h : o.kind = .cut) : s.cutFaultNow = s.cutFails o := by
  unfold State.cutFaultNow
  rw [op]
  exact if_pos h

theorem State.stallNow_still (h : ∀ o, s.media.op = some o → o.kind = .cut) : s.stallNow = s := by
  unfold State.stallNow
  split
  next o op => exact if_pos (h o op)
  next => rfl

theorem State.cutFaultNow_still (h : ∀ o, s.media.op = some o → o.kind ≠ .cut) : s.cutFaultNow = s := by
  unfold State.cutFaultNow
  split
  next o op => exact if_neg (h o op)
  next => rfl

end

/-- Settles O52, by what the two faults and the reset do to the operation, the table and the rolls. -/
theorem mediaFaultsAndReset : Obligations.MediaFaultsAndReset := by
  refine ⟨fun s o op => ⟨fun other => ?_, fun cut => ?_⟩, fun s a => ⟨fun none => ⟨?_, ?_⟩, fun o op => ⟨fun cut => ?_, fun other => ?_⟩⟩,
    fun s w h => ⟨fun r f => ?_, fun up f => ?_⟩⟩
  · have e := State.stallNow_op (s := s.cleared) op other
    refine ⟨s.cleared.opStalls o, _, congrArg (fun t => Host.Outcome.next (settle settleFuel t)) e, rfl,
      (settle_keeps settleFuel (.refl _)).fault.trans (s.cleared.opStalls_quiet o).fault, s.cleared.op_opStalls o, fun room => ?_,
      fun sid v feed own sheet done spoiled free => ?_⟩
    · rw [← MediaOp.stallDetail_eq o]
      exact (s.cleared.opStalls_quiet o).recsStand.subset (State.recs_stalls (s := s.cleared) room)
    · exact (State.opStalls_marked (s := s.cleared) (OpKind.isFeed_of feed) own sheet (Sheet.goesOn_of done spoiled free)).keeps
        (settle_keeps settleFuel (.refl _))
  · have e := (State.cutFaultNow_op (s := s.cleared) op cut).trans (s.cleared.cutFails_eq o)
    refine ⟨_, _, congrArg (fun t => Host.Outcome.next (settle settleFuel t)) e, rfl,
      (settle_keeps settleFuel (.refl _)).fault.trans (State.cutSpoils_quiet _ o).fault,
      (State.sheetFrame_cutSpoils _ o).op.trans (State.op_cutStalls _ _), fun sid v own sheet => ⟨fun room => ?_, State.cutSpoils_spoiled _ o own⟩⟩
    have number : ((o.sheet.bind s.cleared.sheet?).map Sheet.number).getD 0xFFFF = v.number := by
      rw [own, Option.bind_some, State.sheetQ_cleared, sheet]
      rfl
    rw [number]
    exact (State.cutSpoils_quiet _ o).recsStand.subset (s.cleared.recs_cutStalls room v.number)
  · exact congrArg Host.Outcome.next (State.event_still (f := State.stallNow) a (State.stallNow_still fun o op => absurd (none.symm.trans op) nofun))
  · exact congrArg Host.Outcome.next (State.event_still (f := State.cutFaultNow) a (State.cutFaultNow_still fun o op => absurd (none.symm.trans op) nofun))
  · exact congrArg Host.Outcome.next (State.event_still (f := State.stallNow) a
      (State.stallNow_still fun o' op' => by rwa [← Option.some.inj (op.symm.trans op')]))
  · exact congrArg Host.Outcome.next (State.event_still (f := State.cutFaultNow) a
      (State.cutFaultNow_still fun o' op' => by rwa [← Option.some.inj (op.symm.trans op')]))
  · exact congrArg Host.Outcome.next (State.directive_answers h r 9 State.doMediaReset _ _ (State.doMediaReset_still (s := s.atDirective w) f))
  · have media := State.media_taking (w := w) up
    obtain ⟨d, e, unengaged, engaged⟩ := State.doMediaReset_fault ((s.triggered w).taking w) (by rw [media]; exact f)
    have x := State.exec_directive h (i := .mediaReset w) (k := 9) (run := State.doMediaReset) rfl e
    have mail := State.mail_directive (State.mail_mediaResets ((s.triggered w).taking w)) settleFuel 9 .done d
    have rolls (r : Roll) : ((s.triggered w).taking w).roll r = s.roll r := State.roll_congr media r
    refine ⟨_, _, x, rfl, ?_, fun none => ?_, fun r en other present => ?_⟩
    · rw [(settle_keeps settleFuel (.refl _)).fault, State.media_putResult, State.fault_mediaResets]
    · rw [← unengaged (State.engagedRoll?_none _ fun r => by rw [rolls]; exact none r)]
      exact mail
    · have one := State.engagedRoll?_some ((s.triggered w).taking w) (r := r) (by rw [rolls]; exact en) (by rw [rolls]; exact other)
      have same : ((s.triggered w).taking w).resetTo r = s.resetTo r := by
        unfold State.resetTo
        rw [media, rolls]
      have present' : (((s.triggered w).taking w).roll r).presentLine.filt = .active := by rw [rolls]; exact present
      refine ⟨?_, ?_⟩
      · rw [State.roll_putResult, State.st_mediaResets one present', same]
        rfl
      · have code : d = (s.resetTo r).code := by rw [engaged r one, State.roll_resetRoll _ r present', same]
        rw [mail, code]
        rfl

end Sys2Proof.Machine

/-! O53: feeds, pulses, the cut and the path lines (R154, R162, R165, R169, R171). -/
namespace Sys2Proof.Machine

/-! ### The target and the limit of a feed (R165) -/

theorem ceilDiv_le_iff {a b n : Nat} (h : 0 < b) : ceilDiv a b ≤ n ↔ a ≤ n * b := by
  unfold ceilDiv
  rw [Nat.div_le_iff_le_mul_add_pred h, Nat.mul_comm b n]
  omega

theorem feedTarget_le_iff {d : Nat} {c : Int} (h : -2000 ≤ c) (n : Nat) : feedTarget d c ≤ n ↔ (d : Int) * (1000000 + c) ≤ n * 10000000 := by
  unfold feedTarget
  rw [ceilDiv_le_iff (by decide), ← Int.ofNat_le, Int.natCast_mul, Int.toNat_of_nonneg (by omega), Int.natCast_mul]
  rfl

theorem feedLimit_eq {d mm : Nat} (h : d ≤ mm * 1000) (g : mm * 1000 < d + 1000) : feedLimit d = 500 + 2 * mm := by
  have e : ceilDiv d 1000 = mm := by
    unfold ceilDiv
    omega
  rw [feedLimit, e]

/-! ### A pulse of the encoder (R154) -/

section
variable {s : State} {o : MediaOp}

theorem State.agendaFrame_pulse (op : s.media.op = some o) (h : o.kind.isFeed = true ∨ o.kind = .clearing) :
    (s.modMedia fun m => { m with op := some { o with progress := o.progress + 1 } }).AgendaFrame s.pulse := by
  unfold State.pulse
  rw [op]
  dsimp only
  rw [if_pos (by rcases h with h | h <;> rw [h] <;> rfl)]
  exact State.agendaFrame_wake _ _

theorem State.pulse_still (h : ∀ o, s.media.op = some o → o.kind.isFeed = false ∧ o.kind ≠ .clearing) : s.pulse = s := by
  unfold State.pulse
  split
  next o op =>
    obtain ⟨feed, clearing⟩ := h o op
    exact if_neg (by rw [feed, Bool.false_or]; exact fun e => clearing (beq_iff_eq.mp e))
  next => rfl

/-! ### The cut (R169) -/

/-- The cut of a sheet in CUTTING comes home. -/
theorem State.cutterChanged_home {sid : Nat} {v : Sheet} (op : s.media.op = some o) (kind : o.kind = .cut) (own : o.sheet = some sid)
    (sheet : s.sheet? sid = some v) (st : v.st = .cutting) (home : s.media.cutterHome.filt = .active) :
    s.cutterChanged .inactive = if v.spoil.isSome then s.endOp.becomeSpoiled v true else s.endOp.becomeDone v := by
  unfold State.cutterChanged
  rw [op]
  dsimp only
  rw [if_pos ⟨kind, nofun, decide_eq_true home⟩]
  unfold State.cutDone
  rw [own]
  have found : s.endOp.sheet? sid = some v := (State.sheet?_eq (by rw [State.media_endOp]) sid).trans sheet
  dsimp only [Option.bind_some]
  rw [found]
  exact if_pos st

theorem State.cutterChanged_still {old : LineState} (h : ∀ o, s.media.op = some o → o.kind ≠ .cut) : s.cutterChanged old = s := by
  unfold State.cutterChanged
  split
  next o op => exact if_neg fun e => h o op e.1
  next => rfl

theorem State.cutterChanged_left {old : LineState} (h : s.media.cutterHome.filt ≠ .active) : s.cutterChanged old = s := by
  unfold State.cutterChanged
  split
  next o op => exact if_neg fun e => h (of_decide_eq_true e.2.2)
  next => rfl

end

section
variable (s : State) (v : Sheet)

theorem State.recs_becomeDone (room : s.room 1) :
    s.record .sheetDone v.number ((v.roll.map Roll.num).getD 0xFF) v.fed ∈ (s.becomeDone v).events.recs := by
  have posts : Quiet ((s.modSheet v.sid fun t => { t with st := .done, start := none }).post .sheetDone v.number ((v.roll.map Roll.num).getD 0xFF) v.fed)
      (s.becomeDone v) := State.sheetMoved_quiet (State.sheetBoundarySpit_quiet (.refl _)) _
  exact posts.recsStand.subset (State.posted_room (s := s.modSheet v.sid fun t => { t with st := .done, start := none })
    (Nat.lt_of_succ_le room) ..)

theorem State.recs_becomeSpoiled (cut : Bool) (room : s.room 1) :
    s.record .sheetSpoiled v.number (reasonCode v.spoil + if cut then 256 else 0) v.fed ∈ (s.becomeSpoiled v cut).events.recs := by
  have posts : Quiet (((s.leavePrinting v).modSheet v.sid fun t => { t with st := .spoiled, start := none }).post .sheetSpoiled v.number
      (reasonCode v.spoil + if cut then 256 else 0) v.fed) (s.becomeSpoiled v cut) := State.sheetMoved_quiet (State.sheetBoundarySpit_quiet (.refl _)) _
  have left : (s.leavePrinting v).events = s.events ∧ (s.leavePrinting v).time = s.time := by
    unfold State.leavePrinting
    split <;> exact ⟨rfl, rfl⟩
  refine posts.recsStand.subset ?_
  have posted := State.posted_room (s := s.leavePrinting v) (by rw [left.1]; exact Nat.lt_of_succ_le room) .sheetSpoiled v.number
    (reasonCode v.spoil + if cut then 256 else 0) v.fed
  unfold State.record at posted
  rw [left.2] at posted
  exact posted

end

/-! ### The platen line (R162, R171) -/

section
variable (s : State)

/-- Step 1 of R171: the sheet on the path is spoiled. -/
def State.pathSpoiled (s : State) : State :=
  match s.fedSheet? with
  | some t => s.spoil t.sid .mediaOut
  | none => s

/-- Steps 2 and 3 of R171: the ENDED roll is OUT, its clearing feed over, or the ACTIVE roll is LOADED again. -/
def State.rollLeaves (s : State) : State :=
  match s.endedRoll? with
  | some r =>
    (match s.media.op with
      | some o => if o.kind = OpKind.clearing then s.endOp else s
      | none => s).rollOut r
  | none =>
    match s.activeRoll? with
    | some r => s.setRoll r .loaded
    | none => s

theorem State.platenEmpty_eq : s.platenEmpty = s.pathSpoiled.rollLeaves := rfl

theorem State.sheetFrame_pathSpoiled : s.SheetFrame s.pathSpoiled := by
  unfold State.pathSpoiled
  split
  · exact s.sheetFrame_spoil ..
  · exact .refl s

theorem State.rollLeaves_quiet : Quiet s s.rollLeaves := by
  unfold State.rollLeaves
  split
  · refine State.rollOut_quiet ?_ _
    split
    · split
      · exact State.endOp_quiet (.refl s)
      · exact .refl s
    · exact .refl s
  · split
    · exact State.setRoll_quiet (.refl s) ..
    · exact .refl s

theorem State.pathSpoiled_quiet : Quiet s s.pathSpoiled := by
  unfold State.pathSpoiled
  split
  · exact State.spoil_quiet (.refl s) ..
  · exact .refl s

variable {s}

theorem State.roll_endOp (s : State) (r : Roll) : s.endOp.roll r = s.roll r := by
  rw [State.endOp, (State.agendaFrame_stirBoundary _).roll]
  cases r <;> rfl

theorem State.endedRoll?_some {r : Roll} (h : (s.roll r).st = .ended) (other : (s.roll r.other).st ≠ .ended) : s.endedRoll? = some r := by
  unfold State.endedRoll?
  cases r
  · exact if_pos h
  · rw [if_neg (show ¬ (s.roll .a).st = .ended from other), if_pos h]

theorem State.endedRoll?_none (h : ∀ r, (s.roll r).st ≠ .ended) : s.endedRoll? = none := by
  unfold State.endedRoll?
  rw [if_neg (h .a), if_neg (h .b)]

theorem State.activeRoll?_some {r : Roll} (h : (s.roll r).st = .active) (other : (s.roll r.other).st ≠ .active) : s.activeRoll? = some r := by
  unfold State.activeRoll?
  cases r
  · exact if_pos h
  · rw [if_neg (show ¬ (s.roll .a).st = .active from other), if_pos h]

theorem Roll.eq_or_other (r q : Roll) : q = r ∨ q = r.other := by
  cases r <;> cases q <;> decide

/-- The one engaged roll as R171 leaves it. -/
theorem State.st_rollLeaves {r : Roll} (present : (s.roll r).presentLine.filt = .active) (other : (s.roll r.other).st.engaged = false) :
    ((s.roll r).st = .ended → (s.rollLeaves.roll r).st = .out) ∧ ((s.roll r).st = .active → (s.rollLeaves.roll r).st = .loaded) := by
  have apart {st : RollState} (e : st.engaged = true) : (s.roll r.other).st ≠ st := fun h => by
    rw [h, e] at other
    exact Bool.false_ne_true other.symm
  unfold State.rollLeaves
  refine ⟨fun ended => ?_, fun active => ?_⟩
  · rw [State.endedRoll?_some ended (apart rfl)]
    dsimp only
    refine State.st_rollOut _ r ?_
    split
    · split
      · rw [State.roll_endOp]
        exact present
      · exact present
    · exact present
  · have none : s.endedRoll? = none := State.endedRoll?_none fun q => by
      rcases Roll.eq_or_other r q with rfl | rfl
      · rw [active]
        exact nofun
      · exact apart rfl
    rw [none, State.activeRoll?_some active (apart rfl)]
    exact s.st_setRoll r .loaded (.inl present)

end

/-- Paper that a thread brings lies in the feed path (R154, R162). -/
theorem State.pathFilled_eq (s : State) : s.pathFilled = { s with media := { s.media with
    feedPath := if s.media.op.map MediaOp.kind = some .thread ∧ s.media.feedPath.filt = .active then Line.take false else s.media.feedPath } } := by
  unfold State.pathFilled State.impliedInactive
  split
  next o op =>
    rw [op, Option.map_some]
    by_cases thread : o.kind = .thread
    · rw [if_pos thread]
      by_cases filled : s.media.feedPath.filt = .active
      · rw [if_pos (show (s.line .feedPath).filt = .active from filled), if_pos ⟨congrArg some thread, filled⟩]
        rfl
      · rw [if_neg (show ¬ (s.line .feedPath).filt = .active from filled), if_neg fun e => filled e.2]
    · rw [if_neg thread, if_neg fun e => thread (Option.some.inj e.1)]
  next op => rw [op, if_neg fun e => nomatch e.1]

theorem Effects.of_eq {c : Instr} {s u : State} {f : State → State} (e : exec c s = .next (s.event f)) (h : f s.cleared = u) : Effects c s u :=
  .of_frame e (h ▸ .refl _)

theorem State.platenChanged_empty {s : State} (h : s.media.platen.filt ≠ .active) : s.platenChanged = s.pathSpoiled.rollLeaves.stir := by
  unfold State.platenChanged
  rw [if_neg fun e => h ((Line.isActive_iff _).mp e)]
  rfl

theorem State.st_of_fedSheet? {s : State} {v : Sheet} (h : s.fedSheet? = some v) : v.st = .leading ∨ v.st = .printing ∨ v.st = .trailing := by
  unfold State.fedSheet? at h
  have e := List.find?_some h
  rwa [Bool.or_eq_true, Bool.or_eq_true, beq_iff_eq, beq_iff_eq, beq_iff_eq, or_assoc] at e

theorem Sheet.goesOn_of_fed {v : Sheet} (h : v.st = .leading ∨ v.st = .printing ∨ v.st = .trailing) (free : v.spoil = none) : v.goesOn = true := by
  unfold Sheet.goesOn
  rw [free]
  rcases h with h | h | h <;> rw [h] <;> rfl

/-- Settles O53, by the effect of each command of the feed and of the lines of the path. -/
theorem feedAndCut : Obligations.FeedAndCut := by
  refine ⟨fun s kind r sid d slot low high => ?_, fun s => ⟨fun o op kind => ?_, fun a still => ?_, fun o sid v op kind own sheet st => ?_,
    fun a still => ?_, fun a => ?_, ?_, ?_, fun h => ?_, fun h => ?_, fun a h => ?_⟩⟩
  · refine ⟨_, congrArg Media.op (State.media_stir _), rfl, rfl, rfl, rfl, rfl, fun n => feedTarget_le_iff low n, fun mm le lt => feedLimit_eq le lt⟩
  · exact .of_frame (f := State.pulse) rfl (State.agendaFrame_pulse (s := s.cleared) op kind)
  · exact congrArg Host.Outcome.next (State.event_still (f := State.pulse) a (State.pulse_still still))
  · have home := State.cutterChanged_home (s := s.cleared.setLine .cutterHome (Line.take true)) op kind own sheet st rfl
    have sid' := State.sid_of_sheet? sheet
    have media := State.media_endOp (s.cleared.setLine .cutterHome (Line.take true))
    have room' (room : s.room 1) : (s.cleared.setLine .cutterHome (Line.take true)).endOp.room 1 := by
      unfold State.room
      rw [State.events_endOp]
      exact room
    have time : (s.cleared.setLine .cutterHome (Line.take true)).endOp.time = s.time := State.time_wake _ _
    cases spoil : v.spoil with
    | none =>
      rw [spoil, if_neg (show ¬ (none : Option Reason).isSome = true by decide)] at home
      have after := State.media_becomeDone (s.cleared.setLine .cutterHome (Line.take true)).endOp v
      refine ⟨_, .of_eq (f := fun s => s.returnCommand .cutterHome) rfl home, ?_, ?_, fun _ => ⟨fun x hx e => ?_, fun room => ?_⟩, nofun⟩
      · rw [after, media]
        rfl
      · rw [after, media]
        rfl
      · rw [after] at hx
        exact Media.st_ended hx (e.trans sid'.symm)
      · have posted := State.recs_becomeDone _ v (room' room)
        rw [State.record, time] at posted
        exact posted
    | some why =>
      rw [spoil, if_pos (show (some why : Option Reason).isSome = true from rfl)] at home
      have after := State.media_becomeSpoiled (s.cleared.setLine .cutterHome (Line.take true)).endOp v true
      refine ⟨_, .of_eq (f := fun s => s.returnCommand .cutterHome) rfl home, ?_, ?_, nofun, fun r hr => ⟨fun x hx e => ?_, fun room => ?_⟩⟩
      · rw [after, media]
        rfl
      · rw [after, media]
        rfl
      · rw [after] at hx
        exact Media.st_ended hx (e.trans sid'.symm)
      · have posted := State.recs_becomeSpoiled _ v true (room' room)
        rw [State.record, time, spoil, hr] at posted
        exact posted
  · exact congrArg Host.Outcome.next (State.event_eq (f := fun s => s.returnCommand .cutterHome)
      (State.cutterChanged_still (s := s.cleared.setLine .cutterHome (Line.take true)) still) a)
  · refine congrArg Host.Outcome.next (State.event_eq (f := fun s => s.lineCommand .cutterHome false) ?_ a)
    by_cases h : s.media.cutterHome.filt = .inactive
    · exact State.lineCommand_same (s := s.cleared) (i := .cutterHome) (b := false) h
    · exact (State.lineCommand_changes (s := s.cleared) (i := .cutterHome) (b := false) h).trans (State.cutterChanged_left nofun)
  · refine .of_frame (f := fun s => s.lineCommand .feedPath false) rfl ?_
    by_cases h : s.media.feedPath.filt = .inactive
    · rw [State.lineCommand_same (s := s.cleared) (i := .feedPath) (b := false) h]
      exact .refl _
    · rw [State.lineCommand_changes (s := s.cleared) (i := .feedPath) (b := false) h]
      exact State.agendaFrame_wake _ _
  · exact .of_frame (f := fun s => s.returnCommand .feedPath) rfl (State.agendaFrame_wake _ _)
  · refine .of_frame (f := fun s => s.pathFilled.lineCommand .platen true) rfl ?_
    rw [State.lineCommand_changes (s := s.cleared.pathFilled) (i := .platen) (b := true) (by
      change s.cleared.pathFilled.media.platen.filt ≠ _
      rw [State.pathFilled_eq]
      exact h)]
    rw [State.pathFilled_eq]
    exact State.agendaFrame_wake _ _
  · have e := (State.lineCommand_changes (s := s.cleared) (i := .platen) (b := false) h).trans
      (State.platenChanged_empty (s := s.cleared.setLine .platen (Line.take false)) nofun)
    have spoiled := (s.cleared.setLine .platen (Line.take false)).sheetFrame_pathSpoiled
    have leaves := (State.rollLeaves_quiet (s.cleared.setLine .platen (Line.take false)).pathSpoiled).stir
    have reacts := (settle_keeps settleFuel (.refl ((s.cleared.setLine .platen (Line.take false)).pathSpoiled.rollLeaves.stir)))
    refine ⟨_, _, congrArg (fun t => Host.Outcome.next (settle settleFuel t)) e, rfl, ?_, fun v fed own free => ?_, fun r present other => ?_⟩
    · exact (reacts.lines .platen).trans ((leaves.lines .platen).trans ((State.pathSpoiled_quiet _).lines .platen))
    · have first : (s.cleared.setLine .platen (Line.take false)).pathSpoiled.Marked v.sid := by
        unfold State.pathSpoiled
        rw [show (s.cleared.setLine .platen (Line.take false)).fedSheet? = some v from fed]
        exact State.spoil_marked (s := s.cleared.setLine .platen (Line.take false)) own (Sheet.goesOn_of_fed (State.st_of_fedSheet? fed) free) .mediaOut
      exact first.keeps (leaves.toKeeps.trans reacts)
    · have rolls (q : Roll) : (s.cleared.setLine .platen (Line.take false)).pathSpoiled.roll q = s.roll q :=
        (spoiled.roll q).trans (State.roll_cleared s q)
      have st := State.st_rollLeaves (s := (s.cleared.setLine .platen (Line.take false)).pathSpoiled) (r := r) (by rw [rolls]; exact present)
        (by rw [rolls]; exact other)
      rw [rolls] at st
      rw [State.agendaFrame_stir _ |>.roll]
      exact st
  · exact congrArg Host.Outcome.next (State.event_eq (f := fun s => s.lineCommand .platen false)
      (State.lineCommand_same (s := s.cleared) (i := .platen) (b := false) h) a)

end Sys2Proof.Machine

/-! O54: the lines of the rolls (R156, R170). -/
namespace Sys2Proof.Machine

section
variable {s : State} {r : Roll}

/-! ### The roll-present line (R156) -/

theorem State.rollPresentChanged_here (a : (s.roll r).presentLine.filt = .active) (st : (s.roll r).st = .absent) :
    (s.modRoll r fun k => { k with st := .present }).AgendaFrame (s.rollPresentChanged r) := by
  unfold State.rollPresentChanged
  extract_lets k
  rw [if_pos ((Line.isActive_iff _).mpr a), if_pos st]
  exact s.frame_setRoll r .present (.inl a)

theorem State.rollPresentChanged_stays (a : (s.roll r).presentLine.filt = .active) (st : (s.roll r).st ≠ .absent) : s.rollPresentChanged r = s := by
  unfold State.rollPresentChanged
  extract_lets k
  rw [if_pos ((Line.isActive_iff _).mpr a), if_neg st]

theorem State.rollPresentChanged_gone (a : (s.roll r).presentLine.filt ≠ .active) (en : (s.roll r).st.engaged = false) (st : (s.roll r).st ≠ .absent) :
    (s.modRoll r fun k => { k with st := .absent, remaining := none, lowPosted := false }).AgendaFrame (s.rollPresentChanged r) := by
  unfold State.rollPresentChanged
  extract_lets k
  rw [if_neg fun e => a ((Line.isActive_iff _).mp e), if_neg (by
    rw [show k.st.engaged = false from en, Bool.false_or]
    exact fun e => st (of_decide_eq_true e))]
  exact State.agendaFrame_stir _

theorem State.rollPresentChanged_kept (a : (s.roll r).presentLine.filt ≠ .active) (h : (s.roll r).st.engaged = true ∨ (s.roll r).st = .absent) :
    s.rollPresentChanged r = s := by
  unfold State.rollPresentChanged
  extract_lets k
  rw [if_neg fun e => a ((Line.isActive_iff _).mp e), if_pos (by
    rw [Bool.or_eq_true]
    exact h.imp_right decide_eq_true)]

/-! ### The roll-end line (R170) -/

theorem State.rollEndChanged_ends (a : (s.roll r).endLine.filt = .active) : s.rollEndChanged r = s.rollEndActive r :=
  if_pos ((Line.isActive_iff _).mpr a)

theorem State.rollEndChanged_left (a : (s.roll r).endLine.filt ≠ .active) : s.rollEndChanged r = s :=
  if_neg fun e => a ((Line.isActive_iff _).mp e)

/-- An ACTIVE roll is ENDED and ROLL_END is posted. -/
def State.rollEnds (s : State) (r : Roll) (number need : Nat) : State := (s.setRoll r .ended).post .rollEnd r.num number need

theorem State.rollEnds_frame (number need : Nat) : ∃ a, s.rollEnds r number need =
    { s.modRoll r fun k => { k with st := .ended } with events := s.posted .rollEnd r.num number need, agenda := a } := by
  obtain ⟨a, e⟩ := s.frame_setRoll r .ended (.inr rfl)
  refine ⟨a, ?_⟩
  unfold State.rollEnds
  rw [e]
  cases r <;> rfl

theorem State.rollEndActive_free (st : (s.roll r).st = .active) (free : ∀ v, s.fedSheet? = some v → v.roll ≠ some r) :
    s.rollEndActive r = s.rollEnds r 0xFFFF 0 := by
  have none : s.fedSheet?.filter (fun t => t.roll = some r) = none := by
    rw [Option.filter_eq_none_iff]
    intro v h
    exact fun e => free v h (of_decide_eq_true e)
  unfold State.rollEndActive
  rw [st]
  dsimp only
  rw [none]
  rfl

/-- A roll end under a sheet is judged by the sheet's need where that is known. -/
theorem State.rollEndActive_judged {v : Sheet} (st : (s.roll r).st = .active) (fed : s.fedSheet? = some v) (own : v.roll = some r) :
    (s.rollEndNeed v = none → s.rollEndActive r = s.rollEnds r v.number 0) ∧
    ∀ n, s.rollEndNeed v = some n → s.rollEndActive r =
      if (s.mediaProf r).tailLength * 1000 < n then (s.rollEnds r v.number n).spoil v.sid .rollEnd else s.rollEnds r v.number n := by
  have on : s.fedSheet?.filter (fun t => t.roll = some r) = some v := by
    rw [fed, Option.filter_some, if_pos (decide_eq_true own)]
  have prof (m : Nat) : (s.rollEnds r v.number m).mediaProf r = s.mediaProf r := by
    obtain ⟨a, e⟩ := State.rollEnds_frame (s := s) (r := r) v.number m
    rw [e]
    cases r <;> rfl
  unfold State.rollEndActive
  rw [st]
  dsimp only
  rw [on, Option.bind_some]
  refine ⟨fun need => by rw [need]; rfl, fun n need => ?_⟩
  rw [need]
  dsimp only
  rw [← prof n]
  rfl

theorem State.rollEndActive_threading (st : (s.roll r).st = .threading) : s.rollEndActive r = (s.endOp.post .rollEnd r.num 0xFFFF 0).rollOut r := by
  unfold State.rollEndActive
  rw [st]

theorem State.rollEndActive_still (st : (s.roll r).st ≠ .active) (st' : (s.roll r).st ≠ .threading) : s.rollEndActive r = s := by
  unfold State.rollEndActive
  split
  next h => exact absurd h st
  next h => exact absurd h st'
  next => rfl

end

theorem State.modRoll_modRoll (s : State) (r : Roll) (f g : RollRec → RollRec) : (s.modRoll r f).modRoll r g = s.modRoll r fun k => g (f k) := by
  cases r <;> rfl

theorem State.roll_modRoll_cleared (s : State) (r : Roll) (f : RollRec → RollRec) : (s.cleared.modRoll r f).roll r = f (s.roll r) := by
  rw [State.roll_modRoll_self, State.roll_cleared]

theorem State.roll_setPresent (s : State) (r : Roll) (l : Line) :
    (s.cleared.setLine (.rollPresent r) l).roll r = { s.roll r with presentLine := l } := s.roll_modRoll_cleared r _

theorem State.roll_setEnd (s : State) (r : Roll) (l : Line) :
    (s.cleared.setLine (.rollEnd r) l).roll r = { s.roll r with endLine := l } := s.roll_modRoll_cleared r _

theorem State.filt_present (s : State) (r : Roll) : (s.cleared.line (.rollPresent r)).filt = (s.roll r).presentLine.filt := by
  cases r <;> rfl

theorem Effects.of_eq_frame {c : Instr} {s t u : State} {f : State → State} (x : exec c s = .next (s.event f)) (e : f s.cleared = t)
    (h : u.AgendaFrame t) : Effects c s u := .of_frame x (e ▸ h)

theorem State.mediaProf_modRoll_cleared (s : State) (r q : Roll) (f : RollRec → RollRec) : (s.cleared.modRoll r f).mediaProf q = s.mediaProf q :=
  State.mediaProf_congr (State.prof_modRoll ..) q

theorem State.frame_rollPresent {s t : State} {r : Roll} {f g : RollRec → RollRec} (h : ((s.modRoll r f).modRoll r g).AgendaFrame t) :
    (s.modRoll r fun k => g (f k)).AgendaFrame t := by rwa [State.modRoll_modRoll] at h

theorem State.rollEndNeed_congr {s t : State} (h : t.media.op = s.media.op) (v : Sheet) : t.rollEndNeed v = s.rollEndNeed v := by
  unfold State.rollEndNeed State.trailingLeft
  rw [h]

/-- What the end of the roll under a sheet comes to, where `n` is the need that is reported. -/
def State.RollJudged (s : State) (r : Roll) (v : Sheet) (n : Nat) : Prop :=
  ∃ u t, exec (.rollEndLineActive r) s = .next t ∧ t = settle settleFuel u ∧ (u.roll r).st = .ended ∧
    (s.room 1 → s.record .rollEnd r.num v.number n ∈ u.events.recs) ∧
    (if (s.mediaProf r).tailLength * 1000 < n then ∀ x ∈ t.media.table, x.sid = v.sid → x.spoil.isSome else u.media.table = s.media.table)

section
variable {s : State} {r : Roll} {v : Sheet} (st : (s.roll r).st = .active) (fed : s.fedSheet? = some v) (sheet : s.sheet? v.sid = some v)
  (own : v.roll = some r) (free : v.spoil = none)
include st fed sheet own free

theorem State.rollJudged {n : Nat} (need : s.rollEndNeed v = some n ∨ s.rollEndNeed v = none ∧ n = 0) : s.RollJudged r v n := by
  have ends := State.rollEndChanged_ends (s := s.cleared.modRoll r fun k => { k with endLine := Line.take true }) (r := r)
    (by rw [State.roll_modRoll_cleared]; rfl)
  have fed' : (s.cleared.modRoll r fun k => { k with endLine := Line.take true }).fedSheet? = some v := by
    unfold State.fedSheet?
    rw [State.table_modRoll]
    exact fed
  have judged := State.rollEndActive_judged (s := s.cleared.modRoll r fun k => { k with endLine := Line.take true }) (r := r)
    (by rw [State.roll_modRoll_cleared]; exact st) fed' own
  rw [State.rollEndNeed_congr (State.op_modRoll ..), State.mediaProf_modRoll_cleared] at judged
  obtain ⟨unknown, known⟩ := judged
  have u_eq : State.returnCommand s.cleared (.rollEnd r) = if (s.mediaProf r).tailLength * 1000 < n
      then ((s.cleared.modRoll r fun k => { k with endLine := Line.take true }).rollEnds r v.number n).spoil v.sid .rollEnd
      else (s.cleared.modRoll r fun k => { k with endLine := Line.take true }).rollEnds r v.number n := by
    rcases need with need | ⟨need, rfl⟩
    · exact ends.trans (known n need)
    · rw [if_neg (Nat.not_lt_zero _)]
      exact ends.trans (unknown need)
  obtain ⟨a, e⟩ := State.rollEnds_frame (s := s.cleared.modRoll r fun k => { k with endLine := Line.take true }) (r := r) v.number n
  rw [State.modRoll_modRoll] at e
  have st_ends : (((s.cleared.modRoll r fun k => { k with endLine := Line.take true }).rollEnds r v.number n).roll r).st = .ended := by
    rw [e]
    cases r <;> rfl
  have table_ends : ((s.cleared.modRoll r fun k => { k with endLine := Line.take true }).rollEnds r v.number n).media.table = s.media.table := by
    rw [e]
    exact State.table_modRoll ..
  have recs_ends (room : s.room 1) : s.record .rollEnd r.num v.number n ∈
      ((s.cleared.modRoll r fun k => { k with endLine := Line.take true }).rollEnds r v.number n).events.recs := by
    rw [e]
    cases r <;> exact State.posted_room (Nat.lt_of_succ_le room) ..
  by_cases long : (s.mediaProf r).tailLength * 1000 < n
  · rw [if_pos long] at u_eq
    refine ⟨_, _, congrArg (fun t => Host.Outcome.next (settle settleFuel t)) u_eq, rfl, ?_, fun room => ?_, ?_⟩
    · rw [(State.sheetFrame_spoil ..).roll, st_ends]
    · exact (State.spoil_quiet (.refl _) ..).recsStand.subset (recs_ends room)
    · rw [if_pos long]
      exact (State.spoil_marked ((State.sheet?_eq table_ends _).trans sheet) (Sheet.goesOn_of_fed (State.st_of_fedSheet? fed) free) .rollEnd).keeps
        (settle_keeps settleFuel (.refl _))
  · rw [if_neg long] at u_eq
    refine ⟨_, _, congrArg (fun t => Host.Outcome.next (settle settleFuel t)) u_eq, rfl, st_ends, recs_ends, ?_⟩
    rw [if_neg long]
    exact table_ends

end

section
variable (s : State) (r : Roll)

theorem State.setRoll_keeps (st : RollState) : (s.setRoll r st).media.op = s.media.op ∧ (s.setRoll r st).events = s.events ∧
    (s.setRoll r st).time = s.time := by
  unfold State.setRoll
  extract_lets k gone t
  obtain ⟨a, e⟩ := State.agendaFrame_stir t
  rw [e]
  cases r <;> exact ⟨rfl, rfl, rfl⟩

theorem State.op_rollOut : (s.rollOut r).media.op = s.media.op := (s.setRoll_keeps r .out).1

theorem State.events_rollOut : (s.rollOut r).events = s.events.enter (Event.make s.time.ms .rollOut r.num 0 0) := by
  obtain ⟨-, events, time⟩ := s.setRoll_keeps r .out
  unfold State.rollOut State.post
  rw [events, time]

theorem State.endOp_post (k : EventKind) (a b c : Nat) : (s.endOp.post k a b c).events = s.events.enter (Event.make s.time.ms k a b c) ∧
    (s.endOp.post k a b c).time = s.time := by
  obtain ⟨x, e⟩ := State.agendaFrame_stirBoundary (s.modMedia fun m => { m with op := none })
  unfold State.endOp
  rw [e]
  exact ⟨rfl, rfl⟩

theorem EventQueue.mem_enter_enter {q : EventQueue} (h : q.recs.length + 2 ≤ 32) (e f : Event) :
    e ∈ ((q.enter e).enter f).recs ∧ f ∈ ((q.enter e).enter f).recs := by
  have first := EventQueue.mem_enter (q := q) (by omega) e
  refine ⟨(EventQueue.recs_enter _ f).subset first, EventQueue.mem_enter ?_ f⟩
  unfold EventQueue.enter
  rw [if_pos (by omega), List.length_append]
  exact h

end

/-- Settles O54, by the states of the roll under each change of its lines. -/
theorem rollLines : Obligations.RollLines := by
  intro s r k v?
  refine ⟨fun h st => ?_, fun a h => ?_, fun h st => ?_, fun a h => ?_, fun st free => ?_, fun v st fed sheet own unspoiled => ?_, fun st present => ?_,
    fun a st st' => ?_, fun a => ?_⟩
  · refine .of_frame (f := fun s => s.lineCommand (.rollPresent r) true) rfl ?_
    rw [State.lineCommand_changes (s := s.cleared) (i := .rollPresent r) (b := true) (by rw [State.filt_present]; exact h)]
    exact State.frame_rollPresent (State.rollPresentChanged_here (by rw [State.roll_modRoll_cleared]; rfl) (by rw [State.roll_modRoll_cleared]; exact st))
  · refine congrArg Host.Outcome.next (State.event_eq (f := fun s => s.lineCommand (.rollPresent r) true) ?_ (by cases r <;> exact a))
    by_cases same : (s.roll r).presentLine.filt = .active
    · exact State.lineCommand_same (s := s.cleared) (i := .rollPresent r) (b := true) (by rw [State.filt_present]; exact same)
    · rw [State.lineCommand_changes (s := s.cleared) (i := .rollPresent r) (b := true) (by rw [State.filt_present]; exact same)]
      exact State.rollPresentChanged_stays (by rw [State.roll_setPresent]; rfl) (by rw [State.roll_setPresent]; exact h.resolve_left same)
  · refine .of_frame (f := fun s => s.lineCommand (.rollPresent r) false) rfl ?_
    rw [State.lineCommand_changes (s := s.cleared) (i := .rollPresent r) (b := false) (by rw [State.filt_present]; exact h)]
    have out : k.st.engaged = false ∧ k.st ≠ .absent := by
      rcases st with st | st | st <;> rw [st] <;> decide
    exact State.frame_rollPresent (State.rollPresentChanged_gone (by rw [State.roll_modRoll_cleared]; exact nofun)
      (by rw [State.roll_modRoll_cleared]; exact out.1) (by rw [State.roll_modRoll_cleared]; exact out.2))
  · refine congrArg Host.Outcome.next (State.event_eq (f := fun s => s.lineCommand (.rollPresent r) false) ?_ (by cases r <;> exact a))
    by_cases same : (s.roll r).presentLine.filt = .inactive
    · exact State.lineCommand_same (s := s.cleared) (i := .rollPresent r) (b := false) (by rw [State.filt_present]; exact same)
    · rw [State.lineCommand_changes (s := s.cleared) (i := .rollPresent r) (b := false) (by rw [State.filt_present]; exact same)]
      exact State.rollPresentChanged_kept (by rw [State.roll_setPresent]; exact nofun) (by
        rw [State.roll_setPresent]
        exact (h.resolve_left same).symm)
  · have ends := State.rollEndChanged_ends (s := s.cleared.modRoll r fun k => { k with endLine := Line.take true }) (r := r)
      (by rw [State.roll_modRoll_cleared]; rfl)
    have e := ends.trans (State.rollEndActive_free (by rw [State.roll_modRoll_cleared]; exact st) fun v fed => free v (by
      unfold State.fedSheet? at fed
      rwa [State.table_modRoll] at fed))
    obtain ⟨a, f⟩ := State.rollEnds_frame (s := s.cleared.modRoll r fun k => { k with endLine := Line.take true }) (r := r) 0xFFFF 0
    rw [State.modRoll_modRoll] at f
    refine .of_eq_frame (f := fun s => s.returnCommand (.rollEnd r)) rfl e ⟨a, ?_⟩
    rw [f]
    cases r <;> rfl
  · intro judged
    have judge {n : Nat} (need : s.rollEndNeed v = some n ∨ s.rollEndNeed v = none ∧ n = 0) : judged n :=
      State.rollJudged st fed sheet own unspoiled need
    have on := State.st_of_fedSheet? fed
    refine ⟨fun e st' len => judge (.inl ?_), fun st' len => judge (.inr ⟨?_, rfl⟩), fun st' free => judge (.inl ?_),
      fun o st' op kind sheet => judge (.inl ?_)⟩
    · unfold State.rollEndNeed Sheet.planned
      rcases on with h | h | h
      · rw [h, len]
        rfl
      · rw [h, len]
        rfl
      · exact absurd h st'
    · unfold State.rollEndNeed Sheet.planned
      rcases on with h | h | h
      · rw [h, len]
        rfl
      · rw [h, len]
        rfl
      · exact absurd h st'
    · unfold State.rollEndNeed State.trailingLeft
      rw [st']
      dsimp only
      split
      next o op => rw [if_neg (free o op)]
      next => rfl
    · unfold State.rollEndNeed State.trailingLeft
      rw [st', op]
      dsimp only
      rw [if_pos ⟨kind, sheet⟩]
  · have ends := State.rollEndChanged_ends (s := s.cleared.modRoll r fun k => { k with endLine := Line.take true }) (r := r)
      (by rw [State.roll_modRoll_cleared]; rfl)
    have e := ends.trans (State.rollEndActive_threading (by rw [State.roll_modRoll_cleared]; exact st))
    have out := State.rollOut_quiet (.refl ((s.cleared.modRoll r fun k => { k with endLine := Line.take true }).endOp.post .rollEnd r.num 0xFFFF 0)) r
    refine ⟨_, .of_eq (f := fun s => s.returnCommand (.rollEnd r)) rfl e, ?_, ?_, fun room => ?_⟩
    · refine State.st_rollOut _ r ?_
      rw [State.roll_post, State.roll_endOp, State.roll_modRoll_cleared]
      exact present
    · rw [State.op_rollOut, State.media_post, State.media_endOp]
    · obtain ⟨events, time⟩ := (s.cleared.modRoll r fun k => { k with endLine := Line.take true }).endOp_post .rollEnd r.num 0xFFFF 0
      rw [State.events_rollOut, events, time, State.events_modRoll, State.time_modRoll]
      exact EventQueue.mem_enter_enter room _ _
  · refine congrArg Host.Outcome.next (State.event_eq (f := fun s => s.returnCommand (.rollEnd r)) ?_ (by cases r <;> exact a))
    refine (State.rollEndChanged_ends (s := s.cleared.modRoll r fun k => { k with endLine := Line.take true }) (r := r)
      (by rw [State.roll_modRoll_cleared]; rfl)).trans (State.rollEndActive_still ?_ ?_)
    · rw [State.roll_modRoll_cleared]
      exact st
    · rw [State.roll_modRoll_cleared]
      exact st'
  · refine congrArg Host.Outcome.next (State.event_eq (f := fun s => s.lineCommand (.rollEnd r) false) ?_ (by cases r <;> exact a))
    by_cases same : (s.cleared.line (.rollEnd r)).filt = .inactive
    · exact State.lineCommand_same (s := s.cleared) (i := .rollEnd r) (b := false) same
    · rw [State.lineCommand_changes (s := s.cleared) (i := .rollEnd r) (b := false) same]
      exact State.rollEndChanged_left (by rw [State.roll_setEnd]; exact nofun)

end Sys2Proof.Machine

/-! O2: the step of the block, one millisecond, and the sampling of the lines (log 1). -/
namespace Sys2Proof.Machine

/-! ### The clock and the queue under what a millisecond does -/

/-- The time base and the queue of commands of a state are those of another. -/
def SameClock (z s : State) : Prop := s.time = z.time ∧ s.pending = z.pending

section
variable {z s t : State} (h : SameClock z s)
include h

theorem SameClock.frame (e : t.time = s.time) (p : t.pending = s.pending) : SameClock z t := ⟨e.trans h.1, p.trans h.2⟩
theorem SameClock.keeps (k : Keeps s t) : SameClock z t := h.frame k.time k.pending
theorem SameClock.quiet (q : Quiet s t) : SameClock z t := h.keeps q.toKeeps

theorem State.count_clock (i : CounterId) (n : Nat) : SameClock z (s.count i n) := by
  unfold State.count
  extract_lets v w
  split
  · exact h.frame rfl rfl
  · exact h.frame rfl rfl

theorem State.setLine_clock (i : LineId) (l : Line) : SameClock z (s.setLine i l) := by
  cases i with
  | rollPresent r => cases r <;> exact h
  | rollEnd r => cases r <;> exact h
  | _ => exact h

theorem State.holdExpires_clock : SameClock z s.holdExpires := by
  unfold State.holdExpires
  split
  · exact State.count_clock (h.quiet (State.answerHeld_quiet (.refl s) _)) _ _
  · exact h

theorem State.cartridgeEmpty_clock (c : Chan) (r : EmptyReason) : SameClock z (s.cartridgeEmpty c r) := by
  unfold State.cartridgeEmpty
  refine SameClock.quiet ?_ (State.stopRun_quiet (.refl _) c)
  exact h.frame rfl rfl

theorem State.afterStroke_clock (c : Chan) : SameClock z (s.afterStroke c) := by
  unfold State.afterStroke
  extract_lets k u
  have hu : SameClock z u := by
    unfold u
    split
    · exact h.frame rfl rfl
    · exact h
  split
  · exact State.cartridgeEmpty_clock h c _
  · split
    · exact State.cartridgeEmpty_clock h c _
    · split
      · exact hu.quiet (State.stopRun_quiet (.refl u) c)
      · exact hu.frame rfl rfl

theorem State.strokeEnds_clock (c : Chan) : SameClock z (s.strokeEnds c) := by
  unfold State.strokeEnds
  extract_lets k u v
  have hu : SameClock z u := h
  have hv : SameClock z v := by
    unfold v
    split
    · exact hu.quiet (State.inkChanged_quiet (State.evalLow_quiet (.refl u) c) _)
    · exact hu
  split
  · exact (State.afterStroke_clock hv c).frame (State.time_stir _) (State.pending_stir _)
  · exact h

theorem State.endOp_clock : SameClock z s.endOp := h.quiet (State.endOp_quiet (.refl s))

theorem State.cutStalls_clock (n : Nat) : SameClock z (s.cutStalls n) := by
  unfold State.cutStalls
  exact (State.endOp_clock h).frame ((State.time_modMedia ..).trans (State.time_post ..)) ((State.pending_modMedia ..).trans (State.pending_post ..))

theorem State.stalls_clock (o : MediaOp) : SameClock z (s.stalls o) := by
  unfold State.stalls
  exact (State.endOp_clock h).frame ((State.time_modMedia ..).trans (State.time_post ..)) ((State.pending_modMedia ..).trans (State.pending_post ..))

theorem State.opLimit_clock (o : MediaOp) : SameClock z (s.opLimit o) := by
  unfold State.opLimit
  split
  · rw [s.cutFails_eq o]
    exact SameClock.quiet (State.cutStalls_clock h _) (State.cutSpoils_quiet _ o)
  · exact SameClock.quiet (State.stalls_clock h o) (s.opStalls_quiet o)

theorem State.fullFloatChanged_clock (c : Chan) (old : LineState) : SameClock z (s.fullFloatChanged c old) := by
  unfold State.fullFloatChanged State.fullFloatAsserts
  extract_lets mark u
  have hu : SameClock z u := by
    unfold u
    split
    · exact h.quiet (State.resyncTo_quiet (.refl s) c mark true)
    · exact h
  split
  · exact hu.quiet (State.inkChanged_quiet (State.evalLow_quiet (State.stopRun_quiet (State.takeMeasurement_quiet (.refl u) c) c) c) _)
  · exact h.quiet (Quiet.refl s).stir

theorem State.presenceChanged_clock (c : Chan) : SameClock z (s.presenceChanged c) := by
  unfold State.presenceChanged
  extract_lets k
  split
  · split
    · exact h.frame (State.time_stir _) (State.pending_stir _)
    · exact h
  · split
    · exact h
    · exact SameClock.quiet (s := s.modInk c fun k => { k with cart := .absent }) h (State.stopRun_quiet (.refl _) c).post.stir

theorem State.lineChanged_clock (i : LineId) (old : LineState) : SameClock z (s.lineChanged i old) := by
  cases i with
  | lowFloat c => exact h.quiet (State.lowFloatChanged_quiet (.refl s) c old)
  | fullFloat c => exact State.fullFloatChanged_clock h c old
  | presence c => exact State.presenceChanged_clock h c
  | capped => exact h.quiet (State.cappedChanged_quiet (.refl s) old)
  | openLine => exact h.quiet (State.openChanged_quiet (.refl s))
  | wiperHome => exact h.quiet (State.wiperChanged_quiet (.refl s) old)
  | carriage => exact h.quiet (State.carriageChanged_quiet (.refl s))
  | rollPresent r => exact h.quiet (State.rollPresentChanged_quiet (.refl s) r)
  | rollEnd r => exact h.quiet (State.rollEndChanged_quiet (.refl s) r)
  | feedPath => exact h.quiet (State.feedPathChanged_quiet (.refl s))
  | platen => exact h.quiet (State.platenChanged_quiet (.refl s))
  | cutterHome => exact h.quiet (State.cutterChanged_quiet (.refl s) old)

theorem State.sampleLine_clock (i : LineId) : SameClock z (s.sampleLine i) := by
  unfold State.sampleLine
  extract_lets l l' u
  have hu : SameClock z u := State.setLine_clock h i l'
  split
  · exact hu
  · exact State.lineChanged_clock hu i _

theorem State.tickHold_clock : SameClock z s.tickHold := by
  unfold State.tickHold
  split
  · extract_lets n l u
    have hu : SameClock z u := h
    split
    · exact State.holdExpires_clock hu
    · exact hu
  · exact h

theorem State.tickStarve_clock : SameClock z s.tickStarve := by
  unfold State.tickStarve
  split
  · exact h
  · exact h

theorem State.tickStroke_clock (c : Chan) : SameClock z (s.tickStroke c) := by
  unfold State.tickStroke
  split
  · extract_lets u
    have hu : SameClock z u := h
    split
    · exact State.strokeEnds_clock hu c
    · exact hu
  · exact h

theorem State.tickCall_clock : SameClock z s.tickCall := by
  unfold State.tickCall
  split
  · extract_lets u
    have hu : SameClock z u := h
    split
    · exact hu.quiet (State.callTimesOut_quiet (.refl u))
    · exact hu
  · exact h

theorem State.tickMotor_clock : SameClock z s.tickMotor := by
  unfold State.tickMotor
  split
  · extract_lets u
    have hu : SameClock z u := h
    have cap : SameClock z (if capLimit ≤ u.svc.motorMs then u.capFails else u) := by
      split
      · exact hu.quiet (State.capFails_quiet (.refl u))
      · exact hu
    split
    · exact cap
    · exact cap
    · split
      · exact hu.quiet (State.wiperFails_quiet (.refl u))
      · exact hu
    · split
      · exact hu.quiet (State.suctionEnds_quiet (.refl u))
      · exact hu
    · exact hu
  · exact h

theorem State.tickDecap_clock (c : Chan) : SameClock z (s.tickDecap c) := by
  unfold State.tickDecap
  split
  · extract_lets n u
    have hu : SameClock z u := h
    split
    · exact hu.quiet (State.decapExpires_quiet (.refl u) c)
    · exact hu
  · exact h

theorem State.tickIdle_clock : SameClock z s.tickIdle := by
  unfold State.tickIdle
  split
  · extract_lets u
    have hu : SameClock z u := h
    split
    · exact hu.quiet (State.idleExpires_quiet (.refl u))
    · exact hu
  · exact h

theorem State.tickOp_clock : SameClock z s.tickOp := by
  unfold State.tickOp
  split
  · extract_lets o u
    have hu : SameClock z u := h
    split
    · exact State.opLimit_clock hu o
    · exact hu
  · exact h

theorem runEvents_clock {fs : List (State → State)} (hf : ∀ f ∈ fs, ∀ t, SameClock z t → SameClock z (f t)) : SameClock z (runEvents s fs) :=
  List.foldlRecOn (motive := SameClock z) fs _ h fun t ht f hm => (hf f hm t ht).keeps (settle_keeps settleFuel (.refl _))

theorem State.sampleLines_clock : SameClock z s.sampleLines :=
  runEvents_clock h (List.forall_mem_map.2 fun i _ _ ht => State.sampleLine_clock ht i)

omit h in
/-- The parts of a millisecond after the first leave the time base and the queue. -/
theorem tickParts_clock : ∀ f ∈ tickParts.tail, ∀ t, SameClock z t → SameClock z (f t) := by
  have tail : tickParts.tail = [State.tickLink, State.tickHold, State.tickStarve] ++ Chan.all.map (fun c s => s.tickStroke c) ++
    [State.tickCall, State.tickMotor] ++ Chan.all.map (fun c s => s.tickDecap c) ++ [State.tickIdle, State.tickOp] := rfl
  simp only [tail, List.forall_mem_append, List.forall_mem_cons, List.forall_mem_map]
  exact ⟨⟨⟨⟨⟨fun _ ht => ht, fun _ => State.tickHold_clock, fun _ => State.tickStarve_clock, nofun⟩,
    fun c _ _ ht => State.tickStroke_clock ht c⟩, fun _ => State.tickCall_clock, fun _ => State.tickMotor_clock, nofun⟩,
    fun c _ _ ht => State.tickDecap_clock ht c⟩, fun _ => State.tickIdle_clock, fun _ => State.tickOp_clock, nofun⟩

end

theorem runEvents_cons (s : State) (f : State → State) (fs : List (State → State)) :
    runEvents s (f :: fs) = runEvents (settle settleFuel (f s)) fs := rfl

/-- A millisecond counts the time base by one and takes no command. -/
theorem State.tick_clock (s : State) : s.tick.time.ms = s.time.ms + 1 ∧ s.tick.pending = s.pending := by
  have first : SameClock s.cleared.tickTime (settle settleFuel s.cleared.tickTime) :=
    SameClock.keeps (s := s.cleared.tickTime) ⟨rfl, rfl⟩ (settle_keeps settleFuel (.refl _))
  have parts : SameClock s.cleared.tickTime (runEvents s.cleared tickParts) := by
    rw [show tickParts = State.tickTime :: tickParts.tail from rfl, runEvents_cons]
    exact runEvents_clock first tickParts_clock
  have whole : SameClock s.cleared.tickTime s.tick := by
    unfold State.tick
    extract_lets u
    have hu : SameClock s.cleared.tickTime u := parts
    split
    · exact State.sampleLines_clock hu
    · exact hu
  exact ⟨congrArg TimeBase.ms whole.1, whole.2⟩

end Sys2Proof.Machine

namespace Sys2Proof.Machine

/-! ### The timers of a millisecond, short of their limits -/

section
variable {s : State}

theorem State.tickHold_short {i : SlotIx} (h : s.link.held = some i) (short : s.link.holdMs + 1 < 50) :
    s.tickHold = { s with link := { s.link with holdMs := s.link.holdMs + 1 } } := by
  unfold State.tickHold
  rw [if_pos (by rw [h]; rfl)]
  exact if_neg (Nat.not_le.mpr short)

theorem State.tickHold_idle (h : s.link.held = none) : s.tickHold = s := by
  unfold State.tickHold
  rw [if_neg (by rw [h]; exact Bool.false_ne_true)]

theorem State.starveMs_tickStarve (s : State) : s.tickStarve.flow.starveMs = if s.starveCounts then s.flow.starveMs + 1 else s.flow.starveMs := by
  unfold State.tickStarve
  split <;> rfl

theorem State.tickStroke_short {c : Chan} {n : Nat} (h : (s.ink.get c).stroke = some n) (short : n + 1 < 250) :
    s.tickStroke c = s.modInk c fun k => { k with stroke := some (n + 1) } := by
  unfold State.tickStroke
  rw [show (s.inkOf c).stroke = some n from h]
  exact if_neg (Nat.not_le.mpr short)

theorem State.tickStroke_idle {c : Chan} (h : (s.ink.get c).stroke = none) : s.tickStroke c = s := by
  unfold State.tickStroke
  rw [show (s.inkOf c).stroke = none from h]

theorem State.tickCall_short (st : s.svc.station = .calling) (run : s.svc.callRunning = true) (short : s.svc.callMs + 1 < 10000) :
    s.tickCall = s.modSvc fun v => { v with callMs := v.callMs + 1 } := by
  unfold State.tickCall
  rw [if_pos (by rw [st, run]; rfl)]
  exact if_neg (Nat.not_le.mpr short)

theorem State.tickCall_idle (st : s.svc.station ≠ .calling) : s.tickCall = s := by
  unfold State.tickCall
  rw [if_neg]
  rw [Bool.and_eq_true]
  exact fun e => st (of_decide_eq_true e.1)

/-- The motor time of the step in flight, counted. -/
def State.motorCounts (s : State) : State := s.modSvc fun v => { v with motorMs := v.motorMs + 1 }

theorem State.tickMotor_cap (st : s.svc.station = .capping ∨ s.svc.station = .uncapping) (short : s.svc.motorMs + 1 < 2000) :
    s.tickMotor = s.motorCounts := by
  unfold State.tickMotor
  rcases st with st | st <;>
  · rw [if_pos (by rw [st]; rfl)]
    extract_lets u
    rw [show u.svc.station = _ from st]
    exact if_neg (Nat.not_le.mpr short)

theorem State.tickMotor_wiping (st : s.svc.station = .wiping) (short : s.svc.motorMs + 1 < 3000) : s.tickMotor = s.motorCounts := by
  unfold State.tickMotor
  rw [if_pos (by rw [st]; rfl)]
  extract_lets u
  rw [show u.svc.station = _ from st]
  exact if_neg (Nat.not_le.mpr short)

theorem State.tickMotor_suction {c : Chan} {cs : List Chan} (st : s.svc.station = .suction) (suck : s.svc.toSuck = c :: cs)
    (short : s.svc.motorMs + 1 < (s.chanProf c).suctionTime * 1000) : s.tickMotor = s.motorCounts := by
  unfold State.tickMotor
  rw [if_pos (by rw [st]; rfl)]
  extract_lets u
  rw [show u.svc.station = _ from st]
  refine if_neg (Nat.not_le.mpr ?_)
  unfold State.suctionMs
  rw [show u.svc.toSuck = _ from suck]
  exact short

theorem State.tickMotor_idle (st : s.svc.station.runsOn = false) : s.tickMotor = s := by
  unfold State.tickMotor
  rw [if_neg (by rw [st]; exact Bool.false_ne_true)]

theorem State.tickDecap_short {c : Chan} (cap : s.svc.cap = .opened) (live : (s.svc.decap.get c).expired = false)
    (short : (s.svc.decap.get c).ms + 1 < (s.chanProf c).decapLimit * 1000) :
    s.tickDecap c = s.modSvc fun v => { v with decap := v.decap.set c { v.decap.get c with ms := (s.svc.decap.get c).ms + 1 } } := by
  unfold State.tickDecap
  rw [if_pos (by unfold State.decapRuns; rw [cap, live]; rfl)]
  exact if_neg (Nat.not_le.mpr short)

theorem State.tickDecap_idle {c : Chan} (cap : s.svc.cap = .closed) : s.tickDecap c = s := by
  unfold State.tickDecap
  rw [if_neg (by unfold State.decapRuns; rw [cap]; exact Bool.false_ne_true)]

theorem State.tickIdle_short (counts : s.idleCounts = true) (short : s.svc.idleMs + 1 < s.prof.flow.idleCap * 1000) :
    s.tickIdle = s.modSvc fun v => { v with idleMs := v.idleMs + 1 } := by
  unfold State.tickIdle
  rw [if_pos counts]
  exact if_neg (Nat.not_le.mpr short)

theorem State.tickIdle_idle (st : s.svc.station ≠ .uncapped) : s.tickIdle = s := by
  unfold State.tickIdle
  rw [if_neg]
  unfold State.idleCounts
  rw [Bool.and_eq_true, Bool.and_eq_true]
  exact fun e => st (beq_iff_eq.mp e.1.1)

theorem State.tickOp_short {o : MediaOp} (op : s.media.op = some o) (short : o.ms + 1 < o.limit) :
    s.tickOp = s.modMedia fun m => { m with op := some { o with ms := o.ms + 1 } } := by
  unfold State.tickOp
  rw [op]
  exact if_neg (Nat.not_le.mpr short)

theorem State.tickOp_idle (op : s.media.op = none) : s.tickOp = s := by
  unfold State.tickOp
  rw [op]

theorem State.tickStarve_idle (h : s.starveCounts = false) : s.tickStarve = s := by
  unfold State.tickStarve
  rw [if_neg (by rw [h]; exact Bool.false_ne_true)]

end

/-! ### A millisecond in which nothing runs -/

theorem runEvents_idle {s : State} (g : s.agenda = []) {fs : List (State → State)} (h : ∀ f ∈ fs, f s = s) : runEvents s fs = s := by
  induction fs with
  | nil => rfl
  | cons f fs ih =>
    rw [runEvents_cons, h f List.mem_cons_self, settle_none _ g]
    exact ih fun f hf => h f (List.mem_cons_of_mem _ hf)

theorem settle_single {s : State} {r : Reaction} (g : s.agenda = [r]) (n : Nat) : settle (n + 1) s = settle n ({ s with agenda := [] }.react r) := by
  rw [settle, g]

theorem State.linkTest_heard {s : State} (h : s.link.silence ≠ silenceLimit) : s.linkTest = s := by
  unfold State.linkTest
  rw [if_neg (by rw [decide_eq_false h, Bool.and_false, Bool.false_and]; exact Bool.false_ne_true)]

/-- The state a millisecond on, with nothing but the time and the silence counted. -/
def State.later (s : State) : State :=
  { s with out := { answers := [], forwarded := [] }, time := { ms := s.time.ms + 1, phase := s.time.phase + 1 },
           link := { s.link with silence := s.link.silence + 1 } }

/-- What does not run in a millisecond, as the statement lists it. -/
structure State.Rests (s : State) : Prop where
  agenda : s.agenda = []
  up : s.link.state = .up
  silence : s.link.silence < 4999
  held : s.link.held = none
  starve : s.starveCounts = false
  stroke : ∀ c, (s.ink.get c).stroke = none
  station : s.svc.station = .capped ∨ s.svc.station = .fault
  cap : s.svc.cap = .closed
  op : s.media.op = none
  phase : s.time.phase < 9

/-- The time base counted. -/
def State.clocked (s : State) : State := { s.cleared with time := { ms := s.time.ms + 1, phase := s.time.phase + 1 } }

theorem State.tickLink_up {s : State} (g : s.agenda = []) (up : s.link.state = .up) (silence : s.link.silence < 4999) :
    s.tickLink = { s with link := { s.link with silence := s.link.silence + 1 }, agenda := [.linkCheck] } := by
  have min : min silenceLimit (s.link.silence + 1) = s.link.silence + 1 := Nat.min_eq_right (by unfold silenceLimit; omega)
  have lost : (if s.link.state = LinkState.lost then s.link.lostMs + 1 else s.link.lostMs) = s.link.lostMs := if_neg (by rw [up]; exact nofun)
  unfold State.tickLink
  rw [min, lost]
  change { s with link := { s.link with silence := s.link.silence + 1 }, agenda := addReaction s.agenda .linkCheck } = _
  rw [g]
  rfl

section
variable {s : State} (h : s.Rests)
include h

theorem State.tickTime_rests : settle settleFuel s.cleared.tickTime = s.clocked := by
  have e : s.cleared.tickTime = s.clocked := by
    unfold State.tickTime
    rw [show (s.cleared.time.phase + 1) % 10 = s.time.phase + 1 from Nat.mod_eq_of_lt (Nat.succ_lt_succ h.phase)]
    rfl
  rw [e, settle_none _ (show s.clocked.agenda = [] from h.agenda)]

theorem State.tickLink_rests : settle settleFuel s.clocked.tickLink = s.later := by
  have same : { s.later with agenda := [] } = s.later := by
    unfold State.later
    rw [h.agenda]
  have quiet : s.later.link.silence ≠ silenceLimit := Nat.ne_of_lt (Nat.lt_of_lt_of_le (Nat.succ_lt_succ h.silence) (by decide))
  rw [State.tickLink_up (s := s.clocked) h.agenda h.up h.silence, show settleFuel = 4095 + 1 from rfl, settle_single rfl]
  change settle 4095 ({ s.later with agenda := [] } : State).linkTest = _
  rw [same, State.linkTest_heard quiet, settle_none _ (show s.later.agenda = [] from h.agenda)]

theorem State.runsOn_rests : s.svc.station.runsOn = false := by
  rcases h.station with st | st <;> rw [st] <;> rfl

/-- The parts of a millisecond after the time base and the link do nothing. -/
theorem State.tickParts_rests : ∀ f ∈ tickParts.tail.tail, f s.later = s.later := by
  have apart {st : Station} (c : st ≠ .capped) (f : st ≠ .fault) : s.svc.station ≠ st := by
    rcases h.station with e | e <;> rw [e]
    · exact c.symm
    · exact f.symm
  have tail : tickParts.tail.tail = [State.tickHold, State.tickStarve] ++ Chan.all.map (fun c s => s.tickStroke c) ++
    [State.tickCall, State.tickMotor] ++ Chan.all.map (fun c s => s.tickDecap c) ++ [State.tickIdle, State.tickOp] := rfl
  simp only [tail, List.forall_mem_append, List.forall_mem_cons, List.forall_mem_map]
  exact ⟨⟨⟨⟨⟨State.tickHold_idle h.held, State.tickStarve_idle h.starve, nofun⟩, fun c _ => State.tickStroke_idle (h.stroke c)⟩,
    State.tickCall_idle (s := s.later) (apart nofun nofun), State.tickMotor_idle (s := s.later) (show s.svc.station.runsOn = false from State.runsOn_rests h), nofun⟩,
    fun c _ => State.tickDecap_idle (s := s.later) h.cap⟩, State.tickIdle_idle (s := s.later) (apart nofun nofun), State.tickOp_idle (s := s.later) h.op, nofun⟩

theorem State.tick_rests : s.tick = s.later := by
  have parts : runEvents s.cleared tickParts = s.later := by
    rw [show tickParts = State.tickTime :: State.tickLink :: tickParts.tail.tail from rfl, runEvents_cons, State.tickTime_rests h,
      runEvents_cons, State.tickLink_rests h, runEvents_idle (s := s.later) h.agenda (State.tickParts_rests h)]
  unfold State.tick
  rw [show runEvents { s with out := { answers := [], forwarded := [] } } tickParts = s.later from parts]
  exact if_neg (Nat.succ_ne_zero _)

end

/-! ### One sample of a line (R91, R130, R154) -/

section
variable {l : Line} {b : Bool} (pin : l.pin = some b)
include pin

theorem Line.sample_same (e : LineState.ofLevel b = l.filt) : l.sample = { l with run := 0 } := by
  unfold Line.sample
  rw [pin]
  exact if_pos e

theorem Line.sample_first (e : LineState.ofLevel b ≠ l.filt) (first : l.run = 0 ∨ l.last ≠ b) : l.sample = { l with run := 1, last := b } := by
  unfold Line.sample
  rw [pin]
  dsimp only
  rw [if_neg e, if_pos (by rw [Bool.or_eq_true, decide_eq_true_iff, bne_iff_ne]; exact first)]

theorem Line.sample_counts (e : LineState.ofLevel b ≠ l.filt) {n : Nat} (run : l.run = n + 1) (last : l.last = b) :
    l.sample = if 2 ≤ n + 1 then { l with filt := LineState.ofLevel b, run := 0 } else { l with run := l.run + 1 } := by
  unfold Line.sample
  rw [pin]
  dsimp only
  rw [if_neg e, if_neg (by rw [Bool.or_eq_true, decide_eq_true_iff, bne_iff_ne, run, last]; simp), run]

end

theorem State.agenda_setLine (s : State) (i : LineId) (l : Line) : (s.setLine i l).agenda = s.agenda := by
  cases i with
  | rollPresent r => cases r <;> rfl
  | rollEnd r => cases r <;> rfl
  | _ => rfl

theorem exec_pinCommand (s : State) (i : LineId) (b : Bool) : exec (pinCommand i b) s = .next (s.event fun s => s.drivePin i b) := by
  cases i <;> cases b <;> rfl

theorem step_empty {s : State} (p : s.pending = []) : step s = .next s.tick := by
  unfold step
  rw [p]

theorem State.tick_eq (s : State) :
    s.tick = (let u := runEvents s.cleared tickParts; if u.time.phase = 0 then u.sampleLines else u) := by
  unfold State.tick State.cleared
  rfl

/-- Settles O2, by each timer short of its limit, a millisecond in which nothing runs, and one sample of a line. -/
theorem emptyQueueStepIsOneMillisecond : Obligations.EmptyQueueStepIsOneMillisecond := by
  refine ⟨fun s p => ?_, fun s => ⟨rfl, rfl⟩, fun s i held short => State.tickHold_short held short, State.starveMs_tickStarve,
    fun s c n h short => ?_, fun s st run short => ?_, fun s st short => ?_, fun s st short => ?_, fun s c cs st suck short => ?_,
    fun s c cap live short => ?_, fun s counts short => ?_, fun s o op short => ?_, fun s p a up sil held starve stroke st cap op phase => ?_,
    fun s => State.tick_eq s, fun l pin => ?_, fun l b pin e => Line.sample_same pin e, fun l b pin e first => Line.sample_first pin e first,
    fun l b pin e run last => ?_, fun l b pin e run last => ?_, fun s i b a => ?_⟩
  · obtain ⟨ms, pending⟩ := s.tick_clock
    exact ⟨step_empty p, ms, pending.trans p, State.tick_straps rfl⟩
  · rw [State.tickStroke_short h short]
    exact congrArg InkChan.stroke (PerChan.get_set_self ..)
  · rw [State.tickCall_short st run short]
    rfl
  · rw [State.tickMotor_cap st short]
    rfl
  · rw [State.tickMotor_wiping st short]
    rfl
  · rw [State.tickMotor_suction st suck short]
    rfl
  · rw [State.tickDecap_short cap live short]
    exact congrArg Decap.ms (PerChan.get_set_self ..)
  · rw [State.tickIdle_short counts short]
    rfl
  · rw [State.tickOp_short op short]
    rfl
  · rw [step_empty p]
    exact congrArg Host.Outcome.next (State.tick_rests ⟨a, up, sil, held, starve, stroke, st, cap, op, phase⟩)
  · unfold Line.sample
    rw [pin]
  · rw [Line.sample_counts pin e run last, run]
    rfl
  · rw [Line.sample_counts pin e run last]
    rfl
  · rw [exec_pinCommand]
    exact congrArg Host.Outcome.next (State.event_eq (f := fun s => s.drivePin i b) rfl (by
      rw [State.agenda_setLine]
      exact a))

end Sys2Proof.Machine

/-! O14, the commit that is accepted: a SWATH and a directive are posted (R28). -/
namespace Sys2Proof.Machine

theorem State.AgendaFrame.slot {s t : State} (h : s.AgendaFrame t) (i : SlotIx) : t.slot i = s.slot i := by
  obtain ⟨a, rfl⟩ := h
  rfl

theorem State.AgendaFrame.parser {s t : State} (h : s.AgendaFrame t) : t.parser = s.parser := by
  obtain ⟨a, rfl⟩ := h
  rfl

theorem State.AgendaFrame.media {s t : State} (h : s.AgendaFrame t) : t.media = s.media := by
  obtain ⟨a, rfl⟩ := h
  rfl

theorem Slot.accepted_fields (k : Slot) (q : Seq) (sheet : Option Nat) :
    (k.accepted q sheet).st = .posted ∧ (k.accepted q sheet).seq = some q ∧ (k.accepted q sheet).reason = none ∧
    (k.accepted q sheet).shadow = k.shadow ∧ (k.accepted q sheet).sheet = sheet := by
  refine ⟨rfl, rfl, rfl, ?_, rfl⟩
  change k.leaveFree.shadow = k.shadow
  unfold Slot.leaveFree
  split <;> rfl

/-- A slot that was FREE takes its kind from the commit, its counts cleared. -/
theorem Slot.accepted_free {k : Slot} (h : k.st = .free) (q : Seq) (sheet : Option Nat) :
    (k.accepted q sheet).kind = k.commitKind ∧ (k.accepted q sheet).outcome = none ∧ (k.accepted q sheet).lateHeaders = 0 ∧
    (k.accepted q sheet).faults = 0 := by
  have left : k.leaveFree = { k with
      kind := SlotKind.ofCode? (kindCode k.shadow), geometry := none, outcome := none, reason := none, detail := 0, lateHeaders := 0,
      faults := 0, capVolume := PerChan.of fun _ => 0, capUnplaced := 0, capOverBudget := 0 } := if_pos h
  unfold Slot.accepted Slot.commitKind
  rw [left, if_neg (by rw [h]; exact nofun)]
  exact ⟨rfl, rfl, rfl, rfl⟩

/-- A commit that is accepted: the slot stands at the tail of the posted list, and `f` holds of the states before and after the reactions. -/
def State.Posts (s : State) (i : SlotIx) (w : WriteBeat) (f : State → State → Prop) : Prop :=
  ∃ u t, exec (.commitWord i w) s = .next t ∧ t = settle settleFuel u ∧
    u.parser.posted = s.parser.posted ++ [i] ∧ (u.slot i).st = .posted ∧ (u.slot i).seq = some w.commitSeq ∧ (u.slot i).reason = none ∧
    t.parser.expected = s.parser.expected + 1 ∧ t.parser.lastAccepted = some w.commitSeq ∧ (t.slot i).shadow = (s.slot i).shadow ∧ f u t

section
variable {s : State} {i : SlotIx} {w : WriteBeat}

theorem State.Posts.of_frame {u₀ u : State} {sheet : Option Nat} {f : State → State → Prop} (frame : u₀.AgendaFrame u)
    (step : exec (.commitWord i w) s = .next (settle settleFuel u)) (slots : u₀.slots = s.slots.set i ((s.slot i).accepted w.commitSeq sheet))
    (posted : u₀.parser.posted = s.parser.posted ++ [i]) (expected : u₀.parser.expected = s.parser.expected + 1)
    (last : u₀.parser.lastAccepted = some w.commitSeq) (h : (u.slot i) = (s.slot i).accepted w.commitSeq sheet → f u (settle settleFuel u)) :
    s.Posts i w f := by
  have own : u.slot i = (s.slot i).accepted w.commitSeq sheet := by
    rw [frame.slot, slot_set (s := s) slots, if_pos rfl]
  obtain ⟨st, seq, reason, shadow, -⟩ := (s.slot i).accepted_fields w.commitSeq sheet
  have k := settle_keeps settleFuel (.refl u)
  refine ⟨u, _, step, rfl, by rw [frame.parser, posted], by rw [own, st], by rw [own, seq], by rw [own, reason], ?_, ?_, ?_, h own⟩
  · rw [k.expected, frame.parser, expected]
  · rw [k.lastAccepted, frame.parser, last]
  · rw [(k.slots i).shadow, own, shadow]

end

/-- The first clause of O14: what each commit that is accepted posts. -/
theorem State.commit_posts {s : State} {i : SlotIx} {w : WriteBeat} (up : s.link.state = .up) (o : w.hasOpen = false) (c : w.hasCommit = true)
    (new : s.parser.lastAccepted ≠ some w.commitSeq) (takes : (s.slot i).takesCommit = true) (turn : w.commitSeq = s.parser.expected)
    (stands : s.sequenceStands w.commitSeq = false) :
    ((s.slot i).commitKind ≠ none → (s.slot i).commitKind ≠ some .swath → s.Posts i w fun u t =>
      t.parser.openSheet = s.parser.openSheet ∧ u.media.table = s.media.table ∧
      ((s.slot i).st = .free → (u.slot i).kind = (s.slot i).commitKind ∧ (u.slot i).outcome = none ∧ (u.slot i).lateHeaders = 0 ∧ (u.slot i).faults = 0)) ∧
    ((s.slot i).commitKind = some .swath → HeaderGood (s.slot i).shadow → sheetStartFlag (s.slot i).shadow = true → s.parser.openSheet = none →
      s.media.table.length < 4 → (∀ v ∈ s.media.table, v.sid < s.media.nextSid) → s.Posts i w fun u t =>
        u.media.table.length = s.media.table.length + 1 ∧
        (∃ v, u.media.table.getLast? = some v ∧ v.number = leAt (s.slot i).shadow 4 2 ∧ v.st = .pending ∧ v.swaths = 1 ∧ v.firstSeq = w.commitSeq ∧
          (u.slot i).sheet = some v.sid) ∧
        (if sheetEndFlag (s.slot i).shadow = true then t.parser.openSheet = none
         else t.parser.openSheet = some { number := leAt (s.slot i).shadow 4 2, sid := s.media.nextSid })) ∧
    ∀ o v, (s.slot i).commitKind = some .swath → HeaderGood (s.slot i).shadow → sheetStartFlag (s.slot i).shadow = false → s.parser.openSheet = some o →
      leAt (s.slot i).shadow 4 2 = o.number → s.sheet? o.sid = some v → v.spoil = none → s.Posts i w fun u t =>
        (u.slot i).sheet = some o.sid ∧ u.media.table.length = s.media.table.length ∧
        t.parser.openSheet = if sheetEndFlag (s.slot i).shadow = true then none else some o := by
  have step := State.exec_commitWord_inTurn up o c new takes turn stands
  refine ⟨fun kinded swath => ?_, fun swath good start closed room fresh => ?_, fun x v swath good start opened number found clear => ?_⟩
  · obtain ⟨k, kind⟩ := Option.ne_none_iff_exists'.mp kinded
    rw [State.contentChecks_other (s := s.atCommit i w) kind fun e => swath (e ▸ kind)] at step
    have frame := State.acceptCommit_other (s := s.atCommit i w) (i := i) (q := w.commitSeq) swath
    refine .of_frame frame step rfl rfl rfl rfl fun own => ⟨?_, ?_, fun free => ?_⟩
    · rw [(settle_keeps settleFuel (.refl _)).openSheet, frame.parser]
      rfl
    · rw [frame.media]
      rfl
    · rw [own]
      exact Slot.accepted_free free _ _
  · rw [State.contentChecks_good (s := s.atCommit i w) swath good, State.sheetChecks_start (s := s.atCommit i w) start,
      show (s.atCommit i w).parser.openSheet = none from closed] at step
    have step := step.trans (congrArg (fun t => Host.Outcome.next (settle settleFuel t)) (if_neg (Nat.not_le.mpr room)))
    have frame := State.acceptCommit_start (s := s.atCommit i w) (i := i) (q := w.commitSeq) swath start fresh
    obtain ⟨sid, num, st, swaths, first, -⟩ := sheetOpened_fields (s.slot i).shadow s.media.nextSid w.commitSeq
    refine .of_frame frame step rfl rfl rfl rfl fun own => ⟨?_, ⟨sheetOpened (s.slot i).shadow s.media.nextSid w.commitSeq, ?_, num, st, swaths, first, ?_⟩, ?_⟩
    · rw [frame.media]
      exact List.length_append
    · rw [frame.media]
      exact List.getLast?_concat
    · rw [own, sid]
      rfl
    · rw [(settle_keeps settleFuel (.refl _)).openSheet, frame.parser]
      split
      next e => exact if_pos e
      next e => exact if_neg e
  · rw [State.contentChecks_good (s := s.atCommit i w) swath good, State.sheetChecks_joins (s := s.atCommit i w) start,
      show (s.atCommit i w).parser.openSheet = some x from opened] at step
    have step := step.trans (congrArg (fun t => Host.Outcome.next (settle settleFuel t)) (if_neg (Classical.not_not.mpr number)))
    have frame := State.acceptCommit_joins (s := s.atCommit i w) (i := i) (q := w.commitSeq) swath start opened found clear
    refine .of_frame frame step rfl rfl rfl rfl fun own => ⟨?_, ?_, ?_⟩
    · rw [own]
      rfl
    · rw [frame.media]
      exact List.length_map ..
    · rw [(settle_keeps settleFuel (.refl _)).openSheet, frame.parser]
      rfl

end Sys2Proof.Machine

/-! O14, a directive on an empty list: it executes at once (R30 to R34). -/
namespace Sys2Proof.Machine

/-- The reactions that stand behind the directive's execution. -/
theorem State.stir_directives {s : State} (g : s.agenda = [.directives]) : s.stir = { s with agenda := .directives :: allTests } := by
  have e : s.stir.agenda = .directives :: allTests := by
    rw [State.stir, State.agenda_wake, g]
    rfl
  obtain ⟨a, f⟩ := s.agendaFrame_stir
  rw [f] at e ⊢
  rw [show a = _ from e]

/-- A slot that does not hold a SWATH is no front. -/
theorem State.front?_other {s : State} {i : SlotIx} (posted : s.parser.posted = [i]) (h : (s.slot i).kind ≠ some .swath) : s.front? = none := by
  unfold State.front?
  rw [posted, List.find?_singleton]
  split
  · rw [Option.filter_some, if_neg fun e => h (beq_iff_eq.mp e)]
  · rfl

theorem State.postSlot_other {s : State} {i : SlotIx} (g : s.agenda = []) (empty : s.parser.posted = []) (h : (s.slot i).kind ≠ some .swath) :
    s.postSlot i = { s.atTail i with agenda := [.directives] } := by
  have slot : (s.atTail i).slot i = { s.slot i with st := .posted, reason := none, detail := 0 } :=
    (slot_set (s := s) (t := s.atTail i) rfl i).trans (if_pos rfl)
  have wake : (s.atTail i).wake [.directives] = { s.atTail i with agenda := [.directives] } := by
    change { s.atTail i with agenda := addReaction s.agenda .directives } = _
    rw [g]
    rfl
  have front : ({ s.atTail i with agenda := [.directives] } : State).front? = none := by
    refine State.front?_other (i := i) (by change s.parser.posted ++ [i] = [i]; rw [empty]; rfl) ?_
    change ((s.atTail i).slot i).kind ≠ _
    rw [slot]
    exact h
  unfold State.postSlot
  extract_lets p t u
  have eu : u = { s.atTail i with agenda := [.directives] } := wake
  have none : u.front? = none := (congrArg State.front? eu).trans front
  exact (if_neg (by rw [none]; exact nofun)).trans eu

section
variable {s : State} {i : SlotIx} {q : Seq}

/-- The state in which a directive posted on an empty list executes. -/
def State.entryPosted (s : State) (i : SlotIx) (q : Seq) : State :=
  { s with
      slots := s.slots.set i ((s.slot i).accepted q (s.slot i).leaveFree.sheet),
      parser := { s.parser with lastAccepted := some q, expected := s.parser.expected + 1, posted := s.parser.posted ++ [i] },
      agenda := allTests }

theorem State.slot_entryPosted (s : State) (i : SlotIx) (q : Seq) :
    (s.entryPosted i q).slot i = (s.slot i).accepted q (s.slot i).leaveFree.sheet := by
  rw [slot_set (s := s) (i := i) rfl i, if_pos rfl]

/-- The kind that a slot holds once it has left FREE is that of the commit. -/
theorem Slot.kind_leaveFree {k : Slot} (takes : k.takesCommit = true) : k.leaveFree.kind = k.commitKind := by
  unfold Slot.leaveFree Slot.commitKind
  by_cases free : k.st = .free
  · rw [if_pos free, if_neg (by rw [free]; exact nofun)]
  · have opened : k.st = .opened := by
      unfold Slot.takesCommit at takes
      rw [Bool.or_eq_true, Bool.and_eq_true, beq_iff_eq, beq_iff_eq] at takes
      exact takes.resolve_right fun e => free e.1
    rw [if_neg free, if_pos opened]

/-- An accepted directive stands before its execution. -/
theorem State.acceptCommit_directive (g : s.agenda = []) (empty : s.parser.posted = []) (takes : (s.slot i).takesCommit = true)
    (h : (s.slot i).commitKind ≠ some .swath) : s.acceptCommit i q = { s.entryPosted i q with agenda := .directives :: allTests } := by
  have own : (s.sequenceTaken i q).slot i = { (s.slot i).leaveFree with seq := some q } :=
    State.slot_modSlot_self s i fun k => { k.leaveFree with seq := some q }
  have slots : (s.sequenceTaken i q).slots = s.slots.set i { (s.slot i).leaveFree with seq := some q } := rfl
  have post := State.postSlot_other (s := s.sequenceTaken i q) (i := i) g empty (by
    rw [own, show ({ (s.slot i).leaveFree with seq := some q } : Slot).kind = _ from Slot.kind_leaveFree takes]
    exact h)
  have e : s.acceptCommit i q = ((s.sequenceTaken i q).postSlot i).stir := if_neg fun e => h (of_decide_eq_true e)
  rw [e, post, State.stir_directives rfl, State.atTail, own, slots, Vector.set_set]
  rfl

end

/-! ### The execution (R30) -/

section
variable {s : State} {i : SlotIx}

theorem State.nextDirective?_other (posted : s.parser.posted = [i]) (h : (s.slot i).kind ≠ some .swath) : s.nextDirective? = some i := by
  have passes : (s.slot i).letsPass = false := by
    unfold Slot.letsPass
    rw [beq_eq_false_iff_ne.mpr h, Bool.false_and]
  unfold State.nextDirective?
  rw [posted, List.find?_singleton, if_pos (by rw [passes]; rfl)]
  exact if_neg h

theorem State.nextDirective?_empty (posted : s.parser.posted = []) : s.nextDirective? = none := by
  unfold State.nextDirective?
  rw [posted]
  rfl

/-- One directive alone on the list executes, and the list is empty. -/
theorem State.runDirectives_single (posted : s.parser.posted = [i]) (h : (s.slot i).kind ≠ some .swath)
    (empty : (s.executeEntry i).parser.posted = []) (n : Nat) : s.runDirectives (n + 2) = s.executeEntry i := by
  rw [State.runDirectives, State.nextDirective?_other posted h]
  dsimp only
  rw [State.runDirectives, State.nextDirective?_empty empty]

end

/-- What a directive that executes leaves of its slot and the list, where `f` holds of the state too. -/
def State.Executed (u : State) (i : SlotIx) (o : SlotOutcome) (r : Option Reason) (d : Nat) : Prop :=
  u.parser.posted = [] ∧ (u.slot i).outcome = some o ∧ (u.slot i).reason = r ∧ (u.slot i).detail = d

theorem State.executed_retire {s : State} {i : SlotIx} (posted : s.parser.posted = [i]) (o : SlotOutcome) (r : Option Reason) (d : Nat) :
    (s.retire i o r d).Executed i o r d := by
  obtain ⟨a, p, v, u, l, e, -⟩ := s.retire_frame i o r d
  obtain ⟨outcome, reason, detail, -⟩ := s.retiredSlot_fields i o r d
  have own : (s.retire i o r d).slot i = s.retiredSlot i o r d := by
    rw [slot_set (s := s) (by rw [e]) i, if_pos rfl]
  refine ⟨?_, by rw [own, outcome], by rw [own, reason], by rw [own, detail]⟩
  rw [State.posted_retire, posted]
  simp

section
variable {s : State} {i : SlotIx} {w : WriteBeat} (ready : Ready s) (o : w.hasOpen = false) (c : w.hasCommit = true)
  (new : s.parser.lastAccepted ≠ some w.commitSeq) (takes : (s.slot i).takesCommit = true) (turn : w.commitSeq = s.parser.expected)
  (empty : s.parser.posted = [])
include ready o c new takes turn empty

/-- A directive committed on an empty list is executed by the first reaction. -/
theorem State.exec_commitWord_directive {k : SlotKind} (h : (s.slot i).commitKind = some k) (g : k ≠ .swath) {out : SlotOutcome} {r : Option Reason} {d : Nat}
    (x : (((s.atCommit i w).entryPosted i w.commitSeq).executeEntry i).Executed i out r d) :
    exec (.commitWord i w) s = .next (settle (settleFuel - 1) (((s.atCommit i w).entryPosted i w.commitSeq).executeEntry i)) := by
  have stands : s.sequenceStands w.commitSeq = false := by
    unfold State.sequenceStands
    rw [empty]
    rfl
  have swath : (s.slot i).commitKind ≠ some .swath := fun e => g (Option.some.inj (h.symm.trans e))
  have single := State.runDirectives_single (s := (s.atCommit i w).entryPosted i w.commitSeq) (i := i)
    (by change s.parser.posted ++ [i] = [i]; rw [empty]; rfl)
    (by rw [State.slot_entryPosted]; exact fun e => swath ((Slot.kind_leaveFree takes).symm.trans e)) x.1 62
  rw [State.exec_commitWord_inTurn ready.up o c new takes turn stands, State.contentChecks_other (s := s.atCommit i w) h g,
    State.acceptCommit_directive (s := s.atCommit i w) ready.agenda empty takes swath, show settleFuel = 4095 + 1 from rfl, settle]
  change Host.Outcome.next (settle 4095 (((s.atCommit i w).entryPosted i w.commitSeq).runDirectives 64)) = _
  rw [single]

end

end Sys2Proof.Machine

/-! O14, the profiles: staging and the quiet point (R182, R183). -/
namespace Sys2Proof.Machine

/-! ### What the blocks do when a section is in force -/

/-- The profiles, the parser and the time base stay, and at most `n` records are posted. -/
structure State.Told (n : Nat) (s t : State) : Prop where
  prof : t.prof = s.prof
  parser : t.parser = s.parser
  time : t.time = s.time
  recs : t.events.recs.length ≤ s.events.recs.length + n

theorem State.Told.refl (s : State) : State.Told 0 s s := ⟨rfl, rfl, rfl, Nat.le_refl _⟩

theorem State.Told.trans {n m : Nat} {s t u : State} (h : State.Told n s t) (g : State.Told m t u) : State.Told (n + m) s u :=
  ⟨g.prof.trans h.prof, g.parser.trans h.parser, g.time.trans h.time, by have := h.recs; have := g.recs; omega⟩

theorem State.Told.le {n m : Nat} {s t : State} (h : State.Told n s t) (le : n ≤ m) : State.Told m s t :=
  ⟨h.prof, h.parser, h.time, Nat.le_trans h.recs (Nat.add_le_add_left le _)⟩

theorem State.Told.ite {n : Nat} {s t : State} (p : Prop) [Decidable p] (h : State.Told n s t) : State.Told n s (if p then t else s) := by
  split
  · exact h
  · exact (State.Told.refl s).le (Nat.zero_le n)

theorem State.Told.foldl {α : Type} {f : State → α → State} (h : ∀ s a, State.Told 1 s (f s a)) (l : List α) (s : State) :
    State.Told l.length s (l.foldl f s) := by
  induction l generalizing s with
  | nil => exact .refl s
  | cons a l ih => exact ((h s a).trans (ih (f s a))).le (Nat.le_of_eq (by rw [List.length_cons, Nat.add_comm]))

theorem EventQueue.length_enter_le (q : EventQueue) (e : Event) : (q.enter e).recs.length ≤ q.recs.length + 1 := by
  unfold EventQueue.enter
  split
  · exact Nat.le_of_eq List.length_append
  · exact Nat.le_succ _

section
variable (s : State)

theorem State.told_post (k : EventKind) (a b c : Nat) : State.Told 1 s (s.post k a b c) := ⟨rfl, rfl, rfl, EventQueue.length_enter_le _ _⟩
theorem State.told_wake (rs : List Reaction) : State.Told 0 s (s.wake rs) := ⟨rfl, rfl, rfl, Nat.le_refl _⟩
theorem State.told_modSvc (f : Service → Service) : State.Told 0 s (s.modSvc f) := ⟨rfl, rfl, rfl, Nat.le_refl _⟩
theorem State.told_modInk (c : Chan) (f : InkChan → InkChan) : State.Told 0 s (s.modInk c f) := ⟨rfl, rfl, rfl, Nat.le_refl _⟩
theorem State.told_modRoll (r : Roll) (f : RollRec → RollRec) : State.Told 0 s (s.modRoll r f) := by
  cases r <;> exact ⟨rfl, rfl, rfl, Nat.le_refl _⟩

theorem State.told_agenda {t : State} (h : s.AgendaFrame t) : State.Told 0 s t := by
  obtain ⟨a, rfl⟩ := h
  exact ⟨rfl, rfl, rfl, Nat.le_refl _⟩

theorem State.told_offer (level : Level) (cs : ChanSet) (flow : Bool) : State.Told 1 s (s.offer level cs flow).2 := by
  unfold State.offer
  extract_lets mid q0 done
  have taken (res : OfferResult) (q : List ServiceReq) : State.Told 1 s (done res q).2 :=
    (((s.told_modSvc fun v => { v with queue := q }).trans (State.told_agenda _ (State.agendaFrame_stirWalk _))).trans (State.told_wake _ _)).le (by decide)
  rcases absorbNew mid level flow q0 cs with ⟨left, whole⟩
  cases whole
  case true => exact taken .absorbed q0
  case false =>
    dsimp only
    rw [if_neg Bool.false_ne_true]
    split
    next i _ => exact taken .merged _
    next =>
      split
      next => exact taken _ _
      next => exact (s.told_modSvc fun v => { v with queue := q0 }).trans (State.told_post _ _ _ _ _)

theorem State.told_offered {level : Level} {cs : ChanSet} {r : OfferResult} {u : State} (x : s.offer level cs false = (r, u)) : State.Told 1 s u := by
  have h := s.told_offer level cs false
  rwa [x] at h

theorem State.told_offerStaleSpit (cs : ChanSet) : State.Told 1 s (s.offerStaleSpit cs) := by
  unfold State.offerStaleSpit
  split
  · exact (State.Told.refl s).le (by decide)
  · split
    next x => exact (s.told_offered x).trans (State.told_modSvc _ _)
    next x => exact (s.told_offered x).trans (State.told_modSvc _ _)

theorem State.told_decapExpires (c : Chan) : State.Told 2 s (s.decapExpires c) := by
  unfold State.decapExpires
  split
  · extract_lets stale owed t u
    have ht : State.Told 0 s t := s.told_modSvc _
    have hu : State.Told 2 s u := by
      unfold u
      split
      · exact (ht.trans (State.told_offerStaleSpit _ _)).trans (State.told_offerStaleSpit _ _)
      · exact ht.le (by decide)
    split
    · exact hu.trans (State.told_wake _ _)
    · exact (hu.trans (State.told_wake _ _)).trans (State.told_wake _ _)
  · exact (State.Told.refl s).le (by decide)

theorem State.told_idleExpires : State.Told 2 s s.idleExpires := by
  unfold State.idleExpires
  split
  · extract_lets at_ t u
    have ht : State.Told 1 s t := s.told_offer ..
    have hu : State.Told 2 s u := by
      unfold u
      split
      · exact ht.le (by decide)
      · exact ht.trans (State.told_post ..)
    exact (hu.trans (State.told_modSvc _ _)).trans (State.told_wake _ _)
  · exact (State.Told.refl s).le (by decide)

theorem State.told_evalLow (c : Chan) : State.Told 1 s (s.evalLow c) := by
  unfold State.evalLow
  extract_lets k low t
  have ht : State.Told 0 s t := s.told_modInk c _
  split
  · exact ht.trans (State.told_post ..)
  · exact ht.le (by decide)

theorem State.told_inkProfilesApplied (cs : ChanSet) (old : PerChan ChanProfile) : State.Told 5 s (s.inkProfilesApplied cs old) := by
  unfold State.inkProfilesApplied
  extract_lets t moved
  have ht : State.Told 5 s t := by
    refine State.Told.foldl (fun s c => ?_) Chan.all s
    split
    · exact (s.told_modInk c _).trans (State.told_evalLow _ c)
    · exact (State.Told.refl s).le (by decide)
  split
  · exact ht
  · exact ht.trans (State.told_agenda _ (State.agendaFrame_inkChanged _ _))

theorem State.told_rollLowTest (r : Roll) : State.Told 1 s (s.rollLowTest r) := by
  unfold State.rollLowTest
  extract_lets k p
  split
  · split
    · exact (s.told_modRoll r _).trans (State.told_post ..)
    · exact (State.Told.refl s).le (by decide)
  · exact (State.Told.refl s).le (by decide)

theorem State.told_wipeTest : State.Told 1 s s.wipeTest := by
  unfold State.wipeTest
  split
  · split
    next x => exact s.told_offered x
    next x => exact (s.told_offered x).trans (State.told_modSvc _ _)
  · exact (State.Told.refl s).le (by decide)

theorem State.told_releaseModeApplied (old : ReleaseMode) : State.Told 0 s (s.releaseModeApplied old) := by
  unfold State.releaseModeApplied
  split
  · exact ⟨rfl, rfl, rfl, Nat.le_refl _⟩
  · exact .refl s

theorem State.told_wipeIntervalApplied (old : Nat) : State.Told 1 s (s.wipeIntervalApplied old) := by
  unfold State.wipeIntervalApplied
  split
  · exact (State.Told.refl s).le (by decide)
  · exact s.told_wipeTest

end

/-! ### Staging (R182) -/

section
variable (s : State)

theorem State.prof_stageChan (c : Chan) (new : ChanProfile) : (s.stageChan c new).prof =
    { s.prof with
        chan := s.prof.chan.set c ((s.chanProf c).withTransparent new),
        stagedChan := s.prof.stagedChan.set c (if new = (s.chanProf c).withTransparent new then none else some new) } :=
  ((State.told_decapExpires _ c).ite _).prof

theorem State.chanProf_stageChan (c : Chan) (new : ChanProfile) :
    (s.stageChan c new).chanProf c = (s.chanProf c).withTransparent new := by
  rw [State.chanProf, State.prof_stageChan]
  exact PerChan.get_set_self ..

theorem State.stagedChan_stageChan (c : Chan) (new : ChanProfile) : (s.stageChan c new).prof.stagedChan.get c =
    if new = (s.chanProf c).withTransparent new then none else some new := by
  rw [State.prof_stageChan]
  exact PerChan.get_set_self ..

theorem State.parser_stageChan (c : Chan) (new : ChanProfile) : (s.stageChan c new).parser = s.parser :=
  ((State.told_decapExpires _ c).ite _).parser

theorem State.told_policyChanged (old : SpitPolicy) : State.Told 1 s (s.policyChanged old) := (s.told_offerStaleSpit _).ite _

theorem State.told_idleLimitTest : State.Told 2 s s.idleLimitTest := s.told_idleExpires.ite _

theorem State.prof_stageFlow (new : FlowProfile) : (s.stageFlow new).prof =
    { s.prof with
        flow := s.prof.flow.withTransparent new,
        stagedFlow := if new = s.prof.flow.withTransparent new then none else some new } := by
  unfold State.stageFlow
  extract_lets old now p t
  rw [State.prof_stir, State.prof_wake, (State.told_idleLimitTest _).prof, (State.told_policyChanged _ _).prof]

theorem State.parser_stageFlow (new : FlowProfile) : (s.stageFlow new).parser = s.parser := by
  unfold State.stageFlow
  extract_lets old now p t
  rw [State.parser_stir, State.parser_wake, (State.told_idleLimitTest _).parser, (State.told_policyChanged _ _).parser]

end

end Sys2Proof.Machine

/-! O14, the profiles: the quiet point (R183). -/
namespace Sys2Proof.Machine

/-! ### The sections taken into force -/

/-- A channel's profile when its staged copy applies. -/
def Profiles.chanApplied (p : Profiles) (c : Chan) : ChanProfile :=
  (p.stagedChan.get c).elim (p.chan.get c) fun new => new.withTransparent (p.chan.get c)

/-- The profiles when the staged copies of some channels are in force. -/
def Profiles.withApplied (p : Profiles) (l : List Chan) : Profiles :=
  { p with
    chan := PerChan.of fun c => if c ∈ l then p.chanApplied c else p.chan.get c,
    stagedChan := PerChan.of fun c => if c ∈ l then none else p.stagedChan.get c }

theorem Profiles.withApplied_nil (p : Profiles) : p.withApplied [] = p := by
  have chan : (PerChan.of fun c => if c ∈ ([] : List Chan) then p.chanApplied c else p.chan.get c) = p.chan :=
    PerChan.ext_get fun c => by rw [PerChan.get_of, if_neg List.not_mem_nil]
  have staged : (PerChan.of fun c => if c ∈ ([] : List Chan) then none else p.stagedChan.get c) = p.stagedChan :=
    PerChan.ext_get fun c => by rw [PerChan.get_of, if_neg List.not_mem_nil]
  unfold Profiles.withApplied
  rw [chan, staged]

theorem PerChan.set_get {α : Type} (p : PerChan α) (c : Chan) : p.set c (p.get c) = p := by cases c <;> rfl

/-- The channel's section applied after those of a list. -/
theorem State.applyChanSection_withApplied (s : State) (l : List Chan) (c : Chan) (new : c ∉ l) :
    ({ s with prof := s.prof.withApplied l } : State).applyChanSection c = { s with prof := s.prof.withApplied (l ++ [c]) } := by
  have chan : (s.prof.withApplied l).chan.get c = s.prof.chan.get c := (PerChan.get_of _ c).trans (if_neg new)
  have staged : (s.prof.withApplied l).stagedChan.get c = s.prof.stagedChan.get c := (PerChan.get_of _ c).trans (if_neg new)
  have next : s.prof.withApplied (l ++ [c]) = { s.prof.withApplied l with
      chan := (s.prof.withApplied l).chan.set c (s.prof.chanApplied c), stagedChan := (s.prof.withApplied l).stagedChan.set c none } := by
    unfold Profiles.withApplied
    congr 1
    · refine PerChan.ext_get fun d => ?_
      rw [PerChan.get_set, PerChan.get_of, PerChan.get_of]
      by_cases e : d = c
      · subst e
        rw [if_pos (by simp), if_pos rfl]
      · rw [if_neg e]
        simp [e]
    · refine PerChan.ext_get fun d => ?_
      rw [PerChan.get_set, PerChan.get_of, PerChan.get_of]
      by_cases e : d = c
      · subst e
        rw [if_pos (by simp), if_pos rfl]
      · rw [if_neg e]
        simp [e]
  unfold State.applyChanSection
  dsimp only [State.chanProf]
  rw [next, staged, chan]
  cases x : s.prof.stagedChan.get c with
  | some p =>
    dsimp only
    rw [show s.prof.chanApplied c = p.withTransparent (s.prof.chan.get c) by rw [Profiles.chanApplied, x]; rfl]
  | none =>
    dsimp only
    have same : s.prof.chanApplied c = (s.prof.withApplied l).chan.get c := by
      rw [Profiles.chanApplied, x, chan]
      rfl
    have none' : (none : Option ChanProfile) = (s.prof.withApplied l).stagedChan.get c := by rw [staged, x]
    rw [same, none', PerChan.set_get, PerChan.set_get]

theorem State.foldl_applyChanSection (s : State) (l done : List Chan) (once : (done ++ l).Nodup) :
    l.foldl State.applyChanSection { s with prof := s.prof.withApplied done } = { s with prof := s.prof.withApplied (done ++ l) } := by
  induction l generalizing done with
  | nil => rw [List.append_nil]; rfl
  | cons c l ih =>
    have new : c ∉ done := fun m => (List.nodup_append.mp once).2.2 c m c List.mem_cons_self rfl
    rw [List.foldl_cons, s.applyChanSection_withApplied done c new, ih (done ++ [c]) (by rwa [List.append_assoc, List.singleton_append]),
      List.append_assoc, List.singleton_append]

/-- The profiles when every staged copy is in force. -/
def Profiles.applied (p : Profiles) : Profiles :=
  { p.withApplied Chan.all with
    mediaA := (p.stagedA.map StagedMedia.profile).getD p.mediaA, stagedA := none,
    mediaB := (p.stagedB.map StagedMedia.profile).getD p.mediaB, stagedB := none,
    flow := match p.stagedFlow with | some f => f.withTransparent p.flow | none => p.flow, stagedFlow := none }

theorem State.applySections (s : State) : (Chan.all.foldl State.applyChanSection s).applyOtherSections = { s with prof := s.prof.applied } := by
  have e := s.foldl_applyChanSection Chan.all [] (by decide)
  rw [Profiles.withApplied_nil] at e
  have e : Chan.all.foldl State.applyChanSection s = { s with prof := s.prof.withApplied Chan.all } := e
  rw [e]
  rfl

theorem Profiles.applied_chan (p : Profiles) (c : Chan) : p.applied.chan.get c = p.chanApplied c :=
  (PerChan.get_of _ c).trans (if_pos (Chan.mem_all c))

theorem Profiles.applied_stagedMask (p : Profiles) : p.applied.stagedMask = 0 := by
  have clear (c : Chan) : p.applied.stagedChan.get c = none := (PerChan.get_of _ c).trans (if_pos (Chan.mem_all c))
  unfold Profiles.stagedMask
  simp only [clear]
  rfl

theorem sum_map_le {α : Type} (l : List α) {f g : α → Nat} (h : ∀ a, f a ≤ g a) : (l.map f).sum ≤ (l.map g).sum := by
  induction l with
  | nil => exact Nat.le_refl _
  | cons a l ih =>
    rw [List.map_cons, List.map_cons, List.sum_cons, List.sum_cons]
    exact Nat.add_le_add (h a) ih

theorem Profiles.stagedMask_le (p : Profiles) : p.stagedMask ≤ 255 := by
  have flag (b : Bool) : flagVal b ≤ 1 := by cases b <;> decide
  have chans : (Chan.all.map fun c => if (p.stagedChan.get c).isSome then 2 ^ c.num else 0).sum ≤ (Chan.all.map fun c => 2 ^ c.num).sum :=
    sum_map_le _ fun c => by split <;> simp
  have := flag p.stagedA.isSome
  have := flag p.stagedB.isSome
  have := flag p.stagedFlow.isSome
  have total : (Chan.all.map fun c : Chan => 2 ^ c.num).sum = 31 := by decide
  unfold Profiles.stagedMask
  omega

/-! ### The quiet point's step -/

/-- The owning blocks told of the sections that came into force. -/
def State.sectionsTold (s : State) : State :=
  let old := s.prof
  let s := ({ s with prof := s.prof.applied } : State).inkProfilesApplied (PerChan.of fun c => (old.stagedChan.get c).isSome) old.chan
  let s := if old.stagedA.isSome then s.rollLowTest .a else s
  let s := if old.stagedB.isSome then s.rollLowTest .b else s
  if old.stagedFlow.isSome then (s.releaseModeApplied old.flow.release).wipeIntervalApplied old.flow.wipeInterval else s

theorem State.applyStaged_eq (s : State) : s.applyStaged =
    ((s.sectionsTold.post .profileApplied 0xFF s.prof.stagedMask s.prof.appliedBy).wake [.evalFront]).stirWalk := by
  unfold State.applyStaged State.sectionsTold
  rw [State.applySections]

theorem State.told_sectionsTold (s : State) : State.Told 8 { s with prof := s.prof.applied } s.sectionsTold := by
  unfold State.sectionsTold
  extract_lets old t u v
  have ht := State.told_inkProfilesApplied ({ s with prof := s.prof.applied } : State) (PerChan.of fun c => (old.stagedChan.get c).isSome) old.chan
  have hu : State.Told 1 t u := (t.told_rollLowTest .a).ite _
  have hv : State.Told 1 u v := (u.told_rollLowTest .b).ite _
  exact ((ht.trans hu).trans hv).trans (((v.told_releaseModeApplied _).trans (State.told_wipeIntervalApplied _ _)).ite _)

/-! ### The reactions that the quiet point schedules -/

theorem mem_addReaction_self (a : List Reaction) (r : Reaction) : r ∈ addReaction a r := by
  unfold addReaction
  split
  · simp
  · split
    · simp
    next h =>
      rw [Bool.or_eq_true, not_or] at h
      simpa using h.2

theorem mem_addReaction_of_mem {a : List Reaction} {x : Reaction} (h : x ∈ a) (r : Reaction) : x ∈ addReaction a r := by
  unfold addReaction
  split
  · rw [← List.takeWhile_append_dropWhile (p := fun x : Reaction => !x.evaluatesFront) (l := a)] at h
    rcases List.mem_append.mp h with m | m
    · exact List.mem_append_left _ m
    · exact List.mem_append_right _ (List.mem_cons_of_mem _ m)
  · split
    · exact List.mem_append_left _ h
    · exact h

theorem mem_foldl_addReaction {x : Reaction} (l a : List Reaction) (h : x ∈ a ∨ x ∈ l) : x ∈ l.foldl addReaction a := by
  induction l generalizing a with
  | nil => exact h.resolve_right List.not_mem_nil
  | cons r l ih =>
    refine ih _ ?_
    rcases h with m | m
    · exact .inl (mem_addReaction_of_mem m r)
    · rcases List.mem_cons.mp m with rfl | m
      · exact .inl (mem_addReaction_self a x)
      · exact .inr m

theorem State.mem_agenda_wake (s : State) {rs : List Reaction} {x : Reaction} (h : x ∈ s.agenda ∨ (x ∈ rs ∧ s.schedules x = true)) :
    x ∈ (s.wake rs).agenda :=
  mem_foldl_addReaction _ _ (h.imp_right List.mem_filter.mpr)

/-! ### The statement's last clauses -/

section
variable (s : State)

theorem State.quietTest_still (h : s.quietPoint = false ∨ s.prof.stagedMask = 0) : s.quietTest = s := by
  refine if_neg fun e => ?_
  obtain ⟨staged, quiet⟩ := Bool.and_eq_true_iff.mp e
  rcases h with h | h
  · exact Bool.false_ne_true (h.symm.trans quiet)
  · exact of_decide_eq_true staged h

theorem State.quietTest_applies (quiet : s.quietPoint = true) (staged : s.prof.stagedMask ≠ 0) : s.quietTest = s.applyStaged :=
  if_pos (Bool.and_eq_true_iff.mpr ⟨decide_eq_true staged, quiet⟩)

theorem State.prof_applyStaged : s.applyStaged.prof = s.prof.applied := by
  rw [State.applyStaged_eq, State.stirWalk, State.prof_wake, State.prof_wake, State.prof_post]
  exact s.told_sectionsTold.prof

theorem State.parser_applyStaged : s.applyStaged.parser = s.parser := by
  rw [State.applyStaged_eq, State.stirWalk, State.parser_wake, State.parser_wake, State.parser_post]
  exact s.told_sectionsTold.parser

/-- An event schedules every reaction but an evaluation of the front whatever stands. -/
theorem State.schedules_of_ne {r : Reaction} (h : r ≠ .evalFront) : s.schedules r = true := by
  cases r with
  | evalFront => exact absurd rfl h
  | _ => rfl

theorem State.mem_agenda_applyStaged {r : Reaction} (h : r ∈ [Reaction.refill, .walk, .sheetStart]) : r ∈ s.applyStaged.agenda := by
  rw [State.applyStaged_eq]
  refine State.mem_agenda_wake _ (.inr ?_)
  have sched : ∀ r ∈ [Reaction.refill, .walk, .sheetStart], r ∈ testsWith [.walk] ∧ r ≠ .evalFront := by decide
  obtain ⟨m, other⟩ := sched r h
  exact ⟨m, State.schedules_of_ne _ other⟩

theorem State.evaluates_wake (rs : List Reaction) : (s.wake rs).evaluates = s.evaluates := rfl

theorem State.evalFront_mem_wake (h : s.evaluates = true) : .evalFront ∈ (s.wake [.evalFront]).agenda :=
  s.mem_agenda_wake (.inr ⟨List.mem_singleton_self _, h⟩)

theorem State.evalFront_mem_applyStaged (h : s.applyStaged.evaluates = true) : .evalFront ∈ s.applyStaged.agenda := by
  rw [State.applyStaged_eq, State.stirWalk] at h ⊢
  rw [State.evaluates_wake, State.evaluates_wake] at h
  exact State.mem_agenda_wake _ (.inl (State.evalFront_mem_wake _ h))

theorem State.profileApplied_posted (room : s.room 9) :
    ∃ d2, { kind := .profileApplied, subject := 0xFF, d1 := s.prof.stagedMask, d2 := d2, time := s.time.ms } ∈ s.applyStaged.events.recs := by
  have told := s.told_sectionsTold
  have mask : min s.prof.stagedMask max32 = s.prof.stagedMask := Nat.min_eq_left (Nat.le_trans s.prof.stagedMask_le (by decide))
  have clock : s.sectionsTold.time = s.time := told.time
  have free : s.sectionsTold.events.recs.length + 1 ≤ 32 := by
    have : s.sectionsTold.events.recs.length ≤ s.events.recs.length + 8 := told.recs
    unfold State.room at room
    omega
  have record : Event.make s.sectionsTold.time.ms .profileApplied 0xFF s.prof.stagedMask s.prof.appliedBy =
      { kind := .profileApplied, subject := 0xFF, d1 := s.prof.stagedMask, d2 := min s.prof.appliedBy (2 ^ 48 - 1), time := s.time.ms } := by
    rw [Event.make, mask, clock]
    rfl
  rw [State.applyStaged_eq, State.stirWalk, State.events_wake, State.events_wake]
  refine ⟨min s.prof.appliedBy (2 ^ 48 - 1), ?_⟩
  rw [State.events_post, record]
  exact EventQueue.mem_enter free _

end

end Sys2Proof.Machine

/-! O14, a directive on an empty list: MARK, SERVICE and PROFILE (R31, R33, R34, R181). -/
namespace Sys2Proof.Machine

/-! ### A PROFILE leaves the list -/

/-- The posted list and the last PROFILE executed stay. -/
def State.SameEntry (s t : State) : Prop := t.parser = s.parser ∧ t.prof.lastExecuted = s.prof.lastExecuted

theorem State.SameEntry.trans {s t u : State} (h : s.SameEntry t) (g : t.SameEntry u) : s.SameEntry u :=
  ⟨g.1.trans h.1, g.2.trans h.2⟩

theorem State.sameEntry_stageMedia (s : State) (r : Roll) (new : MediaProfile) (declared : Bool) : s.SameEntry (s.stageMedia r new declared) := by
  cases r <;> exact ⟨rfl, rfl⟩

theorem State.sameEntry_takeSection (s : State) (h : List Byte) (k : Nat) : s.SameEntry (s.takeSection h k) := by
  unfold State.takeSection
  split
  · split
    next c _ => exact ⟨s.parser_stageChan c _, by rw [State.prof_stageChan]⟩
    next =>
      split
      · exact s.sameEntry_stageMedia ..
      · split
        · exact s.sameEntry_stageMedia ..
        · exact ⟨s.parser_stageFlow _, by rw [State.prof_stageFlow]⟩
  · exact ⟨rfl, rfl⟩

theorem State.sameEntry_foldl (h : List Byte) (l : List Nat) (s : State) : s.SameEntry (l.foldl (fun s k => s.takeSection h k) s) := by
  induction l generalizing s with
  | nil => exact ⟨rfl, rfl⟩
  | cons k l ih => exact (s.sameEntry_takeSection h k).trans (ih _)

theorem State.sameEntry_quietTest (s : State) : s.SameEntry s.quietTest := by
  unfold State.quietTest
  split
  · exact ⟨s.parser_applyStaged, by rw [State.prof_applyStaged]; rfl⟩
  · exact ⟨rfl, rfl⟩

theorem State.takeProfile_entry (s : State) (h : List Byte) (q : Option Seq) :
    (s.takeProfile h q).parser = s.parser ∧ (s.takeProfile h q).prof.lastExecuted = q :=
  (State.sameEntry_foldl h (List.range 8) { s with prof := { s.prof with lastExecuted := q } }).trans (State.sameEntry_quietTest _)

/-! ### The count of the swaths that are past admission -/

theorem State.countSlots_set {s t : State} {i : SlotIx} {k : Slot} {p : Slot → Bool} (h : t.slots = s.slots.set i k) (before : p (s.slot i) = false)
    (after : p k = false) : t.countSlots p = s.countSlots p := by
  have count (u : State) : u.countSlots p = u.slots.countP p := (Vector.countP_toList ..)
  rw [count, count, h, Vector.countP_set, show s.slots[i.val] = s.slot i from rfl, before, after]
  simp

theorem Slot.not_past_of_takesCommit {k : Slot} (h : k.takesCommit = true) : k.past = false := by
  unfold Slot.takesCommit at h
  unfold Slot.past
  cases e : k.st <;> rw [e] at h <;> first | rfl | exact absurd h (by simp)

/-! ### The directives -/

section
variable {s : State} {i : SlotIx}

theorem State.executeEntry_mark (h : (s.slot i).kind = some .mark) : s.executeEntry i = s.ringMark i (s.slot i).shadow := by
  unfold State.executeEntry
  rw [h]

theorem State.executeEntry_service (h : (s.slot i).kind = some .service) : s.executeEntry i = s.ringService i (s.slot i).shadow := by
  unfold State.executeEntry
  rw [h]

theorem State.executeEntry_profile (h : (s.slot i).kind = some .profile) : s.executeEntry i = s.ringProfile i (s.slot i).shadow := by
  unfold State.executeEntry
  rw [h]

theorem State.svc_retire (o : SlotOutcome) (r : Option Reason) (d : Nat) : (s.retire i o r d).svc = s.svc := by
  obtain ⟨a, p, v, u, l, e, -⟩ := s.retire_frame i o r d
  rw [e]

theorem State.prof_retire (o : SlotOutcome) (r : Option Reason) (d : Nat) : (s.retire i o r d).prof = s.prof := by
  obtain ⟨a, p, v, u, l, e, -⟩ := s.retire_frame i o r d
  rw [e]

variable {h : List Byte}

theorem State.ringService_noLevel (e : Level.ofCode? (serviceLevel h) = none) : s.ringService i h = s.retire i .refused (some .field) 1 := by
  unfold State.ringService
  rw [e]

theorem State.ringService_noChans {l : Level} (e : Level.ofCode? (serviceLevel h) = some l) (g : validChans (serviceChans h) = false) :
    s.ringService i h = s.retire i .refused (some .field) 2 := by
  unfold State.ringService
  rw [e]
  exact if_neg (Bool.not_eq_true _ ▸ g)

theorem State.ringService_taken {l : Level} (e : Level.ofCode? (serviceLevel h) = some l) (g : validChans (serviceChans h) = true) {r : OfferResult}
    {u : State} (x : s.offer l (ChanSet.ofMask (serviceChans h)) false = (r, u)) (taken : r ≠ .refused) : s.ringService i h = u.retire i .done none 0 := by
  unfold State.ringService
  rw [e]
  dsimp only
  rw [if_pos g, x]
  cases r <;> first | rfl | exact absurd rfl taken

theorem State.ringService_refused {l : Level} (e : Level.ofCode? (serviceLevel h) = some l) (g : validChans (serviceChans h) = true)
    {u : State} (x : s.offer l (ChanSet.ofMask (serviceChans h)) false = (.refused, u)) :
    s.ringService i h = u.retire i .refused (some .queueFull) 0 := by
  unfold State.ringService
  rw [e]
  dsimp only
  rw [if_pos g, x]

theorem State.ringProfile_error {code : Nat} (e : profileError h = some code) : s.ringProfile i h =
    ({ s with prof := { s.prof with lastRefused := (s.slot i).seq.map fun q => (q, code) } } : State).retire i .refused (some .field) code := by
  unfold State.ringProfile
  rw [e]

theorem State.ringProfile_good (e : profileError h = none) : s.ringProfile i h =
    (s.takeProfile h (s.slot i).seq).retire i .done none (sectionMask h) := by
  unfold State.ringProfile
  rw [e]

end

/-- A directive committed on an empty list executes with an outcome, a reason and a detail, and `f` holds of the state behind its execution. -/
def State.Runs (s : State) (i : SlotIx) (w : WriteBeat) (o : SlotOutcome) (r : Option Reason) (d : Nat) (f : State → Prop) : Prop :=
  ∃ u, exec (.commitWord i w) s = .next (settle (settleFuel - 1) u) ∧ u.parser.posted = [] ∧ (u.slot i).outcome = some o ∧
    (u.slot i).reason = r ∧ (u.slot i).detail = d ∧ f u

/-- What stands when the directive executes: its slot, alone on the list. -/
theorem State.entryPosted_fields {s : State} {i : SlotIx} (w : WriteBeat) (takes : (s.slot i).takesCommit = true) (empty : s.parser.posted = []) : let p := (s.atCommit i w).entryPosted i w.commitSeq
    (p.slot i).shadow = (s.slot i).shadow ∧ (p.slot i).kind = (s.slot i).commitKind ∧ (p.slot i).seq = some w.commitSeq ∧ p.parser.posted = [i] := by
  obtain ⟨-, seq, -, shadow, -⟩ := (s.slot i).accepted_fields w.commitSeq (s.slot i).leaveFree.sheet
  refine ⟨?_, ?_, ?_, ?_⟩
  · exact (congrArg Slot.shadow ((s.atCommit i w).slot_entryPosted i w.commitSeq)).trans shadow
  · exact (congrArg Slot.kind ((s.atCommit i w).slot_entryPosted i w.commitSeq)).trans (Slot.kind_leaveFree takes)
  · exact (congrArg Slot.seq ((s.atCommit i w).slot_entryPosted i w.commitSeq)).trans seq
  · change s.parser.posted ++ [i] = [i]
    rw [empty]
    rfl

section
variable {s : State} {i : SlotIx} {w : WriteBeat} (ready : Ready s) (o : w.hasOpen = false) (c : w.hasCommit = true)
  (new : s.parser.lastAccepted ≠ some w.commitSeq) (takes : (s.slot i).takesCommit = true) (turn : w.commitSeq = s.parser.expected)
  (empty : s.parser.posted = [])
include ready o c new takes turn empty

/-- A directive's execution is a retirement of its slot in a state `t` in which the slot alone is posted. -/
theorem State.runs_of_retire {k : SlotKind} (h : (s.slot i).commitKind = some k) (g : k ≠ .swath) {out : SlotOutcome} {r : Option Reason} {d : Nat}
    {f : State → Prop} {t : State} (x : ((s.atCommit i w).entryPosted i w.commitSeq).executeEntry i = t.retire i out r d) (posted : t.parser.posted = [i])
    (holds : f (t.retire i out r d)) : s.Runs i w out r d f := by
  have done : (t.retire i out r d).Executed i out r d := State.executed_retire posted out r d
  have e := State.exec_commitWord_directive ready o c new takes turn empty h g (x ▸ done)
  rw [x] at e
  exact ⟨_, e, done.1, done.2.1, done.2.2.1, done.2.2.2, holds⟩

theorem State.runs_mark (h : (s.slot i).commitKind = some .mark) (room : s.parser.retired.length < 64) : s.Runs i w .done none 0 fun u =>
    u.events = s.posted .markReached w.commitSeq.toNat (leAt (s.slot i).shadow 4 4) (s.countSlots Slot.past) := by
  obtain ⟨shadow, kind, seq, posted⟩ := State.entryPosted_fields w takes empty
  have count : ((s.atCommit i w).entryPosted i w.commitSeq).countSlots Slot.past = s.countSlots Slot.past :=
    State.countSlots_set rfl (Slot.not_past_of_takesCommit takes) rfl
  refine State.runs_of_retire (t := ((s.atCommit i w).entryPosted i w.commitSeq).post .markReached w.commitSeq.toNat (leAt (s.slot i).shadow 4 4)
    (s.countSlots Slot.past)) ready o c new takes turn empty h nofun
    ((State.executeEntry_mark (kind.trans h)).trans (by rw [State.ringMark, shadow, seq, count]; rfl)) posted ?_
  exact State.events_retire _ _ _ _ _ room

theorem State.runs_service_noLevel (h : (s.slot i).commitKind = some .service) (level : Level.ofCode? (byteAt (s.slot i).shadow 1) = none) :
    s.Runs i w .refused (some .field) 1 fun u => u.svc = s.svc := by
  obtain ⟨shadow, kind, seq, posted⟩ := State.entryPosted_fields w takes empty
  exact State.runs_of_retire ready o c new takes turn empty h nofun
    ((State.executeEntry_service (kind.trans h)).trans (State.ringService_noLevel (shadow ▸ level))) posted (State.svc_retire _ _ _)

theorem State.runs_service_noChans {l : Level} (h : (s.slot i).commitKind = some .service) (level : Level.ofCode? (byteAt (s.slot i).shadow 1) = some l)
    (chans : byteAt (s.slot i).shadow 2 = 0 ∨ 31 < byteAt (s.slot i).shadow 2) : s.Runs i w .refused (some .field) 2 fun u => u.svc = s.svc := by
  obtain ⟨shadow, kind, seq, posted⟩ := State.entryPosted_fields w takes empty
  have bad : validChans (byteAt (s.slot i).shadow 2) = false := by
    refine eq_false_of_ne_true fun e => ?_
    have := (validChans_iff _).mp e
    omega
  exact State.runs_of_retire ready o c new takes turn empty h nofun
    ((State.executeEntry_service (kind.trans h)).trans (State.ringService_noChans (shadow ▸ level) (shadow ▸ bad))) posted (State.svc_retire _ _ _)

theorem State.runs_service_entered {l : Level} (h : (s.slot i).commitKind = some .service) (level : Level.ofCode? (byteAt (s.slot i).shadow 1) = some l)
    (nonzero : byteAt (s.slot i).shadow 2 ≠ 0) (five : byteAt (s.slot i).shadow 2 ≤ 31) (apart : s.apart l) (room : s.svc.queue.length < 8) :
    s.Runs i w .done none 0 fun u => u.svc.queue = s.svc.queue ++
      [{ level := l, chans := ChanSet.ofMask (byteAt (s.slot i).shadow 2), flow := false, started := false, state := .queued }] := by
  obtain ⟨shadow, kind, seq, posted⟩ := State.entryPosted_fields w takes empty
  obtain ⟨result, frame⟩ := State.offer_apart (s := (s.atCommit i w).entryPosted i w.commitSeq) apart (ChanSet.ofMask (byteAt (s.slot i).shadow 2)) room
  have valid := (validChans_iff _).mpr ⟨nonzero, five⟩
  refine State.runs_of_retire ready o c new takes turn empty h nofun
    ((State.executeEntry_service (kind.trans h)).trans (by
      rw [shadow]
      exact State.ringService_taken level valid (Prod.ext result rfl) nofun)) ((congrArg Parser.posted frame.parser).trans posted) ?_
  rw [State.svc_retire]
  obtain ⟨a, e⟩ := frame
  exact (congrArg (fun t : State => t.svc.queue) e)

theorem State.runs_service_full {l : Level} (h : (s.slot i).commitKind = some .service) (level : Level.ofCode? (byteAt (s.slot i).shadow 1) = some l)
    (nonzero : byteAt (s.slot i).shadow 2 ≠ 0) (five : byteAt (s.slot i).shadow 2 ≤ 31) (apart : s.apart l) (full : s.svc.queue.length = 8)
    (room : s.parser.retired.length < 64) : s.Runs i w .refused (some .queueFull) 0 fun u => u.svc.queue = s.svc.queue ∧
      u.events = s.posted .serviceQueueFull (ChanSet.ofMask (byteAt (s.slot i).shadow 2)).subject l.code (byteAt (s.slot i).shadow 2) := by
  obtain ⟨shadow, kind, seq, posted⟩ := State.entryPosted_fields w takes empty
  have offer := State.offer_apart_full (s := (s.atCommit i w).entryPosted i w.commitSeq) apart (ChanSet.ofMask (byteAt (s.slot i).shadow 2))
    (Nat.le_of_eq full.symm)
  have valid := (validChans_iff _).mpr ⟨nonzero, five⟩
  rw [ChanSet.mask_ofMask five] at offer
  refine State.runs_of_retire (t := ((s.atCommit i w).entryPosted i w.commitSeq).post .serviceQueueFull
    (ChanSet.ofMask (byteAt (s.slot i).shadow 2)).subject l.code (byteAt (s.slot i).shadow 2)) ready o c new takes turn empty h nofun
    ((State.executeEntry_service (kind.trans h)).trans (by
      rw [shadow]
      exact State.ringService_refused level valid offer)) posted ⟨?_, ?_⟩
  · rw [State.svc_retire]
    rfl
  · exact State.events_retire _ _ _ _ _ room

theorem State.runs_profile_error {code : Nat} (h : (s.slot i).commitKind = some .profile) (bad : profileError (s.slot i).shadow = some code) :
    s.Runs i w .refused (some .field) code fun u => u.prof = { s.prof with lastRefused := some (w.commitSeq, code) } := by
  obtain ⟨shadow, kind, seq, posted⟩ := State.entryPosted_fields w takes empty
  refine State.runs_of_retire ready o c new takes turn empty h nofun
    ((State.executeEntry_profile (kind.trans h)).trans (State.ringProfile_error (shadow ▸ bad))) posted ?_
  rw [State.prof_retire, seq]
  rfl

theorem State.runs_profile_good (h : (s.slot i).commitKind = some .profile) (good : profileError (s.slot i).shadow = none) :
    s.Runs i w .done none (leAt (s.slot i).shadow 2 2) fun u => u.prof.lastExecuted = some w.commitSeq := by
  obtain ⟨shadow, kind, seq, posted⟩ := State.entryPosted_fields w takes empty
  obtain ⟨parser, executed⟩ := ((s.atCommit i w).entryPosted i w.commitSeq).takeProfile_entry (s.slot i).shadow (some w.commitSeq)
  refine State.runs_of_retire ready o c new takes turn empty h nofun
    ((State.executeEntry_profile (kind.trans h)).trans ((State.ringProfile_good (shadow ▸ good)).trans (by rw [shadow, seq]; rfl)))
    (by rw [parser, posted]) ?_
  rw [State.prof_retire, executed]

end

/-- Settles O14: what an accepted commit posts, the directives that execute at once on an empty list, the staging of the profiles and the quiet point. -/
theorem commitAccepted : Obligations.CommitAccepted := by
  unfold Obligations.CommitAccepted
  refine ⟨fun s i w up o c new takes turn stands => State.commit_posts up o c new takes turn stands,
    fun s i w ready o c new takes turn empty room => ⟨?_, ?_, ?_, ?_, ?_, ?_⟩, fun s c new => ?_, fun s new => ?_, fun s r new => ?_,
    fun s => ⟨s.quietTest_still, fun quiet staged => ?_⟩⟩
  · exact fun h => State.runs_mark ready o c new takes turn empty h room
  · exact State.runs_service_noLevel ready o c new takes turn empty
  · exact fun l => State.runs_service_noChans ready o c new takes turn empty
  · exact fun l h level nonzero five apart =>
      ⟨State.runs_service_entered ready o c new takes turn empty h level nonzero five apart,
        fun full => State.runs_service_full ready o c new takes turn empty h level nonzero five apart full room⟩
  · exact fun code => State.runs_profile_error ready o c new takes turn empty
  · exact State.runs_profile_good ready o c new takes turn empty
  · exact ⟨s.chanProf_stageChan c new, s.stagedChan_stageChan c new⟩
  · rw [State.prof_stageFlow]
    exact ⟨rfl, rfl⟩
  · cases r <;> exact ⟨rfl, rfl⟩
  · rw [s.quietTest_applies quiet staged]
    refine ⟨fun c => ?_, fun r => ?_, ?_, ?_, fun r h => s.mem_agenda_applyStaged h, s.evalFront_mem_applyStaged, s.profileApplied_posted⟩
    · rw [State.chanProf, State.prof_applyStaged, Profiles.applied_chan, Profiles.chanApplied]
      split
      next p e => rw [e]; rfl
      next e => rw [e]; rfl
    · cases r
      · rw [State.mediaProf, State.prof_applyStaged]
        change (s.prof.stagedA.map StagedMedia.profile).getD s.prof.mediaA = _
        split
        next m e => rw [show s.prof.stagedA = some m from e]; rfl
        next e => rw [show s.prof.stagedA = none from e]; rfl
      · rw [State.mediaProf, State.prof_applyStaged]
        change (s.prof.stagedB.map StagedMedia.profile).getD s.prof.mediaB = _
        split
        next m e => rw [show s.prof.stagedB = some m from e]; rfl
        next e => rw [show s.prof.stagedB = none from e]; rfl
    · rw [State.prof_applyStaged]
      rfl
    · rw [State.prof_applyStaged, Profiles.applied_stagedMask]

end Sys2Proof.Machine

/-! O22, a beat at its window's mark: what it counts (R50, R53, R54). -/
namespace Sys2Proof.Machine

/-! ### A beat of a cancelled swath (R12, R71) -/

theorem compensate_blank : ∀ (ds : List Bool) (n : Nat), compensate ds (List.replicate n 0) = (List.replicate n 0, 0)
  | [], _ => by rw [compensate.eq_def]
  | [_], _ => by rw [compensate.eq_def]
  | _ :: _ :: _, 0 => rfl
  | _ :: _ :: _, 1 => rfl
  | da :: db :: ds, n + 2 => by
    rw [List.replicate_succ, List.replicate_succ, compensate_pair, compensate_blank ds n]
    cases da <;> cases db <;> rfl

theorem clip_blank (p : ChanProfile) (need used n : Nat) : clip p need used (List.replicate n 0) = (List.replicate n 0, 0) := by
  induction n with
  | zero => rfl
  | succ n ih =>
    rw [List.replicate_succ]
    by_cases h : used + dropVolume p 0 ≤ need
    · rw [clip_cons_fits _ h, show used + dropVolume p 0 = used from rfl, ih]
    · rw [clip_cons_cut _ h, ih]
      rfl

theorem countDrops_blank (n : Nat) : countDrops (List.replicate n 0) = Drops.none := by
  rw [countDrops_eq]
  simp only [List.count_replicate]
  rfl

/-! ### The counts of a beat -/

section
variable (s : State) (win : Window) (codes : List Nat)

/-- What compensation leaves of the codes of a beat at the mark. -/
def State.beatMoved : List Nat × Nat := s.stageCompensate win.chan win.mark codes

/-- What clipping leaves of them. -/
def State.beatKept : List Nat × Nat :=
  clip (s.chanProf win.chan) ((s.slot win.slot).need.get win.chan) ((s.slot win.slot).tally.volume.get win.chan) (s.beatMoved win codes).1

/-- The tally of the swath with the beat counted. -/
def State.beatTally : Tally :=
  let k := s.slot win.slot
  let drops := countDrops (s.beatKept win codes).1
  { k.tally with
      fired := k.tally.fired.set win.chan ((k.tally.fired.get win.chan).add drops),
      volume := k.tally.volume.set win.chan (k.tally.volume.get win.chan + dropsVolume (s.chanProf win.chan) drops),
      unplaced := k.tally.unplaced + (s.beatMoved win codes).2, overBudget := k.tally.overBudget + (s.beatKept win codes).2,
      budgetPosted := k.tally.budgetPosted || decide ((s.beatKept win codes).2 ≠ 0) }

/-- The windows with the mark past the beat. -/
def State.beatWindows : List Window := s.windows.map fun v => if v.wid = win.wid then { v with mark := v.mark + 64 } else v

/-- The slot record of the swath that fires: its counts are those of the beat. -/
def State.beatSlot : Slot :=
  let k := s.slot win.slot
  { k with st := .firing, armed := if k.st = .firing then k.armed else false, tally := s.beatTally win codes }

/-- The state with the beat counted. -/
def State.counted : State :=
  { s with
      slots := s.slots.set win.slot (s.beatSlot win codes), windows := s.beatWindows win,
      counters := { s.counters with unplaced := s.counters.unplaced + (s.beatMoved win codes).2,
                                    overBudget := s.counters.overBudget + (s.beatKept win codes).2 },
      events := if (s.beatKept win codes).2 ≠ 0 ∧ (s.slot win.slot).tally.budgetPosted = false
        then s.posted .budgetExceeded win.slot.val win.chan.num ((s.slot win.slot).need.get win.chan) else s.events }

/-- The swath of a window in FIRING, its arming over. -/
def State.fires (i : SlotIx) : State :=
  { s with slots := s.slots.set i { s.slot i with st := .firing, armed := if (s.slot i).st = .firing then (s.slot i).armed else false } }

theorem State.slot_fires (i : SlotIx) : (s.fires i).slot i =
    { s.slot i with st := .firing, armed := if (s.slot i).st = .firing then (s.slot i).armed else false } :=
  (slot_set (s := s) rfl i).trans (if_pos rfl)

variable {s win codes}

theorem State.fires_firing {i : SlotIx} (h : (s.slot i).st = .firing) : s.fires i = s := by
  have own : ({ s.slot i with st := .firing, armed := if (s.slot i).st = .firing then (s.slot i).armed else false } : Slot) = s.slots[i.val] := by
    rw [if_pos h, ← h]
    rfl
  unfold State.fires
  rw [own, Vector.set_getElem_self]

theorem State.fires_armed {i : SlotIx} (h : (s.slot i).st = .admitted) : s.fires i = s.startFiring i := by
  have n : (s.slot i).st ≠ .firing := by
    rw [h]
    exact nofun
  unfold State.fires
  rw [if_neg n]
  rfl

/-- A beat of a swath that prints is taken by the FIRING swath. -/
theorem State.planeAnswer_fires (f : (s.windows.find? fun v => v.wid == win.wid) = some win) (a : Nat) (mem : List Byte)
    (prints : (s.slot win.slot).st = .firing ∨ (s.slot win.slot).st = .admitted ∧ (s.slot win.slot).armed = true) :
    s.planeAnswer a win.wid mem = (s.fires win.slot).firingBeat win (a - win.base) mem := by
  rcases prints with fires | ⟨st, armed⟩
  · rw [State.planeAnswer_firing f fires, State.fires_firing fires]
  · have n : (s.slot win.slot).st ≠ .firing := by
      rw [st]
      exact nofun
    unfold State.planeAnswer
    rw [f, State.fires_armed st]
    dsimp only
    rw [if_neg n, if_pos (by rw [armed, Bool.and_true]; exact decide_eq_true st)]

/-- The part-wide counts of a beat. -/
theorem State.beat_counts {t : State} {m c : Nat} (unplaced : t.counters.unplaced + m ≤ max32) (budget : t.counters.overBudget + c ≤ max32) :
    (if c = 0 then (if m = 0 then t else t.count .unplaced m) else (if m = 0 then t else t.count .unplaced m).count .overBudget c) =
      { t with counters := { t.counters with unplaced := t.counters.unplaced + m, overBudget := t.counters.overBudget + c } } := by
  have first : (if m = 0 then t else t.count .unplaced m) = { t with counters := { t.counters with unplaced := t.counters.unplaced + m } } := by
    split
    next z => rw [z]; rfl
    next => exact State.count_of_le (i := .unplaced) unplaced
  rw [first]
  split
  next z => rw [z]; rfl
  next => exact State.count_of_le (i := .overBudget) budget

/-- The event, the tally and the mark of a beat. -/
theorem State.beat_marked {t : State} (ht : t = { s.fires win.slot with counters := (s.counted win codes).counters }) :
    ((t.postBudget win.slot win.chan (s.beatKept win codes).2).modSlot win.slot fun k =>
      k.addFired (s.chanProf win.chan) win.chan (s.beatKept win codes).1 (s.beatMoved win codes).2 (s.beatKept win codes).2).advanceMark win.wid =
    s.counted win codes := by
  subst ht
  have own : ({ s.fires win.slot with counters := (s.counted win codes).counters } : State).slot win.slot = _ := s.slot_fires win.slot
  have posted : ({ s.fires win.slot with counters := (s.counted win codes).counters } : State).postBudget win.slot win.chan (s.beatKept win codes).2 =
      { s.fires win.slot with counters := (s.counted win codes).counters, events := (s.counted win codes).events } := by
    unfold State.postBudget
    rw [own]
    by_cases h : (s.beatKept win codes).2 ≠ 0 ∧ (s.slot win.slot).tally.budgetPosted = false
    · rw [if_pos (by simpa using h), State.counted, if_pos h]
      rfl
    · rw [if_neg (by simpa using h), State.counted, if_neg h]
      rfl
  have slots : (s.fires win.slot).slots.set win.slot (((s.fires win.slot).slots.get win.slot).addFired (s.chanProf win.chan) win.chan
      (s.beatKept win codes).1 (s.beatMoved win codes).2 (s.beatKept win codes).2) = s.slots.set win.slot (s.beatSlot win codes) := by
    rw [show (s.fires win.slot).slots.get win.slot = _ from s.slot_fires win.slot]
    exact Vector.set_set ..
  rw [posted, State.modSlot, slots]
  rfl

/-- The counts of a beat at the mark of a FIRING swath, without its fetch completion. -/
theorem State.countedBeat_eq (unplaced : s.counters.unplaced + (s.beatMoved win codes).2 ≤ max32)
    (budget : s.counters.overBudget + (s.beatKept win codes).2 ≤ max32) :
    (s.fires win.slot).countedBeat win win.mark codes = ((s.beatKept win codes).1,
      if (s.counted win codes).allFetched win.slot then (s.counted win codes).fetchCompletes win.slot else s.counted win codes) := by
  have own := s.slot_fires win.slot
  have chan : (s.fires win.slot).chanProf win.chan = s.chanProf win.chan := rfl
  have hm : (s.fires win.slot).stageCompensate win.chan win.mark codes = s.beatMoved win codes := rfl
  have hk : clip ((s.fires win.slot).chanProf win.chan) (((s.fires win.slot).slot win.slot).need.get win.chan)
      (((s.fires win.slot).slot win.slot).tally.volume.get win.chan) (s.beatMoved win codes).1 = s.beatKept win codes := by
    rw [own]
    rfl
  unfold State.countedBeat
  dsimp only
  rw [hm, hk, chan]
  rw [State.beat_counts (t := s.fires win.slot) unplaced budget, State.beat_marked]
  rfl

end

end Sys2Proof.Machine

/-! O22, fetch completion (R55, R72, R73). -/
namespace Sys2Proof.Machine

/-! ### What a sheet's course leaves of the slots -/

/-- The slots, the parser, the windows, the ink, the answers, the link and the profiles stay. -/
structure State.Aside (s t : State) : Prop where
  slots : t.slots = s.slots
  parser : t.parser = s.parser
  windows : t.windows = s.windows
  ink : t.ink = s.ink
  out : t.out = s.out
  link : t.link = s.link

theorem State.Aside.refl (s : State) : s.Aside s := ⟨rfl, rfl, rfl, rfl, rfl, rfl⟩

theorem State.Aside.trans {s t u : State} (h : s.Aside t) (g : t.Aside u) : s.Aside u :=
  ⟨g.slots.trans h.slots, g.parser.trans h.parser, g.windows.trans h.windows, g.ink.trans h.ink, g.out.trans h.out, g.link.trans h.link⟩

theorem State.AgendaFrame.aside {s t : State} (h : s.AgendaFrame t) : s.Aside t := by
  obtain ⟨a, rfl⟩ := h
  exact ⟨rfl, rfl, rfl, rfl, rfl, rfl⟩

theorem State.Aside.ite {s t u : State} (p : Prop) [Decidable p] (h : s.Aside t) (g : s.Aside u) : s.Aside (if p then t else u) := by
  split
  · exact h
  · exact g

section
variable (s : State)

theorem State.aside_modMedia (f : Media → Media) : s.Aside (s.modMedia f) := ⟨rfl, rfl, rfl, rfl, rfl, rfl⟩

theorem State.aside_starveZero : s.Aside s.starveZero := ⟨rfl, rfl, rfl, rfl, rfl, rfl⟩

theorem State.aside_beginOp (o : MediaOp) : s.Aside (s.beginOp o) := (s.aside_modMedia _).trans (State.agendaFrame_stir _).aside

theorem State.aside_startFeed (kind : OpKind) (t : Sheet) (i : Option SlotIx) (dist : Nat) : s.Aside (s.startFeed kind t i dist) :=
  .ite _ (s.aside_beginOp _) (s.aside_modMedia _)

theorem State.aside_moveSheet (sid : Nat) (f : Sheet → Sheet) : s.Aside (s.moveSheet sid f) := by
  have sheet : s.Aside (s.modSheet sid f) := s.aside_modMedia _
  exact (sheet.trans (.ite _ (State.agendaFrame_wake _ _).aside (.refl _))).trans (State.agendaFrame_stirWalk _).aside

theorem State.aside_toCutting (t : Sheet) : s.Aside (s.toCutting t) :=
  (s.aside_moveSheet _ _).trans (.ite _ (State.aside_beginOp _ _) (State.aside_modMedia _ _))

theorem State.aside_toTrailing (t : Sheet) : s.Aside (s.toTrailing t) := by
  unfold State.toTrailing
  extract_lets dist u
  have dropped : s.Aside (s.dropDue t.sid) := .ite _ (s.aside_modMedia _) (.refl s)
  have left : s.Aside ((s.dropDue t.sid).leavePrinting t) := dropped.trans (.ite _ (State.aside_starveZero _) (.refl _))
  have moved : s.Aside u := left.trans (State.aside_moveSheet _ _ _)
  exact moved.trans (.ite _ (u.aside_toCutting t) (u.aside_startFeed ..))

end

/-! ### A retirement with no read in hand -/

theorem State.retire_idle {s : State} {i : SlotIx} (held : s.link.held = none) (o : SlotOutcome) (r : Option Reason) (d : Nat) :
    (s.retire i o r d).out = s.out ∧ (s.retire i o r d).link = s.link := by
  obtain ⟨a, p, v, e, -⟩ := s.entersRetired_frame i o r d
  obtain ⟨c, h⟩ := s.agendaFrame_retire i o r d
  have answered : s.retiredAnswered i o r d = s.entersRetired i o r d := by
    refine if_neg ?_
    rw [e]
    change s.link.held ≠ some i
    rw [held]
    exact nofun
  have released : (s.retiredReleased i o r d).out = s.out ∧ (s.retiredReleased i o r d).link = s.link := by
    unfold State.retiredReleased
    rw [answered, e]
    dsimp only
    split
    · exact ⟨rfl, rfl⟩
    · exact ⟨rfl, rfl⟩
  rw [h]
  exact released

/-- The fields of a swath that a retirement captures or clears. -/
theorem State.retiredSlot_captured (s : State) (i : SlotIx) (o : SlotOutcome) (r : Option Reason) (d : Nat) :
    (s.retiredSlot i o r d).capUnplaced = (s.slot i).capUnplaced ∧ (s.retiredSlot i o r d).capOverBudget = (s.slot i).capOverBudget ∧
    (s.retiredSlot i o r d).need = PerChan.of fun _ => 0 := by
  unfold State.retiredSlot
  dsimp only
  split <;> exact ⟨rfl, rfl, rfl⟩

/-- A slot has left the lists of a state with an outcome and a reason, and no read was answered. -/
structure State.Retires (s : State) (i : SlotIx) (o : SlotOutcome) (r : Option Reason) (u : State) : Prop where
  slot : ∃ d, u.slot i = s.retiredSlot i o r d
  posted : u.parser.posted = s.parser.posted.filter fun j => j ≠ i
  retired : u.parser.retired = s.parser.retired ++ [s.retireEntry i o r]
  windows : u.windows = s.windows.filter fun w => w.slot ≠ i
  ink : u.ink = s.ink
  out : u.out = s.out
  link : u.link = s.link

theorem State.retires_retire {s : State} {i : SlotIx} (room : s.parser.retired.length < 64) (held : s.link.held = none)
    (st : (s.slot i).st ≠ .admitted) (o : SlotOutcome) (r : Option Reason) (d : Nat) : s.Retires i o r (s.retire i o r d) := by
  obtain ⟨out, link⟩ := State.retire_idle (i := i) held o r d
  obtain ⟨a, u, l, e⟩ := s.retire_of_room i o r d room
  have ink : (s.releaseSlotNeed i).ink = s.ink := congrArg State.ink (if_neg st)
  refine ⟨⟨d, ?_⟩, ?_, ?_, ?_, ?_, out, link⟩
  · rw [slot_set (s := s) (by rw [e]) i, if_pos rfl]
  · rw [e]
  · rw [e]
  · rw [e]
  · rw [e, ← ink]

theorem State.Retires.aside {s u v : State} {i : SlotIx} {o : SlotOutcome} {r : Option Reason} (h : s.Retires i o r u) (g : u.Aside v) :
    s.Retires i o r v := by
  obtain ⟨⟨d, slot⟩, posted, retired, windows, ink, out, link⟩ := h
  refine ⟨⟨d, ?_⟩, by rw [g.parser, posted], by rw [g.parser, retired], by rw [g.windows, windows], by rw [g.ink, ink], by rw [g.out, out], by rw [g.link, link]⟩
  rw [← slot, State.slot, State.slot, g.slots]

/-! ### The debit (R72) -/

theorem State.swathDebit_frame (s : State) (need fired : PerChan Nat) : ∃ k v e a, s.swathDebit need fired = { s with ink := k, svc := v, events := e, agenda := a } ∧
    ∀ c, (k.get c).reserved = (s.ink.get c).reserved - need.get c ∧ (k.get c).level = (s.ink.get c).level - min (fired.get c) (need.get c) := by
  obtain ⟨e, a, debit⟩ := s.debit_frame false (volumeChans need) fired need
  obtain ⟨⟨q, w, e', a', added⟩, -, -⟩ := ((s.debit false (volumeChans need) fired need).decapsFired fired).wipeFrame_wipeAdd (Chan.all.map fired.get).sum
  refine ⟨PerChan.of fun c => if (volumeChans need).get c = true then s.debitedChan false c (fired.get c) (need.get c) else s.ink.get c,
    (s.swathDebit need fired).svc, e', a', ?_, fun c => ?_⟩
  · rw [State.swathDebit, added, debit]
    rfl
  · rw [PerChan.get_of]
    split
    next => exact ⟨rfl, rfl⟩
    next h =>
      have zero : need.get c = 0 := by
        rw [volumeChans, PerChan.get_of, decide_eq_true_eq, Classical.not_not] at h
        exact h
      rw [zero, Nat.min_zero, Nat.sub_zero, Nat.sub_zero]
      exact ⟨rfl, rfl⟩

/-! ### Fetch completion -/

section
variable (s : State) (i : SlotIx)

/-- The slot record at a fetch completion, before the path of R73. -/
def State.fetchedSlot : Slot := { (s.slot i).capture with need := PerChan.of fun _ => 0 }

/-- The state before the path of R73: the record captured, the need cleared, the ink debited. -/
theorem State.fetchCompletes_eq : ∃ k v e a, s.fetchCompletes i =
      State.afterFetch { s with slots := s.slots.set i (s.fetchedSlot i), ink := k, svc := v, events := e, agenda := a } i ∧
    ∀ c, (k.get c).reserved = (s.ink.get c).reserved - (s.slot i).need.get c ∧
      (k.get c).level = (s.ink.get c).level - min ((s.slot i).tally.volume.get c) ((s.slot i).need.get c) := by
  obtain ⟨k, v, e, a, debit, ink⟩ := (s.modSlot i Slot.capture).swathDebit_frame (s.slot i).need (s.slot i).tally.volume
  refine ⟨k, v, e, a, ?_, ink⟩
  have slots : (s.slots.set i (s.slot i).capture).set i { (s.slots.set i (s.slot i).capture).get i with need := PerChan.of fun _ => 0 } =
      s.slots.set i (s.fetchedSlot i) := by
    rw [slots_get_eq, Vector.getElem_set_self, Vector.set_set]
    rfl
  rw [State.fetchCompletes, debit, ← slots]
  rfl

variable {s i}

theorem State.afterFetch_cancelled {r : Reason} (h : (s.slot i).cancel = some r) : s.afterFetch i = s.retire i .cancelled (some r) 0 := by
  unfold State.afterFetch
  dsimp only
  rw [h]

theorem State.afterFetch_ends (h : (s.slot i).cancel = none) (g : sheetEndFlag (s.slot i).shadow = true) :
    (s.retire i .printed none 0).Aside (s.afterFetch i) := by
  unfold State.afterFetch
  dsimp only
  rw [h]
  dsimp only
  rw [if_pos g]
  split
  · exact .ite _ (State.aside_toTrailing _ _) (.refl _)
  · exact .refl _

theorem State.afterFetch_still (h : (s.slot i).cancel = none) (e : sheetEndFlag (s.slot i).shadow = false) (g : advanceField (s.slot i).shadow = 0) :
    s.afterFetch i = s.starveZero.retire i .printed none 0 := by
  unfold State.afterFetch
  dsimp only
  rw [h]
  dsimp only
  rw [if_neg (by rw [e]; exact Bool.false_ne_true), if_pos g]

/-- The swath advances. -/
def State.advancing (s : State) (i : SlotIx) : State :=
  ((s.modSlot i fun k => { k with st := .advancing }).wake [.quiet, .evalFront, .uncap]).stirBoundary

theorem State.afterFetch_advances (h : (s.slot i).cancel = none) (e : sheetEndFlag (s.slot i).shadow = false)
    (g : advanceField (s.slot i).shadow ≠ 0) :
    (s.advancing i).Aside (s.afterFetch i) ∧ ∀ v, s.sheetOfSlot i = some v →
      s.afterFetch i = (s.advancing i).startFeed .advance v (some i) (advanceField (s.slot i).shadow) := by
  unfold State.afterFetch
  dsimp only
  rw [h]
  dsimp only
  rw [if_neg (by rw [e]; exact Bool.false_ne_true), if_neg g]
  refine ⟨?_, fun v hv => by rw [hv]; rfl⟩
  split
  · exact State.aside_startFeed ..
  · exact .refl _

end

end Sys2Proof.Machine

/-! O22, whole: a beat at the mark of a swath that prints (R50 to R55, R72, R73). -/
namespace Sys2Proof.Machine

/-! ### What each path of R73 leaves -/

/-- What a fetch completion leaves of a swath on each path of R73: its captured counts, no need, the ink, the answers and the link. -/
structure State.Fetched (s : State) (i : SlotIx) (u : State) : Prop where
  volume : (u.slot i).capVolume = (s.slot i).capVolume
  unplaced : (u.slot i).capUnplaced = (s.slot i).capUnplaced
  overBudget : (u.slot i).capOverBudget = (s.slot i).capOverBudget
  need : (u.slot i).need = PerChan.of fun _ => 0
  ink : u.ink = s.ink
  out : u.out = s.out
  link : u.link = s.link

theorem State.Retires.fetched {s u : State} {i : SlotIx} {o : SlotOutcome} {r : Option Reason} (h : s.Retires i o r u) : s.Fetched i u := by
  obtain ⟨d, slot⟩ := h.slot
  obtain ⟨unplaced, overBudget, need⟩ := s.retiredSlot_captured i o r d
  obtain ⟨-, -, -, -, volume, -⟩ := s.retiredSlot_fields i o r d
  exact ⟨slot ▸ volume, slot ▸ unplaced, slot ▸ overBudget, slot ▸ need, h.ink, h.out, h.link⟩

theorem State.Retires.of_starveZero {s u : State} {i : SlotIx} {o : SlotOutcome} {r : Option Reason} (h : s.starveZero.Retires i o r u) :
    s.Retires i o r u :=
  ⟨h.slot, h.posted, h.retired, h.windows, h.ink, h.out, h.link⟩

theorem State.slot_advancing (s : State) (i : SlotIx) : (s.advancing i).slot i = { s.slot i with st := .advancing } :=
  ((State.agendaFrame_stirBoundary _).slot i).trans (((State.agendaFrame_wake _ _).slot i).trans (State.slot_modSlot_self s i _))

theorem State.advancing_frame (s : State) (i : SlotIx) : (s.modSlot i fun k => { k with st := .advancing }).AgendaFrame (s.advancing i) :=
  (State.agendaFrame_wake _ _).trans (State.agendaFrame_stirBoundary _)

theorem State.slot_aside {s t : State} (h : s.Aside t) (i : SlotIx) : t.slot i = s.slot i := by
  rw [State.slot, State.slot, h.slots]

section
variable {s : State} {i : SlotIx} (room : s.parser.retired.length < 64) (held : s.link.held = none) (st : (s.slot i).st = .firing)
include room held st

theorem State.retires_firing (o : SlotOutcome) (r : Option Reason) (d : Nat) : s.Retires i o r (s.retire i o r d) :=
  State.retires_retire room held (by rw [st]; exact nofun) o r d

theorem State.afterFetch_retires_cancelled {r : Reason} (h : (s.slot i).cancel = some r) : s.Retires i .cancelled (some r) (s.afterFetch i) := by
  rw [State.afterFetch_cancelled h]
  exact State.retires_firing room held st ..

theorem State.afterFetch_retires_printed (h : (s.slot i).cancel = none)
    (g : sheetEndFlag (s.slot i).shadow = true ∨ advanceField (s.slot i).shadow = 0) : s.Retires i .printed none (s.afterFetch i) := by
  by_cases e : sheetEndFlag (s.slot i).shadow = true
  · exact (State.retires_firing room held st ..).aside (State.afterFetch_ends h e)
  · rw [State.afterFetch_still h (eq_false_of_ne_true e) (g.resolve_left e)]
    exact (State.retires_firing (s := s.starveZero) room held st ..).of_starveZero

theorem State.afterFetch_fetched (need : (s.slot i).need = PerChan.of fun _ => 0) : s.Fetched i (s.afterFetch i) := by
  cases h : (s.slot i).cancel with
  | some r => exact (State.afterFetch_retires_cancelled room held st h).fetched
  | none =>
    by_cases g : sheetEndFlag (s.slot i).shadow = true ∨ advanceField (s.slot i).shadow = 0
    · exact (State.afterFetch_retires_printed room held st h g).fetched
    · obtain ⟨e, a⟩ := not_or.mp g
      obtain ⟨aside, -⟩ := State.afterFetch_advances h (eq_false_of_ne_true e) a
      have frame := (s.advancing_frame i).aside
      have own : (s.afterFetch i).slot i = { s.slot i with st := .advancing } := (State.slot_aside aside i).trans (s.slot_advancing i)
      exact ⟨by rw [own], by rw [own], by rw [own], by rw [own, need], aside.ink.trans frame.ink, aside.out.trans frame.out, aside.link.trans frame.link⟩

end

/-- The advance that a fetch completion starts. -/
theorem State.afterFetch_op {s : State} {i : SlotIx} (h : (s.slot i).cancel = none) (e : sheetEndFlag (s.slot i).shadow = false)
    (g : advanceField (s.slot i).shadow ≠ 0) : ((s.afterFetch i).slot i).st = .advancing ∧ ∀ v, s.sheetOfSlot i = some v → s.opMayStart = true →
      ∃ o, (s.afterFetch i).media.op = some o ∧ o.kind = .advance ∧ o.sheet = some v.sid ∧ o.slot = some i ∧
        o.dist = advanceField (s.slot i).shadow ∧ o.progress = 0 ∧
        o.target = feedTarget (advanceField (s.slot i).shadow) (s.mediaProf (v.roll.getD .a)).correction := by
  obtain ⟨aside, feeds⟩ := State.afterFetch_advances h e g
  refine ⟨by rw [State.slot_aside aside, State.slot_advancing], fun v hv may => ?_⟩
  obtain ⟨a, frame⟩ := s.advancing_frame i
  have starts : (s.advancing i).opMayStart = true := by
    rw [frame]
    exact may
  have prof : (s.advancing i).mediaProf (v.roll.getD .a) = s.mediaProf (v.roll.getD .a) := by
    rw [frame]
    cases v.roll.getD .a <;> rfl
  rw [feeds v hv, State.startFeed, if_pos starts, State.beginFeed, State.beginOp, State.media_stir, prof]
  exact ⟨_, rfl, rfl, rfl, rfl, rfl, rfl, rfl⟩

/-! ### The answer of a beat at the mark -/

section
variable {s : State} {win : Window}

/-- The codes of a beat as the read-data stages take them (R12). -/
def State.beatCodes (s : State) (win : Window) (mem : List Byte) : List Nat :=
  if (s.slot win.slot).cancel.isSome then List.replicate 256 0 else codesOf mem

theorem State.firingBeat_mark (mem : List Byte) (unplaced : s.counters.unplaced + (s.beatMoved win (s.beatCodes win mem)).2 ≤ max32)
    (budget : s.counters.overBudget + (s.beatKept win (s.beatCodes win mem)).2 ≤ max32) :
    (s.fires win.slot).firingBeat win win.mark mem = (bytesOf (s.beatKept win (s.beatCodes win mem)).1,
      if (s.counted win (s.beatCodes win mem)).allFetched win.slot then (s.counted win (s.beatCodes win mem)).fetchCompletes win.slot
      else s.counted win (s.beatCodes win mem)) := by
  have codes : (if ((s.fires win.slot).slot win.slot).cancel.isSome then blankCodes else codesOf mem) = s.beatCodes win mem := by
    rw [s.slot_fires win.slot]
    rfl
  unfold State.firingBeat
  dsimp only
  rw [codes, if_neg (Nat.lt_irrefl _), if_pos rfl, State.countedBeat_eq unplaced budget]

theorem State.allFetched_counted (codes : List Nat) : (s.counted win codes).allFetched win.slot = true ↔
    ∀ v ∈ s.beatWindows win, v.slot = win.slot → v.mark = v.len := by
  unfold State.allFetched
  rw [List.all_eq_true]
  refine forall₂_congr fun v _ => ?_
  rw [Bool.or_eq_true, bne_iff_ne, beq_iff_eq]
  exact ⟨fun h e => h.resolve_left fun n => n e, fun h => (Classical.em (v.slot = win.slot)).elim (fun e => .inr (h e)) .inl⟩

theorem State.slot_counted (codes : List Nat) : (s.counted win codes).slot win.slot = s.beatSlot win codes :=
  (slot_set (s := s) rfl win.slot).trans (if_pos rfl)

/-- A beat of a cancelled swath returns no drop and counts none. -/
theorem State.beat_cancelled {mem : List Byte} (h : (s.slot win.slot).cancel.isSome) :
    bytesOf (s.beatKept win (s.beatCodes win mem)).1 = zeroBeat ∧ (s.beatKept win (s.beatCodes win mem)).2 = 0 ∧
    (s.beatMoved win (s.beatCodes win mem)).2 = 0 ∧ countDrops (s.beatKept win (s.beatCodes win mem)).1 = Drops.none := by
  have codes : s.beatCodes win mem = List.replicate 256 0 := if_pos h
  have moved : s.beatMoved win (s.beatCodes win mem) = (List.replicate 256 0, 0) := by
    rw [State.beatMoved, codes]
    unfold State.stageCompensate
    split
    · exact compensate_blank _ _
    · rfl
  have kept : s.beatKept win (s.beatCodes win mem) = (List.replicate 256 0, 0) := by
    rw [State.beatKept, moved]
    exact clip_blank _ _ _ _
  rw [moved, kept]
  exact ⟨by decide, rfl, rfl, countDrops_blank 256⟩

end

end Sys2Proof.Machine

/-! O22, the read of a beat at the mark. -/
namespace Sys2Proof.Machine

section
variable {s : State} {a : Addr} {mem : List Byte} {win : Window}

theorem State.planeAnswer_mark {b : Nat} (f : (s.windows.find? fun v => v.wid == win.wid) = some win) (mark : b - win.base = win.mark)
    (prints : (s.slot win.slot).st = .firing ∨ (s.slot win.slot).st = .admitted ∧ (s.slot win.slot).armed = true)
    (unplaced : s.counters.unplaced + (s.beatMoved win (s.beatCodes win mem)).2 ≤ max32)
    (budget : s.counters.overBudget + (s.beatKept win (s.beatCodes win mem)).2 ≤ max32) :
    s.planeAnswer b win.wid mem = (bytesOf (s.beatKept win (s.beatCodes win mem)).1,
      if (s.counted win (s.beatCodes win mem)).allFetched win.slot then (s.counted win (s.beatCodes win mem)).fetchCompletes win.slot
      else s.counted win (s.beatCodes win mem)) := by
  rw [State.planeAnswer_fires f b mem prints, mark, State.firingBeat_mark mem unplaced budget]

/-- An answer where no read has beats kept back. -/
theorem State.answer_alone {cls : ReqClass} {b : Nat} {d : List Byte} (gathered : s.link.gathered = []) (waiting : s.link.waiting = [])
    (answers : s.out.answers = []) (fetch : cls = .fetch) : (s.answer cls b d).out.answers = [{ cls := cls, addr := b, data := d }] := by
  subst fetch
  rw [State.answer_last (by rw [State.moreBeats, waiting])]
  simp [answers, gathered]

variable (ready : Ready s) (reads : NoReads s) (c : s.classify a.toNat = .plane win) (f : (s.windows.find? fun v => v.wid == win.wid) = some win)
  (mark : a.toNat - win.base = win.mark) (prints : (s.slot win.slot).st = .firing ∨ (s.slot win.slot).st = .admitted ∧ (s.slot win.slot).armed = true)
  (unplaced : s.counters.unplaced + (s.beatMoved win (s.beatCodes win mem)).2 ≤ max32)
  (budget : s.counters.overBudget + (s.beatKept win (s.beatCodes win mem)).2 ≤ max32)
include ready reads c f mark prints unplaced budget

/-- A beat that is not the last of its swath. -/
theorem State.exec_beat_more (more : ¬ (s.counted win (s.beatCodes win mem)).allFetched win.slot = true) :
    exec (.planeFetchRead .fetch a [mem]) s = .next { s.afterRead .fetch a.toNat (bytesOf (s.beatKept win (s.beatCodes win mem)).1) with
      slots := (s.counted win (s.beatCodes win mem)).slots, windows := (s.counted win (s.beatCodes win mem)).windows,
      counters := (s.counted win (s.beatCodes win mem)).counters, events := (s.counted win (s.beatCodes win mem)).events } := by
  have answer : (s.atRead .fetch a.toNat).planeAnswer a.toNat win.wid mem = (bytesOf (s.beatKept win (s.beatCodes win mem)).1,
      (s.atRead .fetch a.toNat).counted win (s.beatCodes win mem)) :=
    (State.planeAnswer_mark (s := s.atRead .fetch a.toNat) f mark prints unplaced budget).trans (congrArg (Prod.mk _) (if_neg more))
  refine State.exec_planeFetchRead_plane ready reads c answer ?_ ready.agenda
  rw [← State.answer_atRead (fun _ => reads)]
  rfl

/-- The last beat of a swath. -/
theorem State.exec_beat_last (last : (s.counted win (s.beatCodes win mem)).allFetched win.slot = true) :
    exec (.planeFetchRead .fetch a [mem]) s = .next (settle settleFuel
      ((((s.atRead .fetch a.toNat).counted win (s.beatCodes win mem)).fetchCompletes win.slot).answer .fetch a.toNat
        (bytesOf (s.beatKept win (s.beatCodes win mem)).1))) := by
  have answer : (s.atRead .fetch a.toNat).planeAnswer a.toNat win.wid mem = (bytesOf (s.beatKept win (s.beatCodes win mem)).1,
      ((s.atRead .fetch a.toNat).counted win (s.beatCodes win mem)).fetchCompletes win.slot) :=
    (State.planeAnswer_mark (s := s.atRead .fetch a.toNat) f mark prints unplaced budget).trans (congrArg (Prod.mk _) (if_pos last))
  exact State.exec_planeFetchRead_planeSettle ready reads c answer rfl

end

/-! ### A fetch completion of a counted beat -/

/-- A slot has retired: its outcome and reason stand, its place on the list and its windows are gone, and its entry is on the retirement list. -/
def State.Ends (u : State) (i : SlotIx) (q : Option Seq) (o : SlotOutcome) (r : Option Reason) : Prop :=
  (u.slot i).outcome = some o ∧ (u.slot i).reason = r ∧ i ∉ u.parser.posted ∧ (∀ v ∈ u.windows, v.slot ≠ i) ∧
  { seq := q, slot := i, outcome := o, reason := r } ∈ u.parser.retired

theorem State.Retires.ends {s u : State} {i : SlotIx} {o : SlotOutcome} {r : Option Reason} (h : s.Retires i o r u) : u.Ends i (s.slot i).seq o r := by
  obtain ⟨d, slot⟩ := h.slot
  obtain ⟨outcome, reason, -⟩ := s.retiredSlot_fields i o r d
  refine ⟨slot ▸ outcome, slot ▸ reason, ?_, fun v m => ?_, ?_⟩
  · rw [h.posted]
    simp
  · rw [h.windows] at m
    exact of_decide_eq_true (List.mem_filter.mp m).2
  · rw [h.retired]
    exact List.mem_append_right _ List.mem_cons_self

/-- What a last beat leaves of its swath in `u` (R55, R72, R73). -/
def State.BeatLeaves (s : State) (win : Window) (codes : List Nat) (u : State) : Prop :=
  let k := s.slot win.slot
  (u.slot win.slot).capVolume = (s.beatTally win codes).volume ∧ (u.slot win.slot).capUnplaced = (s.beatTally win codes).unplaced ∧
  (u.slot win.slot).capOverBudget = (s.beatTally win codes).overBudget ∧ (∀ d, (u.slot win.slot).need.get d = 0) ∧
  (∀ d, (u.ink.get d).reserved = (s.ink.get d).reserved - k.need.get d ∧
    (u.ink.get d).level = (s.ink.get d).level - min ((s.beatTally win codes).volume.get d) (k.need.get d)) ∧
  (∀ r, k.cancel = some r → u.Ends win.slot k.seq .cancelled (some r)) ∧
  (k.cancel = none → (sheetEndFlag k.shadow = true ∨ advanceField k.shadow = 0) → u.Ends win.slot k.seq .printed none) ∧
  (k.cancel = none → sheetEndFlag k.shadow = false → advanceField k.shadow ≠ 0 → (u.slot win.slot).st = .advancing ∧
    ∀ v, s.sheetOfSlot win.slot = some v → s.opMayStart = true → ∃ o, u.media.op = some o ∧ o.kind = .advance ∧ o.sheet = some v.sid ∧
      o.slot = some win.slot ∧ o.dist = advanceField k.shadow ∧ o.progress = 0 ∧
      o.target = feedTarget (advanceField k.shadow) (s.mediaProf (v.roll.getD .a)).correction)

theorem State.BeatLeaves.answer {s u : State} {win : Window} {codes : List Nat} (h : s.BeatLeaves win codes u) (cls : ReqClass) (b : Nat) (d : List Byte) :
    s.BeatLeaves win codes (u.answer cls b d) := h

theorem State.BeatLeaves.atRead {s u : State} {win : Window} {codes : List Nat} {cls : ReqClass} {b : Nat}
    (h : (s.atRead cls b).BeatLeaves win codes u) : s.BeatLeaves win codes u := h

section
variable {s : State} {win : Window} {codes : List Nat}

/-- The state that a counted last beat hands to the path of R73. -/
theorem State.fetchCompletes_counted : ∃ q : State, (s.counted win codes).fetchCompletes win.slot = q.afterFetch win.slot ∧
    q.slot win.slot = { (s.beatSlot win codes).capture with need := PerChan.of fun _ => 0 } ∧
    (∀ c, (q.ink.get c).reserved = (s.ink.get c).reserved - (s.slot win.slot).need.get c ∧
      (q.ink.get c).level = (s.ink.get c).level - min ((s.beatTally win codes).volume.get c) ((s.slot win.slot).need.get c)) ∧
    q.parser = s.parser ∧ q.link = s.link ∧ q.out = s.out ∧ q.media = s.media ∧ q.prof = s.prof := by
  obtain ⟨k, v, e, g, completes, ink⟩ := (s.counted win codes).fetchCompletes_eq win.slot
  refine ⟨_, completes, ?_, fun c => ?_, rfl, rfl, rfl, rfl, rfl⟩
  · rw [slot_set (s := s.counted win codes) rfl win.slot, if_pos rfl, State.fetchedSlot, State.slot_counted]
  · have h := ink c
    rw [State.slot_counted] at h
    exact h

variable (room : s.parser.retired.length < 64) (held : s.link.held = none)
include room held

theorem State.fetchCompletes_leaves : s.BeatLeaves win codes ((s.counted win codes).fetchCompletes win.slot) ∧
    ((s.counted win codes).fetchCompletes win.slot).out = s.out ∧ ((s.counted win codes).fetchCompletes win.slot).link = s.link := by
  obtain ⟨q, completes, slot, ink, parser, link, out, media, prof⟩ := State.fetchCompletes_counted (s := s) (win := win) (codes := codes)
  rw [completes]
  have hroom : q.parser.retired.length < 64 := by rw [parser]; exact room
  have hheld : q.link.held = none := by rw [link]; exact held
  have hst : (q.slot win.slot).st = .firing := by rw [slot]; rfl
  have hcancel : (q.slot win.slot).cancel = (s.slot win.slot).cancel := by rw [slot]; rfl
  have hshadow : (q.slot win.slot).shadow = (s.slot win.slot).shadow := by rw [slot]; rfl
  have hseq : (q.slot win.slot).seq = (s.slot win.slot).seq := by rw [slot]; rfl
  have fetched := State.afterFetch_fetched hroom hheld hst (by rw [slot])
  refine ⟨⟨?_, ?_, ?_, fun d => ?_, fun d => ?_, fun r h => ?_, fun h g => ?_, fun h e g => ?_⟩, ?_, ?_⟩
  · rw [fetched.volume, slot]
    rfl
  · rw [fetched.unplaced, slot]
    rfl
  · rw [fetched.overBudget, slot]
    rfl
  · rw [fetched.need]
    exact PerChan.get_of _ d
  · rw [fetched.ink]
    exact ink d
  · exact hseq ▸ (State.afterFetch_retires_cancelled hroom hheld hst (hcancel.trans h)).ends
  · exact hseq ▸ (State.afterFetch_retires_printed hroom hheld hst (hcancel.trans h) (hshadow ▸ g)).ends
  · obtain ⟨advances, op⟩ := State.afterFetch_op (hcancel.trans h) (hshadow ▸ e) (hshadow ▸ g)
    refine ⟨advances, fun v hv may => ?_⟩
    have sheet : q.sheetOfSlot win.slot = some v := by
      have table : q.sheet? = s.sheet? := funext fun sid => State.sheet?_eq (congrArg Media.table media) sid
      rw [← hv, State.sheetOfSlot, State.sheetOfSlot, slot, table]
      rfl
    have start : q.opMayStart = true := by
      rw [← may, State.opMayStart, State.opMayStart, media, link]
    have corr : q.mediaProf (v.roll.getD .a) = s.mediaProf (v.roll.getD .a) := State.mediaProf_congr prof _
    obtain ⟨o, feed⟩ := op v sheet start
    rw [hshadow, corr] at feed
    exact ⟨o, feed⟩
  · rw [fetched.out, out]
  · rw [fetched.link, link]

end

/-- Settles O22: what a beat at its window's mark counts, and what the last beat of a swath completes. -/
theorem countedBeatAdvancesTheMark : Obligations.CountedBeatAdvancesTheMark := by
  unfold Obligations.CountedBeatAdvancesTheMark
  intro s a mem win ready reads c f mark k chan p codes moved kept drops tally windows last prints unplaced budget
  have fetched : (s.counted win (s.beatCodes win mem)).allFetched win.slot = true ↔ last := State.allFetched_counted _
  refine ⟨fun more => ?_, fun cancelled => State.beat_cancelled cancelled, fun ends room => ?_⟩
  · exact State.exec_beat_more ready reads c f mark prints unplaced budget fun h => more (fetched.mp h)
  · have step := State.exec_beat_last ready reads c f mark prints unplaced budget (fetched.mpr ends)
    obtain ⟨leaves, out, link⟩ := State.fetchCompletes_leaves (s := s.atRead .fetch a.toNat) (win := win) (codes := s.beatCodes win mem) room reads.held
    have gathered := (congrArg Link.gathered link).trans reads.gathered
    have waiting := (congrArg Link.waiting link).trans reads.waiting
    have answers := State.answer_alone (b := a.toNat) (d := bytesOf (s.beatKept win (s.beatCodes win mem)).1) gathered waiting (congrArg Outputs.answers out) rfl
    exact ⟨_, _, step, answers, rfl, (leaves.atRead).answer _ _ _⟩

end Sys2Proof.Machine

/-! O7, its refutation: a machine in which only the sheets can move the service queue.

The state after a link reset is stated of some `u` from which the reactions lead to the state that the command leaves. Two sheet records with one
number of identity make the reset itself offer a SPIT that joins the request it has just returned, against the clause on the queue's head; so the
refutation has to exclude every other `u`. Here: with the station and the media in FAULT and no slot in use, no reaction but the test of the sheets
touches the queue or the sheet table. -/
namespace Sys2Proof.Machine

/-- No slot in use, the station and the media in FAULT, no request running, no profile staged. -/
structure State.Stuck (s : State) : Prop where
  posted : s.parser.posted = []
  free : ∀ i, (s.slot i).st = .free
  windows : s.windows = []
  station : s.svc.station = .fault
  idle : s.running? = none
  op : s.media.op = none
  fault : s.media.fault = true
  unstaged : s.prof.anyStaged = false

/-- The posted list, the slots, the windows, the station and its queue, the media and the profiles stay. -/
structure State.Stands (s t : State) : Prop where
  posted : t.parser.posted = s.parser.posted
  slots : t.slots = s.slots
  windows : t.windows = s.windows
  station : t.svc.station = s.svc.station
  queue : t.svc.queue = s.svc.queue
  media : t.media = s.media
  prof : t.prof = s.prof

theorem State.Stands.refl (s : State) : s.Stands s := ⟨rfl, rfl, rfl, rfl, rfl, rfl, rfl⟩

theorem State.Stands.trans {s t u : State} (h : s.Stands t) (g : t.Stands u) : s.Stands u :=
  ⟨g.posted.trans h.posted, g.slots.trans h.slots, g.windows.trans h.windows, g.station.trans h.station, g.queue.trans h.queue,
    g.media.trans h.media, g.prof.trans h.prof⟩

theorem State.Stands.ite {s t u : State} (p : Prop) [Decidable p] (h : s.Stands t) (g : s.Stands u) : s.Stands (if p then t else u) := by
  split
  · exact h
  · exact g

theorem State.AgendaFrame.stands {s t : State} (h : s.AgendaFrame t) : s.Stands t := by
  obtain ⟨a, rfl⟩ := h
  exact ⟨rfl, rfl, rfl, rfl, rfl, rfl, rfl⟩

theorem State.Stands.stuck {s t : State} (h : s.Stands t) (k : s.Stuck) : t.Stuck where
  posted := h.posted.trans k.posted
  free i := by rw [State.slot, h.slots]; exact k.free i
  windows := h.windows.trans k.windows
  station := h.station.trans k.station
  idle := by rw [State.running?, h.queue]; exact k.idle
  op := by rw [h.media]; exact k.op
  fault := by rw [h.media]; exact k.fault
  unstaged := by rw [h.prof]; exact k.unstaged

section
variable {s : State}

theorem State.stands_wake (rs : List Reaction) : s.Stands (s.wake rs) := (State.agendaFrame_wake s rs).stands
theorem State.stands_post (k : EventKind) (a b c : Nat) : s.Stands (s.post k a b c) := ⟨rfl, rfl, rfl, rfl, rfl, rfl, rfl⟩
theorem State.stands_answer (cls : ReqClass) (a : Nat) (d : List Byte) : s.Stands (s.answer cls a d) := ⟨rfl, rfl, rfl, rfl, rfl, rfl, rfl⟩
theorem State.stands_link (l : Link) : s.Stands { s with link := l } := ⟨rfl, rfl, rfl, rfl, rfl, rfl, rfl⟩

theorem State.stands_count (i : CounterId) (n : Nat) : s.Stands (s.count i n) :=
  .ite _ ⟨rfl, rfl, rfl, rfl, rfl, rfl, rfl⟩ ⟨rfl, rfl, rfl, rfl, rfl, rfl, rfl⟩

theorem State.stands_idleTest : s.Stands s.idleTest := .ite _ (.refl s) ⟨rfl, rfl, rfl, rfl, rfl, rfl, rfl⟩

theorem State.stands_refillTest (c : Chan) : s.Stands (s.refillTest c) := by
  have started : s.Stands (s.modInk c (startRun (s.chanProf c))) := ⟨rfl, rfl, rfl, rfl, rfl, rfl, rfl⟩
  exact .ite _ (started.trans (State.agendaFrame_stir _).stands) (.refl s)

theorem State.stands_refillTests : s.Stands s.refillTests := by
  have all (l : List Chan) (t : State) : t.Stands (l.foldl State.refillTest t) := by
    induction l generalizing t with
    | nil => exact .refl t
    | cons c l ih => exact (State.stands_refillTest c).trans (ih _)
  exact all _ s

/-! ### The blocks at rest -/

variable (k : s.Stuck)
include k

theorem State.Stuck.front? : s.front? = none := by
  unfold State.front?
  rw [k.posted]
  rfl

theorem State.Stuck.nextSwath? : s.nextSwath? = none := by
  unfold State.nextSwath?
  rw [k.posted, k.front?]
  split <;> rfl

theorem State.Stuck.directives : s.runDirectives 64 = s := by
  rw [State.runDirectives, State.nextDirective?_empty k.posted]

theorem State.Stuck.evalFront : s.evalFront = s := by
  unfold State.evalFront State.evaluate
  rw [k.directives, k.front?]
  split <;> rfl

theorem State.Stuck.quiet : s.quietTest = s := by
  unfold State.quietTest
  rw [k.unstaged]
  rfl

theorem State.Stuck.serviceStep : s.serviceStep = s := by
  unfold State.serviceStep
  rw [k.station]

theorem State.Stuck.mayStartAny : s.mayStartAny = false := by
  unfold State.mayStartAny
  rw [k.station, k.idle]
  rfl

theorem State.Stuck.walk : s.walk = s := by
  unfold State.walk
  rw [k.mayStartAny]
  rfl

theorem State.Stuck.boundary : s.boundaryWalk = s := by
  unfold State.boundaryWalk
  rw [k.walk]
  exact ite_self ..

theorem State.Stuck.sheetStart : s.sheetStartTest = s := by
  have hold : s.startHoldTest = s := by
    unfold State.startHoldTest
    rw [k.front?]
  unfold State.sheetStartTest
  split
  next t _ => rw [show s.stepTest t = s from if_pos k.fault, hold]
  next => exact hold

theorem State.Stuck.opMayStart : s.opMayStart = false := by
  unfold State.opMayStart
  rw [k.fault, Bool.not_true, Bool.and_false]

theorem State.Stuck.mediaOps : s.mediaTest = s := by
  unfold State.mediaTest
  rw [k.op, k.opMayStart]
  rfl

theorem State.Stuck.starve : s.starveTest = s := by
  unfold State.starveTest State.inkHeld?
  rw [k.front?]

theorem State.Stuck.uncap : s.uncapTest = s := by
  unfold State.uncapTest
  rw [k.nextSwath?]

theorem State.Stuck.disposition (i : SlotIx) : s.disposition i = .wait := by
  unfold State.disposition
  dsimp only
  rw [k.free i]

theorem State.Stuck.heldRead : s.heldReadTest = s := by
  unfold State.heldReadTest
  split
  next i _ => exact if_pos (k.disposition i)
  next => rfl

theorem State.Stuck.inkReport (cs : ChanSet) (f : Bool) : s.Stands (s.inkReport cs f) := by
  have retry : s.Stands (s.inkRetry cs) := by
    unfold State.inkRetry
    split
    · have asked : s.Stands (s.modSvc fun v => { v with spit := { v.spit with refused := false } }) := ⟨rfl, rfl, rfl, rfl, rfl, rfl, rfl⟩
      rw [(asked.stuck k).serviceStep]
      exact asked
    · exact .refl s
  have walk : s.inkWalk cs = s := by
    unfold State.inkWalk
    rw [k.mayStartAny, Bool.and_false]
    rfl
  unfold State.inkReport
  rw [walk]
  dsimp only
  rw [(retry.stuck k).evalFront, ite_self]
  exact retry

/-! ### The link (R3, R9, R14) -/

theorem State.Stuck.linkTest : s.Stands s.linkTest := by
  have rest : s.Stands s.enterLost := by
    unfold State.enterLost
    extract_lets paused t l f u
    have ht : s.Stands t := State.stands_post ..
    have hu : s.Stands u.inkLost := ht.trans ⟨rfl, rfl, rfl, rfl, rfl, rfl, rfl⟩
    have ku := hu.stuck k
    have lost : u.inkLost.serviceLost = u.inkLost := by
      rw [State.serviceLost, if_neg (by rw [ku.station]; exact Bool.false_ne_true), State.restAtOnce_none ku.idle, State.restCap]
      exact if_neg (by rw [ku.station]; simp)
    rw [lost]
    exact (hu.trans (State.stands_wake _)).trans (State.agendaFrame_stir _).stands
  exact .ite _ rest (.refl s)

theorem State.Stuck.planeAnswer (a wid : Nat) (mem : List Byte) : s.planeAnswer a wid mem = (zeroBeat, s.count .strayFetches 1) := by
  unfold State.planeAnswer
  rw [k.windows]
  rfl

theorem State.Stuck.answerSpit (b : Fin 20) : s.Stands (s.answerSpit b) := by
  have answered : s.Stands (s.answer .fetch (s.spanBase + 0x8000 + 64 * b.val) (s.spitData b)) := State.stands_answer ..
  have still : s.answerSpit b = s.answer .fetch (s.spanBase + 0x8000 + 64 * b.val) (s.spitData b) :=
    if_neg (by rw [(answered.stuck k).station]; simp)
  rw [still]
  exact answered

theorem State.Stuck.considerFetch (f : FetchKind) : s.Stands (s.considerFetch f) := by
  cases f with
  | goWord i =>
    rw [State.considerFetch, if_pos (k.disposition i)]
    exact State.stands_link _
  | plane a wid mem =>
    cases wid with
    | none => exact State.stands_answer ..
    | some wid =>
      rw [State.considerFetch, k.planeAnswer]
      exact (State.stands_count ..).trans (State.stands_answer ..)
  | spit b => exact k.answerSpit b
  | event => exact ⟨rfl, rfl, rfl, rfl, rfl, rfl, rfl⟩
  | retirement => exact ⟨rfl, rfl, rfl, rfl, rfl, rfl, rfl⟩
  | raw a mem => exact State.stands_answer ..

end

end Sys2Proof.Machine

/-! O7, its refutation: the reactions of such a machine. -/
namespace Sys2Proof.Machine

section
variable {s : State}

theorem State.stands_arrive : s.Stands s.arrive := by
  unfold State.arrive
  split
  · exact State.stands_link _
  · extract_lets ms
    have restored : s.Stands (({ s with link := { s.link with silence := 0, state := .up, lostMs := 0 } } : State).post .linkRestored 0xFF ms 0) :=
      ⟨rfl, rfl, rfl, rfl, rfl, rfl, rfl⟩
    exact restored.trans (State.agendaFrame_stirWalk _).stands

variable (k : s.Stuck)
include k

theorem State.Stuck.acceptFetch (r : FetchReq) : s.Stands (s.acceptFetch r) := by
  unfold State.acceptFetch
  extract_lets t
  have ht : s.Stands t := ⟨rfl, rfl, rfl, rfl, rfl, rfl, rfl⟩
  split
  · exact ht
  next f fs _ =>
    split
    · split
      · exact ht.trans ((ht.stuck k).considerFetch _)
      · have queued : s.Stands (t.queueFetch (laterBeats fs)) := ht.trans (State.stands_link _)
        exact (queued.trans ((queued.stuck k).considerFetch _)).trans (State.stands_wake _)
    · exact ht.trans (State.stands_link _)

theorem State.Stuck.acceptStalled (r : FetchReq) (rs : List FetchReq) : s.Stands (s.acceptStalled r rs) := by
  unfold State.acceptStalled
  split
  · have arrived : s.Stands ({ s with link := { s.link with stalled := rs } } : State).arrive := (State.stands_link _).trans State.stands_arrive
    exact (arrived.trans ((arrived.stuck k).acceptFetch _)).trans (State.stands_wake _)
  · exact State.stands_arrive.trans (State.stands_wake _)

theorem State.Stuck.drain : s.Stands s.drain := by
  unfold State.drain
  split
  next b bs _ _ =>
    have taken : s.Stands { s with link := { s.link with waiting := bs } } := State.stands_link _
    exact (taken.trans ((taken.stuck k).considerFetch _)).trans (State.stands_wake _)
  · exact .ite _ (k.acceptStalled _ _) (.refl s)
  · exact .refl s

/-- A reaction that is not the test of the sheets. -/
theorem State.Stuck.react {r : Reaction} (other : r ≠ .sheets) : s.Stands (s.react r) := by
  cases r with
  | directives => rw [State.react, k.directives]; exact .refl s
  | evalFront => rw [State.react, k.evalFront]; exact .refl s
  | inkReport cs f => exact k.inkReport cs f
  | quiet => rw [State.react, k.quiet]; exact .refl s
  | refill => exact State.stands_refillTests
  | idle => exact State.stands_idleTest
  | serviceStep => rw [State.react, k.serviceStep]; exact .refl s
  | walk => rw [State.react, k.walk]; exact .refl s
  | boundary => rw [State.react, k.boundary]; exact .refl s
  | sheets => exact absurd rfl other
  | sheetStart => rw [State.react, k.sheetStart]; exact .refl s
  | mediaOps => rw [State.react, k.mediaOps]; exact .refl s
  | starve => rw [State.react, k.starve]; exact .refl s
  | uncap => rw [State.react, k.uncap]; exact .refl s
  | heldRead => rw [State.react, k.heldRead]; exact .refl s
  | drain => exact k.drain
  | linkCheck => exact k.linkTest

end

/-! ### The test of the sheets -/

/-- The posted list, the slots, the windows, the station, the running requests, the operation, the media fault and the profiles stay. -/
structure State.Holds (s t : State) : Prop where
  posted : t.parser.posted = s.parser.posted
  slots : t.slots = s.slots
  windows : t.windows = s.windows
  station : t.svc.station = s.svc.station
  running : runningOf t.svc.queue = runningOf s.svc.queue
  op : t.media.op = s.media.op
  fault : t.media.fault = s.media.fault
  prof : t.prof = s.prof

theorem State.Holds.refl (s : State) : s.Holds s := ⟨rfl, rfl, rfl, rfl, rfl, rfl, rfl, rfl⟩

theorem State.Holds.trans {s t u : State} (h : s.Holds t) (g : t.Holds u) : s.Holds u :=
  ⟨g.posted.trans h.posted, g.slots.trans h.slots, g.windows.trans h.windows, g.station.trans h.station, g.running.trans h.running,
    g.op.trans h.op, g.fault.trans h.fault, g.prof.trans h.prof⟩

theorem State.Holds.ite {s t u : State} (p : Prop) [Decidable p] (h : s.Holds t) (g : s.Holds u) : s.Holds (if p then t else u) := by
  split
  · exact h
  · exact g

theorem State.AgendaFrame.holds {s t : State} (h : s.AgendaFrame t) : s.Holds t := by
  obtain ⟨a, rfl⟩ := h
  exact ⟨rfl, rfl, rfl, rfl, rfl, rfl, rfl, rfl⟩

theorem State.Holds.stuck {s t : State} (h : s.Holds t) (k : s.Stuck) : t.Stuck where
  posted := h.posted.trans k.posted
  free i := by rw [State.slot, h.slots]; exact k.free i
  windows := h.windows.trans k.windows
  station := h.station.trans k.station
  idle := by rw [State.running?_eq, h.running, ← State.running?_eq]; exact k.idle
  op := h.op.trans k.op
  fault := h.fault.trans k.fault
  unstaged := by rw [h.prof]; exact k.unstaged

section
variable {s : State}

theorem State.WipeFrame.holds {t : State} (h : s.WipeFrame t) : s.Holds t := by
  obtain ⟨⟨q, w, e, a, rfl⟩, running, -⟩ := h
  exact ⟨rfl, rfl, rfl, rfl, running, rfl, rfl, rfl⟩

theorem State.holds_modSheet (sid : Nat) (f : Sheet → Sheet) : s.Holds (s.modSheet sid f) := ⟨rfl, rfl, rfl, rfl, rfl, rfl, rfl, rfl⟩

theorem State.holds_post (k : EventKind) (a b c : Nat) : s.Holds (s.post k a b c) := ⟨rfl, rfl, rfl, rfl, rfl, rfl, rfl, rfl⟩

theorem State.holds_offerStaleSpit (cs : ChanSet) : s.Holds (s.offerStaleSpit cs) := by
  have owed (t : State) (c : ChanSet) : t.Holds (t.modSvc fun v => { v with spitOwed := c }) := ⟨rfl, rfl, rfl, rfl, rfl, rfl, rfl, rfl⟩
  have offered := (s.wipeFrame_offer .spit cs).holds
  unfold State.offerStaleSpit
  split
  · exact .refl s
  · split
    next e => rw [e] at offered; exact offered.trans (owed _ _)
    next e => rw [e] at offered; exact offered.trans (owed _ _)

theorem State.holds_sheetBoundarySpit : s.Holds s.sheetBoundarySpit := .ite _ (State.holds_offerStaleSpit _) (.refl s)

theorem State.holds_sheetMoved (sid : Nat) : s.Holds (s.sheetMoved sid) :=
  (State.Holds.ite _ (State.agendaFrame_wake _ _).holds (.refl s)).trans (State.agendaFrame_stirWalk _).holds

theorem State.holds_leavePrinting (t : Sheet) : s.Holds (s.leavePrinting t) := .ite _ ⟨rfl, rfl, rfl, rfl, rfl, rfl, rfl, rfl⟩ (.refl s)

theorem State.holds_becomeSpoiled (t : Sheet) (cut : Bool) : s.Holds (s.becomeSpoiled t cut) := by
  unfold State.becomeSpoiled
  extract_lets u v
  have hu : s.Holds u := (State.holds_leavePrinting t).trans (State.holds_modSheet _ _)
  have hv : s.Holds v := hu.trans (State.holds_post ..)
  exact (hv.trans State.holds_sheetBoundarySpit).trans (State.holds_sheetMoved _)

theorem State.holds_becomeDone (t : Sheet) : s.Holds (s.becomeDone t) := by
  unfold State.becomeDone
  extract_lets u v
  have hu : s.Holds u := State.holds_modSheet _ _
  have hv : s.Holds v := hu.trans (State.holds_post ..)
  exact (hv.trans State.holds_sheetBoundarySpit).trans (State.holds_sheetMoved _)

theorem State.holds_dropDue (sid : Nat) : s.Holds (s.dropDue sid) := .ite _ ⟨rfl, rfl, rfl, rfl, rfl, rfl, rfl, rfl⟩ (.refl s)

theorem State.holds_moveSheet (sid : Nat) (f : Sheet → Sheet) : s.Holds (s.moveSheet sid f) :=
  (State.holds_modSheet sid f).trans (State.holds_sheetMoved sid)

theorem State.holds_makeDue (d : DueOp) : s.Holds (s.makeDue d) := ⟨rfl, rfl, rfl, rfl, rfl, rfl, rfl, rfl⟩

variable (k : s.Stuck)
include k

theorem State.Stuck.startFeed (kind : OpKind) (t : Sheet) (i : Option SlotIx) (dist : Nat) : s.Holds (s.startFeed kind t i dist) := by
  rw [State.startFeed, if_neg (by rw [k.opMayStart]; exact Bool.false_ne_true)]
  exact State.holds_makeDue _

theorem State.Stuck.toCutting (t : Sheet) : s.Holds (s.toCutting t) := by
  have moved : s.Holds (s.moveSheet t.sid fun t => { t with st := .cutting }) := State.holds_moveSheet _ _
  rw [State.toCutting, State.startCut, if_neg (by rw [(moved.stuck k).opMayStart]; exact Bool.false_ne_true)]
  exact moved.trans (State.holds_makeDue _)

theorem State.Stuck.toTrailing (t : Sheet) : s.Holds (s.toTrailing t) := by
  unfold State.toTrailing
  extract_lets dist u
  have hu : s.Holds u := ((State.holds_dropDue t.sid).trans (State.holds_leavePrinting t)).trans (State.holds_moveSheet _ _)
  exact .ite _ (hu.trans ((hu.stuck k).toCutting t)) (hu.trans ((hu.stuck k).startFeed ..))

theorem State.Stuck.spoiledEnd (t : Sheet) : s.Holds (s.spoiledEnd t) := by
  have dropped : s.Holds (s.dropDue t.sid) := State.holds_dropDue _
  exact .ite _ (dropped.trans ((dropped.stuck k).toTrailing t)) (dropped.trans (State.holds_becomeSpoiled t false))

theorem State.Stuck.sheetEndTest (t : Sheet) : s.Holds (s.sheetEndTest t) := by
  unfold State.sheetEndTest
  cases t.st with
  | pending => exact .ite _ (State.holds_becomeSpoiled t false) (.ite _ (State.holds_becomeDone t) (.refl s))
  | starting =>
    exact .ite _ (.refl s) (.ite _ ((State.holds_dropDue _).trans (State.holds_becomeSpoiled t false))
      (.ite _ ((State.holds_dropDue _).trans (State.holds_becomeDone t)) (.refl s)))
  | leading => exact .ite _ (k.spoiledEnd t) (.refl s)
  | printing => exact .ite _ (.ite _ (k.spoiledEnd t) (.ite _ (k.toTrailing t) (.refl s))) (.refl s)
  | trailing | cutting | done | spoiled => exact .refl s

omit k in
theorem State.Stuck.foldl_sheetEndTest (l : List Nat) (k : s.Stuck) :
    s.Holds (l.foldl (fun s sid => match s.sheet? sid with | some t => s.sheetEndTest t | none => s) s) := by
  induction l generalizing s with
  | nil => exact .refl s
  | cons sid l ih =>
    have one : s.Holds (match s.sheet? sid with | some t => s.sheetEndTest t | none => s) := by
      split
      · exact k.sheetEndTest _
      · exact .refl s
    exact one.trans (ih (one.stuck k))

/-- After the test of the sheets no record is left that would leave the table. -/
theorem State.Stuck.sheetsTest : s.Holds s.sheetsTest ∧ ∀ t ∈ s.sheetsTest.media.table, t.leaves = false := by
  have looked := k.foldl_sheetEndTest (s.media.table.map Sheet.sid)
  refine ⟨looked.trans ⟨rfl, rfl, rfl, rfl, rfl, rfl, rfl, rfl⟩, fun t m => ?_⟩
  have kept := (List.mem_filter.mp m).2
  rwa [Bool.not_eq_true'] at kept

end

/-! ### The reactions one after another -/

/-- The queue has its head, or no record is left that would leave the table. -/
def State.Untested (s : State) (r : ServiceReq) : Prop := s.svc.queue.head? = some r ∨ ∀ t ∈ s.media.table, t.leaves = false

theorem State.Stuck.settle {s : State} (n : Nat) (k : s.Stuck) {r : ServiceReq} (h : s.Untested r) : (Machine.settle n s).Untested r := by
  induction n generalizing s with
  | zero => exact h
  | succ n ih =>
    rw [Machine.settle]
    split
    · exact h
    next x rest _ =>
      have ke : ({ s with agenda := rest } : State).Stuck := State.Stands.stuck (s := s) ⟨rfl, rfl, rfl, rfl, rfl, rfl, rfl⟩ k
      by_cases e : x = .sheets
      · subst e
        obtain ⟨holds, left⟩ := ke.sheetsTest
        exact ih (holds.stuck ke) (.inr left)
      · have stands := ke.react e
        refine ih (stands.stuck ke) (h.imp (fun q => ?_) fun left => ?_)
        · rw [stands.queue]
          exact q
        · rw [stands.media]
          exact left

end Sys2Proof.Machine

/-! O7, its refutation: the state, and what a link reset makes of it. -/
namespace Sys2Proof.Machine

/-- The SPIT that runs when the link reset comes. -/
def runningSpit : ServiceReq := { level := .spit, chans := ChanSet.single .cyan, flow := false, started := false, state := .running }

/-- One of the two sheet records that share their number of identity. -/
def twinSheet (st : SheetState) : Sheet := { newSheet (List.replicate 192 0) 1 0 with st := st }

/-- A station in FAULT with a request running, magenta stale under policy NEEDED, the media in FAULT, and two records of one identity, the first PENDING. -/
def twinState (a : List Reaction) : State :=
  { State.reset with
      agenda := a,
      prof := { State.reset.prof with flow := { State.reset.prof.flow with spitPolicy := .needed } },
      svc := { State.reset.svc with
        station := .fault, queue := [runningSpit], decap := State.reset.svc.decap.set .magenta { Decap.zero with stale := true } },
      media := { State.reset.media with table := [twinSheet .pending, twinSheet .printing], fault := true } }

/-- The twin of the PENDING record is spoiled, so the PENDING one becomes SPOILED within the reset, and the SPIT that this offers joins the returned request. -/
theorem twinState_reset : let u := (twinState []).linkResetSteps
    u.svc.queue.head? ≠ some { runningSpit with state := .queued } ∧ u.media.table.any Sheet.leaves = true ∧
    (u.agenda.foldl joinReaction []).any Reaction.reportsInk = false ∧ u.link.held.isNone ∧ u.link.waiting.isEmpty ∧ u.link.stalled.isEmpty ∧
    u.link.gathered.isEmpty := by
  decide +kernel

/-- Reactions that are no ink report are put behind those that stand. -/
theorem foldl_addReaction_appends (l a : List Reaction) (h : l.any Reaction.reportsInk = false) : ∃ rest, l.foldl addReaction a = a ++ rest := by
  induction l generalizing a with
  | nil => exact ⟨[], (List.append_nil a).symm⟩
  | cons r l ih =>
    rw [List.any_cons, Bool.or_eq_false_iff] at h
    obtain ⟨more, one⟩ : ∃ more, addReaction a r = a ++ more := by
      unfold addReaction
      rw [if_neg (by rw [h.1]; exact Bool.false_ne_true)]
      split
      · exact ⟨[r], rfl⟩
      · exact ⟨[], (List.append_nil a).symm⟩
    obtain ⟨rest, e⟩ := ih (a ++ more) h.2
    exact ⟨more ++ rest, by rw [List.foldl_cons, one, e, List.append_assoc]⟩

/-- With no read in hand the drains of an agenda are taken and nothing changes. -/
theorem settle_drains (n : Nat) (rest : List Reaction) {s : State} (reads : NoReads s) :
    settle n { s with agenda := List.replicate n .drain ++ rest } = { s with agenda := rest } := by
  induction n with
  | zero => rfl
  | succ n ih =>
    have drained (a : List Reaction) : ({ s with agenda := a } : State).drain = { s with agenda := a } := by
      unfold State.drain
      split
      next w => exact absurd (reads.waiting.symm.trans w) nofun
      next w _ => exact absurd (reads.stalled.symm.trans w) nofun
      next => rfl
    rw [← ih]
    exact congrArg (settle n) (drained _)

/-- With as many drains before it as one command takes reactions, what the reset leaves is what the command leaves. -/
theorem twinState_after : ∃ rest, settle settleFuel (twinState (List.replicate settleFuel .drain)).cleared.linkResets =
    { (twinState []).linkResetSteps with agenda := rest } := by
  obtain ⟨-, -, quiet, held, waiting, stalled, gathered⟩ := twinState_reset
  obtain ⟨rest, e⟩ := foldl_addReaction_appends _ (List.replicate settleFuel .drain) quiet
  have reads : NoReads (twinState []).linkResetSteps :=
    ⟨Option.isNone_iff_eq_none.mp held, List.isEmpty_iff.mp gathered, List.isEmpty_iff.mp waiting, List.isEmpty_iff.mp stalled⟩
  have together : (twinState (List.replicate settleFuel .drain)).cleared.linkResets =
      { (twinState []).linkResetSteps with agenda := List.replicate settleFuel .drain ++ rest } := by
    rw [← e]
    rfl
  exact ⟨rest, by rw [together, settle_drains _ _ reads]⟩

theorem exec_linkReset (s : State) : exec .linkReset s = .next (settle settleFuel s.cleared.linkResets) := rfl

/-- Refutes O7: in this state no `u` is as the statement says. The head of its queue would have to be the returned SPIT as it was, and only the test of
the sheets could lead from there to the queue that the command leaves; but that test would have taken the SPOILED records out of the table. -/
theorem not_linkResetClearsTheFlowOfWork : ¬ Obligations.LinkResetClearsTheFlowOfWork := by
  unfold Obligations.LinkResetClearsTheFlowOfWork
  intro h
  obtain ⟨u, t, step, reactions, ⟨-, -, -, -, returns, -, -, station, -, -, op, fault, -, -, prof, -⟩, slots, posted, -, windows, -⟩ :=
    h (twinState (List.replicate settleFuel .drain))
  have running : (twinState (List.replicate settleFuel .drain)).running? = some runningSpit := rfl
  have rests : ¬ ((twinState (List.replicate settleFuel .drain)).svc.station = .capping ∨ (twinState (List.replicate settleFuel .drain)).svc.station = .uncapping ∨
      (twinState (List.replicate settleFuel .drain)).svc.station = .wiping ∨ (twinState (List.replicate settleFuel .drain)).svc.station = .suction) := by
    change ¬ (Station.fault = .capping ∨ Station.fault = .uncapping ∨ Station.fault = .wiping ∨ Station.fault = .suction)
    decide
  obtain ⟨-, -, idle, head⟩ := returns ⟨rests, congrArg Option.isSome running⟩
  have stuck : u.Stuck := {
    posted := posted
    free := fun i => by rw [slots i]; rfl
    windows := windows
    station := by
      rw [station, if_neg fun e => Station.noConfusion e.2, if_neg fun e => Station.noConfusion e.2]
      rfl
    idle := (State.running?_eq_none_iff u).mpr idle
    op := op
    fault := fault
    unstaged := by rw [prof]; decide }
  have untested : t.Untested { runningSpit with state := .queued } := reactions ▸ stuck.settle settleFuel (.inl (head runningSpit running rfl))
  have left : t = settle settleFuel (twinState (List.replicate settleFuel .drain)).cleared.linkResets := Host.Outcome.next.inj (step.symm.trans (exec_linkReset _))
  obtain ⟨rest, after⟩ := twinState_after
  have reset := twinState_reset
  rw [left, after] at untested
  generalize (twinState []).linkResetSteps = v at reset untested
  obtain ⟨joined, spoiled, -⟩ := reset
  rcases untested with whole | none_leaves
  · exact joined whole
  · obtain ⟨x, m, leaves⟩ := List.any_eq_true.mp spoiled
    exact Bool.false_ne_true ((none_leaves x m).symm.trans leaves)

end Sys2Proof.Machine
